-- ==== Sys2Proof/Word.lean ====
section
/-!
DEFINITION. The word types of the machine and the reading of a field of a word (00 R4, R8).
-/
namespace Sys2Proof

/-- A byte. -/
abbrev Byte := BitVec 8
/-- A 64-bit register or address. -/
abbrev Word := BitVec 64
/-- A vector register, a sector or a vector queue entry: 64 bytes. -/
abbrev Vec := BitVec 512

/-- The len bits of w from bit lo up. -/
def bits {n : Nat} (w : BitVec n) (lo len : Nat) : BitVec len := w.extractLsb' lo len

end Sys2Proof
end

