-- ==== Sys2Proof/Config.lean ====
section
/-!
DEFINITION. What an implementation fixes and the manual leaves open: free values without a body, so that nothing can
prove a value of them.

Readings of the manual and choices that this file codes: assumption log 2, 7, 18, 125.
-/
namespace Sys2Proof.Config

open Sys2Proof

/-- A value that the manual leaves open and that may differ at each use: the n-th such value (assumption log 2). -/
opaque freeValue : Nat → BitVec 512

/-- Which of the values within the bound of 05 R116 an approximation gives (a fixed function of the instruction, format
and source, R115): a number that the instruction reduces to the count of admissible results (assumption log 7). -/
opaque approxChoice : Nat → Nat → Nat → Nat

/-- Whether a device of a revision lacks an atomic operation or update (04 R99, R102): its ATOM code and size, or 16 and its UPD code,
as 2 × code + size (assumption log 125). -/
opaque lacksAtomic : BitVec 16 → Nat → Bool

/-- The device certificate chain of a package, as its module flash holds it (26 R415). -/
opaque certificateChain : Nat → List Nat

/-- The signature of a CHALLENGE nonce by the identity key of a die (26 R415). -/
opaque signature : Nat → BitVec 256 → BitVec 768

/-- The measurement of an item (its number, then what the item holds) (26 R415). -/
opaque measurement : List Nat → BitVec 384

end Sys2Proof.Config
end

