-- ==== Sys2Proof/Machine/Float.lean ====
section
/-!
DEFINITION. Floating formats, exact values and rounding (03 R59 to R62, R70 to R74).

A value is exact: a sign, a natural significand and a power of two, or a quotient of naturals where a division asks for
one.  Rounding takes the exact quotient once to the grid of the target; on every format of table 3.2 the encodings of
the magnitudes rise with the magnitudes, so rounding works on the encoding as a number.

Readings of the manual and choices that this file codes: assumption log 23.
-/
namespace Sys2Proof.Machine

open Sys2Proof

/-- The floating formats with a sign (03 table 3.2). -/
inductive Fmt where
  | fp64 | fp32 | bf16 | fp16 | e4m3 | e5m2 | e2m3 | e3m2 | e2m1
deriving DecidableEq, Repr

/-- Exponent field width. -/
def Fmt.ebits : Fmt → Nat
  | .fp64 => 11 | .fp32 => 8 | .bf16 => 8 | .fp16 => 5 | .e4m3 => 4 | .e5m2 => 5 | .e2m3 => 2 | .e3m2 => 3 | .e2m1 => 2

/-- Mantissa width. -/
def Fmt.mbits : Fmt → Nat
  | .fp64 => 52 | .fp32 => 23 | .bf16 => 7 | .fp16 => 10 | .e4m3 => 3 | .e5m2 => 2 | .e2m3 => 3 | .e3m2 => 2 | .e2m1 => 1

/-- Exponent bias. -/
def Fmt.bias (f : Fmt) : Nat := 2 ^ (f.ebits - 1) - 1

/-- Width in bits. -/
def Fmt.width (f : Fmt) : Nat := 1 + f.ebits + f.mbits

/-- Formats with infinities. -/
def Fmt.hasInf : Fmt → Bool
  | .fp64 | .fp32 | .bf16 | .fp16 | .e5m2 => true
  | _ => false

/-- Magnitude encoding of the largest finite value. -/
def Fmt.maxFinite (f : Fmt) : Nat :=
  if f.hasInf then (2 ^ f.ebits - 1) * 2 ^ f.mbits - 1
  else if f = .e4m3 then 0x7E
  else 2 ^ (f.ebits + f.mbits) - 1

/-- The canonical NaN (03 R60); FP6 and FP4 have none and take +0 (R73). -/
def Fmt.nan : Fmt → Nat
  | .fp64 => 0x7FF8000000000000 | .fp32 => 0x7FC00000 | .bf16 => 0x7FC0 | .fp16 => 0x7E00 | .e4m3 => 0x7F
  | .e5m2 => 0x7E | .e2m3 => 0 | .e3m2 => 0 | .e2m1 => 0

/-- Whether the IEEE overflow rule applies; the narrow formats saturate (03 R72). -/
def Fmt.ieee : Fmt → Bool
  | .fp64 | .fp32 | .bf16 | .fp16 => true
  | _ => false

/-- An exact value: NaN, an infinity, or a signed significand times a power of two (a zero keeps its sign). -/
inductive FVal where
  | nan
  | inf (neg : Bool)
  | fin (neg : Bool) (m : Nat) (e : Int)
deriving DecidableEq, Repr

/-- Rounding modes (03 R70, R72): the stochastic mode carries its 16-bit draw. -/
inductive Rnd where
  | rne | rz | rup | rdn | nsat
  | sto (draw : Nat)
deriving DecidableEq, Repr

/-- The exact value of an encoding (03 R59). -/
def decodeF (f : Fmt) (w : Nat) : FVal :=
  let neg := w / 2 ^ (f.ebits + f.mbits) % 2 == 1
  let e := w / 2 ^ f.mbits % 2 ^ f.ebits
  let m := w % 2 ^ f.mbits
  if f.hasInf && e == 2 ^ f.ebits - 1 then (if m == 0 then .inf neg else .nan)
  else if f = .e4m3 && e == 15 && m == 7 then .nan
  else if e == 0 then .fin neg m (1 - (f.bias : Int) - f.mbits)
  else .fin neg (2 ^ f.mbits + m) ((e : Int) - f.bias - f.mbits)

/-- Sets the sign bit of a magnitude encoding. -/
def Fmt.signed (f : Fmt) (neg : Bool) (mag : Nat) : Nat := if neg then mag + 2 ^ (f.ebits + f.mbits) else mag

/-- The encoding of an infinity, or of the largest finite value where the format has none (03 R73). -/
def Fmt.infinity (f : Fmt) (neg : Bool) : Nat :=
  f.signed neg (if f.hasInf then f.maxFinite + 1 else f.maxFinite)

/-- The floor of log2 of num/den, both positive. -/
def floorLog2 (num den : Nat) : Int :=
  let a : Int := (Nat.log2 num : Int) - Nat.log2 den
  let ge := if a ≥ 0 then decide (den * 2 ^ a.toNat ≤ num) else decide (den ≤ num * 2 ^ (-a).toNat)
  if ge then a else a - 1

/-- Whether the magnitude q + rem/den rounds up to q + 1. -/
def roundsUp (mode : Rnd) (neg : Bool) (q rem den : Nat) : Bool :=
  match mode with
  | .rne | .nsat => decide (den < 2 * rem) || (2 * rem == den && q % 2 == 1)
  | .rz => false
  | .rup => !neg && rem != 0
  | .rdn => neg && rem != 0
  | .sto draw => decide (2 ^ 16 ≤ rem * 2 ^ 16 / den + draw)

/-- What a finite result beyond the largest value becomes (03 R72); a stochastic one saturates (R71). -/
def overflowed (f : Fmt) (mode : Rnd) (neg : Bool) : Nat :=
  if f.ieee then
    match mode with
    | .rne | .nsat => f.infinity neg
    | .rz | .sto _ => f.signed neg f.maxFinite
    | .rup => if neg then f.signed neg f.maxFinite else f.infinity neg
    | .rdn => if neg then f.infinity neg else f.signed neg f.maxFinite
  else if mode = .nsat then
    (if f = .e4m3 then f.nan else f.infinity neg)
  else f.signed neg f.maxFinite

/-- Rounds the exact magnitude num/den times 2^e to the format, once (03 R70, R74): the encoding with its sign. -/
def roundQ (f : Fmt) (mode : Rnd) (neg : Bool) (num den : Nat) (e : Int) : Nat :=
  if num = 0 then f.signed neg 0
  else
    let emin : Int := 1 - (f.bias : Int)
    let top := floorLog2 num den + e
    let base := if top < emin then emin else top
    let sh := e - (base - f.mbits)
    let n := if sh ≥ 0 then num * 2 ^ sh.toNat else num
    let d := if sh ≥ 0 then den else den * 2 ^ (-sh).toNat
    let q := n / d
    let r := n % d
    let enc := (base - emin).toNat * 2 ^ f.mbits + q + (if roundsUp mode neg q r d then 1 else 0)
    if f.maxFinite < enc then overflowed f mode neg else f.signed neg enc

/-- Rounds an exact value to the format (03 R72, R73). -/
def roundF (f : Fmt) (mode : Rnd) : FVal → Nat
  | .nan => f.nan
  | .inf neg => f.infinity neg
  | .fin neg m e => roundQ f mode neg m 1 e

/-- The integer of a finite significand: sign applied. -/
def signedInt (neg : Bool) (m : Nat) : Int := if neg then -(m : Int) else m

/-- The exact sum; an exact zero of operands that are not both negative zeros is negative only toward minus infinity. -/
def addF (mode : Rnd) (x y : FVal) : FVal :=
  match x, y with
  | .nan, _ | _, .nan => .nan
  | .inf a, .inf b => if a = b then .inf a else .nan
  | .inf a, _ => .inf a
  | _, .inf b => .inf b
  | .fin a m e, .fin b n g =>
    let lo := if e ≤ g then e else g
    let t := signedInt a (m * 2 ^ (e - lo).toNat) + signedInt b (n * 2 ^ (g - lo).toNat)
    if t = 0 then (if m = 0 ∧ n = 0 ∧ a = b then .fin a 0 lo else .fin (mode = .rdn) 0 lo)
    else .fin (t < 0) t.natAbs lo

/-- The negated value. -/
def negF : FVal → FVal
  | .nan => .nan
  | .inf a => .inf !a
  | .fin a m e => .fin (!a) m e

/-- The exact product. -/
def mulF (x y : FVal) : FVal :=
  match x, y with
  | .nan, _ | _, .nan => .nan
  | .inf a, .inf b => .inf (a != b)
  | .inf a, .fin b n _ => if n = 0 then .nan else .inf (a != b)
  | .fin a m _, .inf b => if m = 0 then .nan else .inf (a != b)
  | .fin a m e, .fin b n g => .fin (a != b) (m * n) (e + g)

/-- The correctly rounded quotient. -/
def divF (f : Fmt) (mode : Rnd) (x y : FVal) : Nat :=
  match x, y with
  | .nan, _ | _, .nan => f.nan
  | .inf _, .inf _ => f.nan
  | .inf a, .fin b _ _ => f.infinity (a != b)
  | .fin a _ _, .inf b => f.signed (a != b) 0
  | .fin a m e, .fin b n g =>
    if n = 0 then (if m = 0 then f.nan else f.infinity (a != b))
    else roundQ f mode (a != b) m n (e - g)

/-- The integer square root of n among numbers below 2^k more than lo, bit by bit. -/
def isqrtBits (n : Nat) : Nat → Nat → Nat
  | 0, r => r
  | k + 1, r => isqrtBits n k (if (r + 2 ^ k) * (r + 2 ^ k) ≤ n then r + 2 ^ k else r)

/-- The integer square root. -/
def isqrt (n : Nat) : Nat := isqrtBits n (Nat.log2 n / 2 + 1) 0

/-- The square root of m times 2^e to 64 more bits than any target holds: significand, exponent, exactness. -/
def sqrtParts (m : Nat) (e : Int) : Nat × Int × Bool :=
  let e1 := if e % 2 = 0 then e else e - 1
  let m1 := (if e % 2 = 0 then m else 2 * m) * 2 ^ 256
  let r := isqrt m1
  (r, (e1 - 256) / 2, r * r == m1)

/-- The correctly rounded square root: an inexact root lies strictly between r and r + 1, so half a unit stands for the
rest. -/
def sqrtF (f : Fmt) (mode : Rnd) (x : FVal) : Nat :=
  match x with
  | .nan => f.nan
  | .inf neg => if neg then f.nan else f.infinity false
  | .fin neg m e =>
    if m = 0 then f.signed neg 0
    else if neg then f.nan
    else
      let p := sqrtParts m e
      if p.2.2 then roundQ f mode false p.1 1 p.2.1 else roundQ f mode false (2 * p.1 + 1) 2 p.2.1

/-- Whether x is below y as numbers (neither NaN). -/
def ltF (x y : FVal) : Bool :=
  match x, y with
  | .nan, _ | _, .nan => false
  | .inf a, .inf b => a && !b
  | .inf a, .fin _ _ _ => a
  | .fin _ _ _, .inf b => !b
  | .fin a m e, .fin b n g =>
    let lo := if e ≤ g then e else g
    decide (signedInt a (m * 2 ^ (e - lo).toNat) < signedInt b (n * 2 ^ (g - lo).toNat))

/-- Whether x and y are equal numbers; zeros of either sign are equal and a NaN equals nothing. -/
def eqF (x y : FVal) : Bool :=
  match x, y with
  | .nan, _ | _, .nan => false
  | _, _ => !ltF x y && !ltF y x

/-- Whether a value is NaN. -/
def FVal.isNan : FVal → Bool
  | .nan => true
  | _ => false

/-- The sign of a value. -/
def FVal.neg : FVal → Bool
  | .nan => false
  | .inf a => a
  | .fin a _ _ => a

/-- Whether a value is a zero. -/
def FVal.isZero : FVal → Bool
  | .fin _ 0 _ => true
  | _ => false

/-- FMIN and FMAX (04 R103): NaN if either is NaN; minus zero stands below plus zero. -/
def minmaxF (f : Fmt) (max : Bool) (a b : Nat) : Nat :=
  let x := decodeF f a
  let y := decodeF f b
  if x.isNan || y.isNan then f.nan
  else
    let less := ltF x y || (x.isZero && y.isZero && x.neg && !y.neg)
    if less != max then roundF f .rne x else roundF f .rne y

/-- Rounds a magnitude num/den times 2^e to an integer, sign applied. -/
def roundInt (mode : Rnd) (neg : Bool) (m : Nat) (e : Int) : Int :=
  if e ≥ 0 then signedInt neg (m * 2 ^ e.toNat)
  else
    let d := 2 ^ (-e).toNat
    let q := m / d
    signedInt neg (if roundsUp mode neg q (m % d) d then q + 1 else q)

/-- Limits an integer to a range. -/
def clampInt (lo hi x : Int) : Int := if x < lo then lo else if hi < x then hi else x

/-- Conversion to an integer range (03 R58): rounds, saturates, and takes a NaN to 0. -/
def toIntF (mode : Rnd) (lo hi : Int) : FVal → Int
  | .nan => 0
  | .inf neg => if neg then lo else hi
  | .fin neg m e => clampInt lo hi (roundInt mode neg m e)

/-- An integer as an exact value. -/
def ofIntF (x : Int) : FVal := .fin (decide (x < 0)) x.natAbs 0

/-- Conversion between floating formats (03 R72 to R74). -/
def convF (src dst : Fmt) (mode : Rnd) (w : Nat) : Nat := roundF dst mode (decodeF src w)

/-- One draw of a generator (03 R71): the next state; the draw is its low 16 bits. -/
def drawState (x : BitVec 32) : BitVec 32 :=
  let a := x ^^^ (x <<< 13)
  let b := a ^^^ (a >>> 17)
  b ^^^ (b <<< 5)

end Sys2Proof.Machine
end

