-- ==== Sys2Proof/Machine/Lanes.lean ====
section
/-!
DEFINITION. Lanes of vector registers (05 R108), integer lane operations (05 R113), approximations (05 R116),
microscaling blocks (03 R63, R64) and XE8 blocks (03 R65 to R67).

Readings of the manual and choices that this file codes: assumption log 7, 23.
-/
namespace Sys2Proof.Machine

open Sys2Proof

/-- Lane i of width w of a vector register, as a number (05 R108). -/
def lane (v : Vec) (w i : Nat) : Nat := v.toNat / 2 ^ (w * i) % 2 ^ w

/-- A number read as two's complement of width w. -/
def toSigned (w x : Nat) : Int := if x % 2 ^ w < 2 ^ (w - 1) then (x % 2 ^ w : Nat) else (x % 2 ^ w : Nat) - (2 ^ w : Nat)

/-- An integer as a number of width w, wrapped (03 R58). -/
def ofSigned (w : Nat) (x : Int) : Nat := (x % (2 ^ w : Nat)).toNat

/-- Lists of numbers of width w packed with the first lowest. -/
def packLanes (w : Nat) : List Nat → Nat
  | [] => 0
  | x :: r => x % 2 ^ w + 2 ^ w * packLanes w r

/-- The register whose lane i of width w is f i. -/
def vecOf (w : Nat) (f : Nat → Nat) : Vec := BitVec.ofNat 512 (packLanes w ((List.range (512 / w)).map f))

/-- The bits of the lanes of width w that p selects. -/
def laneBits (w : Nat) (p : Nat → Bool) : Vec := vecOf w fun i => if p i then 2 ^ w - 1 else 0

/-- Integer lane operations (05 table 5.1). -/
inductive IntOp where
  | add | sub | mul | mulh | min | max | minz | maxz | and | or | xor | sll | srl | sra
deriving DecidableEq, Repr

/-- The value of an integer operation on w-bit elements (05 R113, table 5.1; MINZ and MAXZ of table 5.7). -/
def intLane (op : IntOp) (w a b : Nat) : Nat :=
  match op with
  | .add => (a + b) % 2 ^ w
  | .sub => (a + 2 ^ w - b % 2 ^ w) % 2 ^ w
  | .mul => a * b % 2 ^ w
  | .mulh => ofSigned w (toSigned w a * toSigned w b / (2 ^ w : Nat))
  | .min => if toSigned w a ≤ toSigned w b then a else b
  | .max => if toSigned w a ≤ toSigned w b then b else a
  | .minz => if a ≤ b then a else b
  | .maxz => if a ≤ b then b else a
  | .and => Nat.land a b
  | .or => Nat.lor a b
  | .xor => Nat.xor a b
  | .sll => a * 2 ^ (b % w) % 2 ^ w
  | .srl => a / 2 ^ (b % w)
  | .sra => ofSigned w (toSigned w a / (2 ^ (b % w) : Nat))

/-! ### Approximations -/

/-- A number that orders the encodings of a format by value: negative for negative magnitudes. -/
def encKey (f : Fmt) (enc : Nat) : Int :=
  let mag := enc % 2 ^ (f.ebits + f.mbits)
  if enc / 2 ^ (f.ebits + f.mbits) % 2 = 1 then -(mag : Int) else mag

/-- The encoding of a key; key 0 is +0. -/
def keyEnc (f : Fmt) (k : Int) : Nat := f.signed (decide (k < 0)) k.natAbs

/-- The key of the largest encoding at or below a signed quotient times 2^e, or of the smallest at or above. -/
def keyAt (f : Fmt) (up : Bool) (n : Int) (den : Nat) (e : Int) : Int :=
  encKey f (roundQ f (if up then .rup else .rdn) (decide (n < 0)) n.natAbs den e)

/-- One of the encodings from key lo to key hi, chosen by the configuration (assumption log 7). -/
def chooseKey (f : Fmt) (op src : Nat) (lo hi : Int) : Nat :=
  keyEnc f (lo + ((Config.approxChoice op f.width src % ((hi - lo).toNat + 1) : Nat) : Int))

/-- The approximations (05 table 5.2). -/
inductive ApxOp where
  | rcp | rsq | exp2 | log2
deriving DecidableEq, Repr

/-- The number of an approximation in the configuration. -/
def ApxOp.code : ApxOp → Nat
  | .rcp => 0 | .rsq => 1 | .exp2 => 2 | .log2 => 3

/-- The fixed-point precision of the exact values that stand behind approximations. -/
def apxBits : Nat := 256

/-- 2^(2^-i) in fixed point, for i from 1: repeated square roots of 2. -/
def exp2Step (x : Nat) : Nat := isqrt (x * 2 ^ apxBits)

/-- 2 to the fraction whose bits (below the point, highest first) are given, in fixed point. -/
def exp2Frac : List Bool → Nat → Nat → Nat
  | [], _, acc => acc
  | b :: r, root, acc =>
    let root' := exp2Step root
    exp2Frac r root' (if b then acc * root' / 2 ^ apxBits else acc)

/-- The bits of n from bit k - 1 down to bit 0. -/
def bitsDown (n : Nat) : Nat → List Bool
  | 0 => []
  | k + 1 => (n / 2 ^ k % 2 == 1) :: bitsDown n k

/-- The fraction bits of log2 of y in [1, 2) (fixed point), k of them, as a number. -/
def log2Frac : Nat → Nat → Nat → Nat
  | 0, _, acc => acc
  | k + 1, y, acc =>
    let z := y * y / 2 ^ apxBits
    if z < 2 ^ (apxBits + 1) then log2Frac k z (2 * acc) else log2Frac k (z / 2) (2 * acc + 1)

/-- The results admitted by 05 table 5.3 for an exact value between (n/den) 2^e and (n + 1)/den 2^e: the bracketing values
where the bound is faithful, else the values within 2 ulp, else those within an absolute error of 2^-21. -/
def admitted (f : Fmt) (op : ApxOp) (src : Nat) (absolute : Bool) (n : Int) (den : Nat) (e : Int) : Nat :=
  if f = .fp32 && op != .rcp then
    if absolute then
      let d : Int := ((den * 2 ^ (-21 - e).toNat : Nat) : Int)
      chooseKey f op.code src (keyAt f true (n - d) den e) (keyAt f false (n + d) den e)
    else
      let k := keyAt f false n den e
      let x := (roundQ f .rz false n.natAbs den e) / 2 ^ f.mbits
      let u : Int := (if x = 0 then 1 else (x : Int)) - f.bias - f.mbits
      let d : Int := if u - e ≥ 0 then ((2 * den * 2 ^ (u - e).toNat : Nat) : Int) else 0
      let lo := keyAt f true (n - d) den e
      let hi := keyAt f false (n + d) den e
      chooseKey f op.code src (if k < lo then k else lo) (if hi < k then k else hi)
  else chooseKey f op.code src (keyAt f false n den e) (keyAt f true n den e)

/-- VFRCP, VFRSQ, VFEXP2 and VFLOG2 of one element (05 R115, R116). -/
def approx (f : Fmt) (op : ApxOp) (src : Nat) : Nat :=
  match op, decodeF f src with
  | _, .nan => f.nan
  | .rcp, .inf neg => f.signed neg 0
  | .rcp, .fin neg m e =>
    if m = 0 then f.infinity neg
    else
      let n : Int := signedInt neg 1
      chooseKey f ApxOp.rcp.code src (keyAt f false n m (-e)) (keyAt f true n m (-e))
  | .rsq, .inf neg => if neg then f.nan else f.signed false 0
  | .rsq, .fin neg m e =>
    if m = 0 then f.infinity neg
    else if neg then f.nan
    else
      let m1 := if e % 2 = 0 then m else 2 * m
      let e1 := if e % 2 = 0 then e else e - 1
      let r := isqrt (2 ^ 512 / m1)
      let exact := r * r * m1 == 2 ^ 512
      if exact then admitted f .rsq src false r 1 (-256 - e1 / 2)
      else admitted f .rsq src false (2 * r + 1) 2 (-256 - e1 / 2)
  | .exp2, .inf neg => if neg then f.signed false 0 else f.infinity false
  | .exp2, .fin neg m e =>
    let big := !ltF (.fin neg m e) (.fin false 128 0)
    let small := ltF (.fin neg m e) (.fin true 150 0)
    if big then f.infinity false
    else if small then f.signed false 0
    else
      let fx : Int := if e + 176 ≥ 0 then signedInt neg (m * 2 ^ (e + 176).toNat) else signedInt neg 0
      let whole := fx / (2 ^ 176 : Nat)
      let frac := (fx % (2 ^ 176 : Nat)).toNat
      if frac = 0 then
        (if m = 0 || e + 176 ≥ 0 then
          (let k := keyAt f false 1 1 whole
           let k' := keyAt f true 1 1 whole
           if k = k' then keyEnc f k else admitted f .exp2 src false 1 1 whole)
         else admitted f .exp2 src false (2 ^ 200 + (if neg then -1 else 1)) 1 (-200))
      else admitted f .exp2 src false (2 * exp2Frac (bitsDown frac 176) (2 ^ (apxBits + 1)) (2 ^ apxBits) + 1) 2 (whole - apxBits)
  | .log2, .inf neg => if neg then f.nan else f.infinity false
  | .log2, .fin neg m e =>
    if m = 0 then f.infinity true
    else if neg then f.nan
    else
      let top := floorLog2 m 1
      let whole := top + e
      if m = 2 ^ top.toNat then roundF f .rne (ofIntF whole)
      else
        let y := m * 2 ^ apxBits / 2 ^ top.toNat
        let n : Int := whole * (2 ^ 200 : Nat) + log2Frac 200 y 0
        let near := !ltF (.fin false m e) (.fin false 1 (-1)) && !ltF (.fin false 1 1) (.fin false m e)
        admitted f .log2 src near (2 * n + 1) 2 (-200)

/-! ### Microscaling blocks -/

/-- The element of an MX format code 0 to 5 (03 table 3.3, R121): its format, or none for INT8. -/
def mxFmt : Nat → Option Fmt
  | 0 => some .e4m3 | 1 => some .e5m2 | 2 => some .e2m3 | 3 => some .e3m2 | 4 => some .e2m1 | _ => none

/-- The largest element exponent (03 table 3.3). -/
def mxEmax : Nat → Int
  | 0 => 8 | 1 => 15 | 2 => 2 | 3 => 4 | 4 => 2 | _ => 0

/-- One element of MXQuantize (03 R64, R121): v / 2^x rounded once. -/
def mxElem (fmt : Nat) (mode : Rnd) (x : Int) : FVal → Nat
  | .fin neg m e =>
    match mxFmt fmt with
    | some f => roundF f mode (.fin neg m (e - x))
    | none => ofSigned 8 (clampInt (-128) 127 (roundInt mode neg m (e - x + 6)))
  | _ => 0

/-- The largest magnitude of a list of finite values, as a significand and an exponent. -/
def maxMag : List FVal → FVal
  | [] => .fin false 0 0
  | .fin _ m e :: r =>
    let t := maxMag r
    if ltF t (.fin false m e) then .fin false m e else t
  | _ :: r => maxMag r

/-- Whether a value is NaN or infinite. -/
def FVal.special : FVal → Bool
  | .fin _ _ _ => false
  | _ => true

/-- The exponent of the block scale (03 R64). -/
def mxExponent (fmt : Nat) (vs : List FVal) : Int :=
  match maxMag vs with
  | .fin _ m e => if m = 0 then -127 else clampInt (-127) 127 (floorLog2 m 1 + e - mxEmax fmt)
  | _ => -127

/-- The rounding mode of a stochastic or plain conversion, and the generator after it (03 R71). -/
def drawMode (sto : Bool) (mode : Rnd) (gen : BitVec 32) : Rnd × BitVec 32 :=
  if sto then
    let g := drawState gen
    (.sto (g.toNat % 2 ^ 16), g)
  else (mode, gen)

/-- MXQuantize (03 R64): the scale byte, the elements and the generator after one draw for each element. -/
def mxQuantize (fmt : Nat) (sto : Bool) (mode : Rnd) (vs : List FVal) (gen : BitVec 32) : Nat × List Nat × BitVec 32 :=
  let bad := vs.any FVal.special
  let x := mxExponent fmt vs
  let r := vs.foldl (fun (acc : List Nat × BitVec 32) v =>
    let p := drawMode sto mode acc.2
    (mxElem fmt p.1 x v :: acc.1, p.2)) ([], gen)
  if bad then (0xFF, vs.map fun _ => 0, r.2) else ((x + 127).toNat, r.1.reverse, r.2)

/-- The exact value of an MX element under its scale byte (03 R62, R63). -/
def mxValue (fmt scale elem : Nat) : FVal :=
  if scale = 0xFF then .nan
  else
    let x : Int := (scale : Int) - 127
    match mxFmt fmt with
    | some f =>
      match decodeF f (elem % 2 ^ f.width) with
      | .fin neg m e => .fin neg m (e + x)
      | v => v
    | none =>
      let i := toSigned 8 elem
      .fin (decide (i < 0)) i.natAbs (x - 6)

/-! ### XE8 -/

/-- Bit p of a bit stream held as a number (03 R57). -/
def streamBit (n p : Nat) : Nat := n / 2 ^ p % 2

/-- The token at bit p (03 table 3.4): its difference, none for an escape, and its length without the raw exponent. -/
def xe8Token (table n p : Nat) : Option Int × Nat :=
  let b0 := streamBit n p
  let b1 := streamBit n (p + 1)
  let b2 := streamBit n (p + 2)
  match table with
  | 0 => if b0 = 0 then (some 0, 1) else if b1 = 0 then (some (-1), 2) else if b2 = 0 then (some 1, 3) else (none, 3)
  | 1 =>
    if b0 = 0 then (if b1 = 0 then (some 0, 2) else (some (-1), 2))
    else if b1 = 0 then (if b2 = 0 then (some (-2), 3) else (some 1, 3))
    else if b2 = 0 then (some (-3), 3) else (none, 3)
  | 2 =>
    if b0 = 0 then (if b1 = 0 then (some (-1), 2) else (some (-2), 2))
    else if b1 = 0 then (if b2 = 0 then (some 0, 3) else (some (-3), 3))
    else if b2 = 0 then (some (-4), 3) else (none, 3)
  | _ => if b0 = 0 then (some 0, 1) else (none, 1)

/-- The exponents of k tokens from bit p (03 R65): the list and the position after them, or none if one lies outside
0 to 15. -/
def xe8Exponents (table base n : Nat) : Nat → Nat → Option (List Nat × Nat)
  | 0, p => some ([], p)
  | k + 1, p =>
    let t := xe8Token table n p
    let q := p + t.2
    let e : Int := match t.1 with
      | some d => (base : Int) + d
      | none => (streamBit n q * 8 + streamBit n (q + 1) * 4 + streamBit n (q + 2) * 2 + streamBit n (q + 3) : Nat)
    let q' := match t.1 with
      | some _ => q
      | none => q + 4
    if e < 0 ∨ 15 < e then none
    else
      match xe8Exponents table base n k q' with
      | some r => some (e.toNat :: r.1, r.2)
      | none => none

/-- An XE8 block of n elements at the head of a byte stream held as a number: its E4M3 elements and length in bytes, or
none where the header, an exponent or the padding is malformed (03 R65 to R67). -/
def xe8Block (n stream : Nat) : Option (List Nat × Nat) :=
  let header := stream % 256
  let base := header % 64
  if 15 < base then none
  else
    let nibbles := stream / 256 % 2 ^ (4 * n)
    let tokens := stream / 2 ^ (8 + 4 * n)
    match xe8Exponents (header / 64) base tokens n 0 with
    | none => none
    | some (es, p) =>
      let bytes := (p + 7) / 8
      if tokens % 2 ^ (8 * bytes) / 2 ^ p != 0 then none
      else
        some ((List.range n).map (fun i =>
          let nib := nibbles / 2 ^ (4 * i) % 16
          (nib / 8) * 128 + (es.getD i 0) * 8 + nib % 8), 1 + n / 2 + bytes)

end Sys2Proof.Machine
end

