-- ==== Sys2Proof/Syntax.lean ====
section
/-!
DEFINITION. The instructions of Olide (rows of the opcode table with an encoding) and the hardware and host steps of
the device (rows without one), one constructor a row.

The arguments of an encoded instruction are its fields, each with the width the encoding gives it, under the names
of the table: d, a, b, t registers; s the stall count; g the mask field gm; w the width field ew; i, o, n
immediates; c a scope or code; z a size bit; r a rounding code.  Reserved values of a field are refused by
WellFormed.  The arguments of an event name the objects it concerns (a core by package number times 2048 plus core
number, R17; a bent by package times 128 plus bent; a die by package times 4 plus die) and the choices that the
manual leaves to the environment.
-/
namespace Sys2Proof

/-- One step of the device: an Olide instruction or an event. -/
inductive Instr where
  /-- ADD (R84). -/
  | add (d : BitVec 5) (a : BitVec 5) (b : BitVec 5) (s : BitVec 3)
  /-- SUB (R84). -/
  | sub (d : BitVec 5) (a : BitVec 5) (b : BitVec 5) (s : BitVec 3)
  /-- AND (R84). -/
  | and (d : BitVec 5) (a : BitVec 5) (b : BitVec 5) (s : BitVec 3)
  /-- OR (R84). -/
  | or (d : BitVec 5) (a : BitVec 5) (b : BitVec 5) (s : BitVec 3)
  /-- XOR (R84). -/
  | xor (d : BitVec 5) (a : BitVec 5) (b : BitVec 5) (s : BitVec 3)
  /-- ANDN (R84). -/
  | andn (d : BitVec 5) (a : BitVec 5) (b : BitVec 5) (s : BitVec 3)
  /-- SLL (R84). -/
  | sll (d : BitVec 5) (a : BitVec 5) (b : BitVec 5) (s : BitVec 3)
  /-- SRL (R84). -/
  | srl (d : BitVec 5) (a : BitVec 5) (b : BitVec 5) (s : BitVec 3)
  /-- SRA (R84). -/
  | sra (d : BitVec 5) (a : BitVec 5) (b : BitVec 5) (s : BitVec 3)
  /-- MIN (R84). -/
  | min (d : BitVec 5) (a : BitVec 5) (b : BitVec 5) (s : BitVec 3)
  /-- MAX (R84). -/
  | max (d : BitVec 5) (a : BitVec 5) (b : BitVec 5) (s : BitVec 3)
  /-- MINZ (R84). -/
  | minz (d : BitVec 5) (a : BitVec 5) (b : BitVec 5) (s : BitVec 3)
  /-- MAXZ (R84). -/
  | maxz (d : BitVec 5) (a : BitVec 5) (b : BitVec 5) (s : BitVec 3)
  /-- SLT (R84). -/
  | slt (d : BitVec 5) (a : BitVec 5) (b : BitVec 5) (s : BitVec 3)
  /-- SLTZ (R84). -/
  | sltz (d : BitVec 5) (a : BitVec 5) (b : BitVec 5) (s : BitVec 3)
  /-- SEQ (R84). -/
  | seq (d : BitVec 5) (a : BitVec 5) (b : BitVec 5) (s : BitVec 3)
  /-- CLZ (R84). -/
  | clz (d : BitVec 5) (a : BitVec 5) (s : BitVec 3)
  /-- CTZ (R84). -/
  | ctz (d : BitVec 5) (a : BitVec 5) (s : BitVec 3)
  /-- POPC (R84). -/
  | popc (d : BitVec 5) (a : BitVec 5) (s : BitVec 3)
  /-- PADD (R89). -/
  | padd (d : BitVec 5) (a : BitVec 5) (b : BitVec 5) (s : BitVec 3)
  /-- PSUB (R89). -/
  | psub (d : BitVec 5) (a : BitVec 5) (b : BitVec 5) (s : BitVec 3)
  /-- PDESC (R89). -/
  | pdesc (d : BitVec 5) (a : BitVec 5) (s : BitVec 3)
  /-- PSET (R89). -/
  | pset (d : BitVec 5) (a : BitVec 5) (b : BitVec 5) (s : BitVec 3)
  /-- CSEL_EQZ (R85). -/
  | cselEqz (d : BitVec 5) (a : BitVec 5) (b : BitVec 5) (c : BitVec 5) (s : BitVec 3)
  /-- CSEL_NEZ (R85). -/
  | cselNez (d : BitVec 5) (a : BitVec 5) (b : BitVec 5) (c : BitVec 5) (s : BitVec 3)
  /-- CSEL_LTZ (R85). -/
  | cselLtz (d : BitVec 5) (a : BitVec 5) (b : BitVec 5) (c : BitVec 5) (s : BitVec 3)
  /-- CSEL_GEZ (R85). -/
  | cselGez (d : BitVec 5) (a : BitVec 5) (b : BitVec 5) (c : BitVec 5) (s : BitVec 3)
  /-- CSEL_GTZ (R85). -/
  | cselGtz (d : BitVec 5) (a : BitVec 5) (b : BitVec 5) (c : BitVec 5) (s : BitVec 3)
  /-- CSEL_LEZ (R85). -/
  | cselLez (d : BitVec 5) (a : BitVec 5) (b : BitVec 5) (c : BitVec 5) (s : BitVec 3)
  /-- MUL (R90). -/
  | mul (d : BitVec 5) (a : BitVec 5) (b : BitVec 5) (s : BitVec 3)
  /-- MULH (R90). -/
  | mulh (d : BitVec 5) (a : BitVec 5) (b : BitVec 5) (s : BitVec 3)
  /-- MULHZ (R90). -/
  | mulhz (d : BitVec 5) (a : BitVec 5) (b : BitVec 5) (s : BitVec 3)
  /-- DIV (R90). -/
  | div (d : BitVec 5) (a : BitVec 5) (b : BitVec 5) (s : BitVec 3)
  /-- DIVZ (R90). -/
  | divz (d : BitVec 5) (a : BitVec 5) (b : BitVec 5) (s : BitVec 3)
  /-- REM (R90). -/
  | rem (d : BitVec 5) (a : BitVec 5) (b : BitVec 5) (s : BitVec 3)
  /-- REMZ (R90). -/
  | remz (d : BitVec 5) (a : BitVec 5) (b : BitVec 5) (s : BitVec 3)
  /-- ADDI (R87). -/
  | addi (d : BitVec 5) (a : BitVec 5) (i : BitVec 16)
  /-- ANDI (R87). -/
  | andi (d : BitVec 5) (a : BitVec 5) (i : BitVec 16)
  /-- ORI (R87). -/
  | ori (d : BitVec 5) (a : BitVec 5) (i : BitVec 16)
  /-- XORI (R87). -/
  | xori (d : BitVec 5) (a : BitVec 5) (i : BitVec 16)
  /-- SLTI (R87). -/
  | slti (d : BitVec 5) (a : BitVec 5) (i : BitVec 16)
  /-- SLTIZ (R87). -/
  | sltiz (d : BitVec 5) (a : BitVec 5) (i : BitVec 16)
  /-- SLLI (R87). -/
  | slli (d : BitVec 5) (a : BitVec 5) (n : BitVec 6)
  /-- SRLI (R87). -/
  | srli (d : BitVec 5) (a : BitVec 5) (n : BitVec 6)
  /-- SRAI (R87). -/
  | srai (d : BitVec 5) (a : BitVec 5) (n : BitVec 6)
  /-- PADDI (R89). -/
  | paddi (d : BitVec 5) (a : BitVec 5) (i : BitVec 16)
  /-- LUK (R88). -/
  | luk (d : BitVec 5) (i : BitVec 21)
  /-- ADDPC (R88). -/
  | addpc (d : BitVec 5) (i : BitVec 21)
  /-- LD_B (R95). -/
  | ldB (t : BitVec 5) (a : BitVec 5) (o : BitVec 13)
  /-- LD_H (R95). -/
  | ldH (t : BitVec 5) (a : BitVec 5) (o : BitVec 13)
  /-- LD_W (R95). -/
  | ldW (t : BitVec 5) (a : BitVec 5) (o : BitVec 13)
  /-- LD_D (R95). -/
  | ldD (t : BitVec 5) (a : BitVec 5) (o : BitVec 13)
  /-- LDZ_B (R95). -/
  | ldzB (t : BitVec 5) (a : BitVec 5) (o : BitVec 13)
  /-- LDZ_H (R95). -/
  | ldzH (t : BitVec 5) (a : BitVec 5) (o : BitVec 13)
  /-- LDZ_W (R95). -/
  | ldzW (t : BitVec 5) (a : BitVec 5) (o : BitVec 13)
  /-- ST_B (R95). -/
  | stB (t : BitVec 5) (a : BitVec 5) (o : BitVec 13)
  /-- ST_H (R95). -/
  | stH (t : BitVec 5) (a : BitVec 5) (o : BitVec 13)
  /-- ST_W (R95). -/
  | stW (t : BitVec 5) (a : BitVec 5) (o : BitVec 13)
  /-- ST_D (R95). -/
  | stD (t : BitVec 5) (a : BitVec 5) (o : BitVec 13)
  /-- LDC_W (R96). -/
  | ldcW (t : BitVec 5) (a : BitVec 5) (o : BitVec 13)
  /-- LDC_D (R96). -/
  | ldcD (t : BitVec 5) (a : BitVec 5) (o : BitVec 13)
  /-- LDBIT (R97). -/
  | ldbit (d : BitVec 5) (a : BitVec 5) (b : BitVec 5) (n : BitVec 6) (s : BitVec 3)
  /-- LDBIT_S (R97). -/
  | ldbitS (d : BitVec 5) (a : BitVec 5) (b : BitVec 5) (n : BitVec 6) (s : BitVec 3)
  /-- STBIT (R97). -/
  | stbit (d : BitVec 5) (a : BitVec 5) (b : BitVec 5) (n : BitVec 6) (s : BitVec 3)
  /-- AMO_ADD (R98). -/
  | amoAdd (d : BitVec 5) (a : BitVec 5) (b : BitVec 5) (z : BitVec 1) (c : BitVec 3) (o : BitVec 3)
  /-- AMO_AND (R98). -/
  | amoAnd (d : BitVec 5) (a : BitVec 5) (b : BitVec 5) (z : BitVec 1) (c : BitVec 3) (o : BitVec 3)
  /-- AMO_OR (R98). -/
  | amoOr (d : BitVec 5) (a : BitVec 5) (b : BitVec 5) (z : BitVec 1) (c : BitVec 3) (o : BitVec 3)
  /-- AMO_XOR (R98). -/
  | amoXor (d : BitVec 5) (a : BitVec 5) (b : BitVec 5) (z : BitVec 1) (c : BitVec 3) (o : BitVec 3)
  /-- AMO_MIN (R98). -/
  | amoMin (d : BitVec 5) (a : BitVec 5) (b : BitVec 5) (z : BitVec 1) (c : BitVec 3) (o : BitVec 3)
  /-- AMO_MAX (R98). -/
  | amoMax (d : BitVec 5) (a : BitVec 5) (b : BitVec 5) (z : BitVec 1) (c : BitVec 3) (o : BitVec 3)
  /-- AMO_MINZ (R98). -/
  | amoMinz (d : BitVec 5) (a : BitVec 5) (b : BitVec 5) (z : BitVec 1) (c : BitVec 3) (o : BitVec 3)
  /-- AMO_MAXZ (R98). -/
  | amoMaxz (d : BitVec 5) (a : BitVec 5) (b : BitVec 5) (z : BitVec 1) (c : BitVec 3) (o : BitVec 3)
  /-- AMO_SWAP (R98). -/
  | amoSwap (d : BitVec 5) (a : BitVec 5) (b : BitVec 5) (z : BitVec 1) (c : BitVec 3) (o : BitVec 3)
  /-- AMO_CAS (R98). -/
  | amoCas (d : BitVec 5) (a : BitVec 5) (b : BitVec 5) (z : BitVec 1) (c : BitVec 3) (o : BitVec 3)
  /-- AMO_FADD_F32 (R98). -/
  | amoFaddF32 (d : BitVec 5) (a : BitVec 5) (b : BitVec 5) (c : BitVec 3) (o : BitVec 3)
  /-- AMO_FADD_BF16 (R98). -/
  | amoFaddBf16 (d : BitVec 5) (a : BitVec 5) (b : BitVec 5) (c : BitVec 3) (o : BitVec 3)
  /-- UPD_ADD (R100). -/
  | updAdd (a : BitVec 5) (b : BitVec 5) (z : BitVec 2) (c : BitVec 3)
  /-- UPD_FADD (R100). -/
  | updFadd (a : BitVec 5) (b : BitVec 5) (z : BitVec 2) (c : BitVec 3)
  /-- UPD_MIN (R100). -/
  | updMin (a : BitVec 5) (b : BitVec 5) (z : BitVec 2) (c : BitVec 3)
  /-- UPD_MAX (R100). -/
  | updMax (a : BitVec 5) (b : BitVec 5) (z : BitVec 2) (c : BitVec 3)
  /-- UPD_OR (R100). -/
  | updOr (a : BitVec 5) (b : BitVec 5) (z : BitVec 2) (c : BitVec 3)
  /-- UPD_AND (R100). -/
  | updAnd (a : BitVec 5) (b : BitVec 5) (z : BitVec 2) (c : BitVec 3)
  /-- BEQ (R91). -/
  | beq (a : BitVec 5) (b : BitVec 5) (i : BitVec 13)
  /-- BNE (R91). -/
  | bne (a : BitVec 5) (b : BitVec 5) (i : BitVec 13)
  /-- BLT (R91). -/
  | blt (a : BitVec 5) (b : BitVec 5) (i : BitVec 13)
  /-- BGE (R91). -/
  | bge (a : BitVec 5) (b : BitVec 5) (i : BitVec 13)
  /-- BLTZ (R91). -/
  | bltz (a : BitVec 5) (b : BitVec 5) (i : BitVec 13)
  /-- BGEZ (R91). -/
  | bgez (a : BitVec 5) (b : BitVec 5) (i : BitVec 13)
  /-- JAL (R92). -/
  | jal (d : BitVec 5) (i : BitVec 21)
  /-- JALR (R92). -/
  | jalr (d : BitVec 5) (a : BitVec 5) (i : BitVec 16)
  /-- SKIP_EQZ (R86). -/
  | skipEqz (a : BitVec 5) (n : BitVec 3)
  /-- SKIP_NEZ (R86). -/
  | skipNez (a : BitVec 5) (n : BitVec 3)
  /-- SKIP_LTZ (R86). -/
  | skipLtz (a : BitVec 5) (n : BitVec 3)
  /-- SKIP_GEZ (R86). -/
  | skipGez (a : BitVec 5) (n : BitVec 3)
  /-- SKIP_GTZ (R86). -/
  | skipGtz (a : BitVec 5) (n : BitVec 3)
  /-- SKIP_LEZ (R86). -/
  | skipLez (a : BitVec 5) (n : BitVec 3)
  /-- FENCE_ACQ (R160). -/
  | fenceAcq (d : BitVec 5) (c : BitVec 3)
  /-- FENCE_REL (R160). -/
  | fenceRel (d : BitVec 5) (c : BitVec 3)
  /-- FENCE_FULL (R160). -/
  | fenceFull (d : BitVec 5) (c : BitVec 3)
  /-- QFENCE (R167). -/
  | qfence (q : BitVec 4)
  /-- CCLEAN (R165). -/
  | cclean (a : BitVec 5) (c : BitVec 3)
  /-- CINV (R165). -/
  | cinv (a : BitVec 5) (c : BitVec 3)
  /-- CFLUSH (R165). -/
  | cflush (a : BitVec 5) (c : BitVec 3)
  /-- NOP (R106). -/
  | nop
  /-- TRAP (R353). -/
  | trap (i : BitVec 6)
  /-- TRET (R353). -/
  | tret
  /-- WFE (R106). -/
  | wfe
  /-- BREAK (R106). -/
  | break
  /-- HALT (R106). -/
  | halt
  /-- CSRR (R105). -/
  | csrr (h : BitVec 6) (d : BitVec 5) (l : BitVec 6)
  /-- CSRW (R105). -/
  | csrw (h : BitVec 6) (a : BitVec 5) (d : BitVec 5) (l : BitVec 6)
  /-- CSRS (R105). -/
  | csrs (h : BitVec 6) (a : BitVec 5) (d : BitVec 5) (l : BitVec 6)
  /-- CSRC (R105). -/
  | csrc (h : BitVec 6) (a : BitVec 5) (d : BitVec 5) (l : BitVec 6)
  /-- SPAWN (R220). -/
  | spawn (d : BitVec 5) (a : BitVec 5) (b : BitVec 5) (s : BitVec 3)
  /-- RETS (R221). -/
  | rets (d : BitVec 5) (s : BitVec 3)
  /-- SYNC (R222). -/
  | sync (a : BitVec 5) (s : BitVec 3)
  /-- PUBLISH (R219). -/
  | publish (a : BitVec 5) (b : BitVec 5) (n : BitVec 2) (s : BitVec 3)
  /-- TEND (R223). -/
  | tend (s : BitVec 3)
  /-- TSELF (R224). -/
  | tself (d : BitVec 5) (s : BitVec 3)
  /-- LAUNCH (R198). -/
  | launch (d : BitVec 5) (a : BitVec 5) (s : BitVec 3)
  /-- QBIND (R240). -/
  | qbind (q : BitVec 3) (a : BitVec 5) (s : BitVec 3)
  /-- QPUSH (R241). -/
  | qpush (q : BitVec 3) (a : BitVec 5) (s : BitVec 3)
  /-- QPOP (R241). -/
  | qpop (d : BitVec 5) (q : BitVec 3) (s : BitVec 3)
  /-- ENQ (R249). -/
  | enq (d : BitVec 5) (a : BitVec 5) (b : BitVec 5) (s : BitVec 3)
  /-- SPAWNB (R253). -/
  | spawnb (d : BitVec 5) (a : BitVec 5) (b : BitVec 5) (s : BitVec 3)
  /-- BINFLUSH (R254). -/
  | binflush (a : BitVec 5) (s : BitVec 3)
  /-- TASKQ (R257). -/
  | taskq (d : BitVec 5) (a : BitVec 5) (b : BitVec 5) (s : BitVec 3)
  /-- SQINC (R256). -/
  | sqinc (d : BitVec 5) (a : BitVec 5) (b : BitVec 5) (s : BitVec 3)
  /-- SQREAD (R256). -/
  | sqread (d : BitVec 5) (a : BitVec 5) (s : BitVec 3)
  /-- DONATE (R258). -/
  | donate (d : BitVec 5) (a : BitVec 5) (b : BitVec 5) (s : BitVec 3)
  /-- BINIT (R309). -/
  | binit (d : BitVec 5) (a : BitVec 5) (b : BitVec 5) (s : BitVec 3)
  /-- BARRIVE (R310). -/
  | barrive (a : BitVec 5) (s : BitVec 3)
  /-- BEXPECT (R310). -/
  | bexpect (a : BitVec 5) (b : BitVec 5) (s : BitVec 3)
  /-- BWAIT (R311). -/
  | bwait (d : BitVec 5) (a : BitVec 5) (s : BitVec 3)
  /-- BTEST (R312). -/
  | btest (d : BitVec 5) (a : BitVec 5) (s : BitVec 3)
  /-- BFREE (R313). -/
  | bfree (a : BitVec 5) (s : BitVec 3)
  /-- SENDI (R319). -/
  | sendi (a : BitVec 5) (b : BitVec 5) (s : BitVec 3)
  /-- SENDB (R320). -/
  | sendb (d : BitVec 5) (a : BitVec 5) (b : BitVec 5) (s : BitVec 3)
  /-- RPOST (R326). -/
  | rpost (d : BitVec 5) (a : BitVec 5) (b : BitVec 5) (s : BitVec 3)
  /-- RCANCEL (R330). -/
  | rcancel (d : BitVec 5) (a : BitVec 5) (s : BitVec 3)
  /-- QWAKE (R323). -/
  | qwake (a : BitVec 5) (b : BitVec 5) (s : BitVec 3)
  /-- MSGDONE (R325). -/
  | msgdone (s : BitVec 3)
  /-- MONSET (R339). -/
  | monset (d : BitVec 5) (a : BitVec 5) (b : BitVec 5) (s : BitVec 3)
  /-- MONARM (R340). -/
  | monarm (a : BitVec 5) (b : BitVec 5) (s : BitVec 3)
  /-- MONREF (R341). -/
  | monref (a : BitVec 5) (b : BitVec 5) (s : BitVec 3)
  /-- MONREAD (R342). -/
  | monread (d : BitVec 5) (a : BitVec 5) (b : BitVec 5) (s : BitVec 3)
  /-- MONCLR (R343). -/
  | monclr (a : BitVec 5) (s : BitVec 3)
  /-- SUBS (R184). -/
  | subs (d : BitVec 5) (a : BitVec 5) (b : BitVec 5) (s : BitVec 3)
  /-- UNSUBS (R185). -/
  | unsubs (a : BitVec 5) (s : BitVec 3)
  /-- MSET (R270). -/
  | mset (a : BitVec 5) (m : BitVec 5)
  /-- MGET (R270). -/
  | mget (m : BitVec 5) (d : BitVec 5)
  /-- MMA (R271). -/
  | mma (a : BitVec 5) (b : BitVec 5)
  /-- MMACO (R272). -/
  | mmaco (a : BitVec 5) (b : BitVec 5)
  /-- MWAIT (R273). -/
  | mwait (d : BitVec 5)
  /-- MWAIT_T (R273). -/
  | mwaitT (d : BitVec 5)
  /-- MSAVE (R274). -/
  | msave (a : BitVec 5)
  /-- MLOAD (R274). -/
  | mload (a : BitVec 5)
  /-- MZERO (R274). -/
  | mzero
  /-- CPUT (R285). -/
  | cput (q : BitVec 3) (a : BitVec 5) (x : BitVec 5)
  /-- CGET (R285). -/
  | cget (q : BitVec 3) (x : BitVec 5) (d : BitVec 5)
  /-- CLAUNCH (R289). -/
  | claunch (q : BitVec 3) (d : BitVec 5)
  /-- CWAIT (R297). -/
  | cwait (a : BitVec 5) (d : BitVec 5)
  /-- CSTATUS (R297). -/
  | cstatus (a : BitVec 5) (d : BitVec 5)
  /-- CABORT (R298). -/
  | cabort (a : BitVec 5) (d : BitVec 5)
  /-- SHAPE_MK (R287). -/
  | shapeMk (r : BitVec 3) (a : BitVec 5) (b : BitVec 5) (s : BitVec 3)
  /-- SHAPE_GET (R288). -/
  | shapeGet (d : BitVec 5) (r : BitVec 3) (n : BitVec 5) (s : BitVec 3)
  /-- VADD (R113). -/
  | vadd (d : BitVec 5) (a : BitVec 5) (b : BitVec 5) (g : BitVec 2) (w : BitVec 2) (s : BitVec 3)
  /-- VSUB (R113). -/
  | vsub (d : BitVec 5) (a : BitVec 5) (b : BitVec 5) (g : BitVec 2) (w : BitVec 2) (s : BitVec 3)
  /-- VMUL (R113). -/
  | vmul (d : BitVec 5) (a : BitVec 5) (b : BitVec 5) (g : BitVec 2) (w : BitVec 2) (s : BitVec 3)
  /-- VMULH (R113). -/
  | vmulh (d : BitVec 5) (a : BitVec 5) (b : BitVec 5) (g : BitVec 2) (w : BitVec 2) (s : BitVec 3)
  /-- VMIN (R113). -/
  | vmin (d : BitVec 5) (a : BitVec 5) (b : BitVec 5) (g : BitVec 2) (w : BitVec 2) (s : BitVec 3)
  /-- VMAX (R113). -/
  | vmax (d : BitVec 5) (a : BitVec 5) (b : BitVec 5) (g : BitVec 2) (w : BitVec 2) (s : BitVec 3)
  /-- VAND (R113). -/
  | vand (d : BitVec 5) (a : BitVec 5) (b : BitVec 5) (g : BitVec 2) (w : BitVec 2) (s : BitVec 3)
  /-- VOR (R113). -/
  | vor (d : BitVec 5) (a : BitVec 5) (b : BitVec 5) (g : BitVec 2) (w : BitVec 2) (s : BitVec 3)
  /-- VXOR (R113). -/
  | vxor (d : BitVec 5) (a : BitVec 5) (b : BitVec 5) (g : BitVec 2) (w : BitVec 2) (s : BitVec 3)
  /-- VSLL (R113). -/
  | vsll (d : BitVec 5) (a : BitVec 5) (b : BitVec 5) (g : BitVec 2) (w : BitVec 2) (s : BitVec 3)
  /-- VSRL (R113). -/
  | vsrl (d : BitVec 5) (a : BitVec 5) (b : BitVec 5) (g : BitVec 2) (w : BitVec 2) (s : BitVec 3)
  /-- VSRA (R113). -/
  | vsra (d : BitVec 5) (a : BitVec 5) (b : BitVec 5) (g : BitVec 2) (w : BitVec 2) (s : BitVec 3)
  /-- VFADD (R115). -/
  | vfadd (d : BitVec 5) (a : BitVec 5) (b : BitVec 5) (g : BitVec 2) (w : BitVec 2) (s : BitVec 3)
  /-- VFSUB (R115). -/
  | vfsub (d : BitVec 5) (a : BitVec 5) (b : BitVec 5) (g : BitVec 2) (w : BitVec 2) (s : BitVec 3)
  /-- VFMUL (R115). -/
  | vfmul (d : BitVec 5) (a : BitVec 5) (b : BitVec 5) (g : BitVec 2) (w : BitVec 2) (s : BitVec 3)
  /-- VFMIN (R115). -/
  | vfmin (d : BitVec 5) (a : BitVec 5) (b : BitVec 5) (g : BitVec 2) (w : BitVec 2) (s : BitVec 3)
  /-- VFMAX (R115). -/
  | vfmax (d : BitVec 5) (a : BitVec 5) (b : BitVec 5) (g : BitVec 2) (w : BitVec 2) (s : BitVec 3)
  /-- VFDIV (R115). -/
  | vfdiv (d : BitVec 5) (a : BitVec 5) (b : BitVec 5) (g : BitVec 2) (w : BitVec 2) (s : BitVec 3)
  /-- VFSQRT (R115). -/
  | vfsqrt (d : BitVec 5) (a : BitVec 5) (g : BitVec 2) (w : BitVec 2) (s : BitVec 3)
  /-- VFRCP (R116). -/
  | vfrcp (d : BitVec 5) (a : BitVec 5) (g : BitVec 2) (w : BitVec 2) (s : BitVec 3)
  /-- VFRSQ (R116). -/
  | vfrsq (d : BitVec 5) (a : BitVec 5) (g : BitVec 2) (w : BitVec 2) (s : BitVec 3)
  /-- VFEXP2 (R116). -/
  | vfexp2 (d : BitVec 5) (a : BitVec 5) (g : BitVec 2) (w : BitVec 2) (s : BitVec 3)
  /-- VFLOG2 (R116). -/
  | vflog2 (d : BitVec 5) (a : BitVec 5) (g : BitVec 2) (w : BitVec 2) (s : BitVec 3)
  /-- VFMA (R117). -/
  | vfma (d : BitVec 5) (a : BitVec 5) (b : BitVec 5) (g : BitVec 2) (w : BitVec 2) (s : BitVec 3)
  /-- VFMS (R117). -/
  | vfms (d : BitVec 5) (a : BitVec 5) (b : BitVec 5) (g : BitVec 2) (w : BitVec 2) (s : BitVec 3)
  /-- VFNMA (R117). -/
  | vfnma (d : BitVec 5) (a : BitVec 5) (b : BitVec 5) (g : BitVec 2) (w : BitVec 2) (s : BitVec 3)
  /-- VCVT (R119). -/
  | vcvt (d : BitVec 5) (a : BitVec 5) (p : BitVec 5) (g : BitVec 2) (e : BitVec 2) (r : BitVec 3) (s : BitVec 3)
  /-- VQMX (R121). -/
  | vqmx (d : BitVec 5) (a : BitVec 5) (p : BitVec 5) (e : BitVec 2) (s : BitVec 3)
  /-- VDQMX (R122). -/
  | vdqmx (d : BitVec 5) (a : BitVec 5) (p : BitVec 5) (e : BitVec 2) (s : BitVec 3)
  /-- VXDEC (R123). -/
  | vxdec (d : BitVec 5) (a : BitVec 5) (s : BitVec 3)
  /-- VLD (R124). -/
  | vld (d : BitVec 5) (a : BitVec 5) (g : BitVec 2) (w : BitVec 2) (s : BitVec 3)
  /-- VST (R124). -/
  | vst (d : BitVec 5) (a : BitVec 5) (g : BitVec 2) (w : BitVec 2) (s : BitVec 3)
  /-- VLDS (R124). -/
  | vlds (d : BitVec 5) (a : BitVec 5) (b : BitVec 5) (g : BitVec 2) (w : BitVec 2) (s : BitVec 3)
  /-- VSTS (R124). -/
  | vsts (d : BitVec 5) (a : BitVec 5) (b : BitVec 5) (g : BitVec 2) (w : BitVec 2) (s : BitVec 3)
  /-- VGATHER (R124). -/
  | vgather (d : BitVec 5) (a : BitVec 5) (b : BitVec 5) (g : BitVec 2) (w : BitVec 2) (s : BitVec 3)
  /-- VSCATTER (R124). -/
  | vscatter (d : BitVec 5) (a : BitVec 5) (b : BitVec 5) (g : BitVec 2) (w : BitVec 2) (s : BitVec 3)
  /-- VLDB (R126). -/
  | vldb (d : BitVec 5) (a : BitVec 5) (n : BitVec 5) (g : BitVec 2) (w : BitVec 2) (s : BitVec 3)
  /-- VSTB (R126). -/
  | vstb (d : BitVec 5) (a : BitVec 5) (n : BitVec 5) (g : BitVec 2) (w : BitVec 2) (s : BitVec 3)
  /-- VBCAST (R128). -/
  | vbcast (d : BitVec 5) (a : BitVec 5) (g : BitVec 2) (w : BitVec 2) (s : BitVec 3)
  /-- VMOVG (R128). -/
  | vmovg (d : BitVec 5) (a : BitVec 5) (b : BitVec 5) (g : BitVec 2) (w : BitVec 2) (s : BitVec 3)
  /-- VINS (R128). -/
  | vins (d : BitVec 5) (a : BitVec 5) (b : BitVec 5) (g : BitVec 2) (w : BitVec 2) (s : BitVec 3)
  /-- VPERM (R128). -/
  | vperm (d : BitVec 5) (a : BitVec 5) (b : BitVec 5) (g : BitVec 2) (w : BitVec 2) (s : BitVec 3)
  /-- VSHUF (R128). -/
  | vshuf (d : BitVec 5) (a : BitVec 5) (b : BitVec 5) (g : BitVec 2) (w : BitVec 2) (s : BitVec 3)
  /-- VRED (R80). -/
  | vred (d : BitVec 5) (a : BitVec 5) (o : BitVec 5) (g : BitVec 2) (w : BitVec 2) (s : BitVec 3)
  /-- VSCAN (R81). -/
  | vscan (d : BitVec 5) (a : BitVec 5) (o : BitVec 5) (g : BitVec 2) (w : BitVec 2) (s : BitVec 3)
  /-- VCOMPRESS (R128). -/
  | vcompress (d : BitVec 5) (a : BitVec 5) (g : BitVec 2) (w : BitVec 2) (s : BitVec 3)
  /-- VRBOX (R131). -/
  | vrbox (d : BitVec 5) (a : BitVec 5) (b : BitVec 5) (g : BitVec 2) (s : BitVec 3)
  /-- VRTRI (R132). -/
  | vrtri (d : BitVec 5) (a : BitVec 5) (b : BitVec 5) (g : BitVec 2) (s : BitVec 3)
  /-- VCMP_EQ (R118). -/
  | vcmpEq (d : BitVec 5) (a : BitVec 5) (b : BitVec 5) (g : BitVec 2) (w : BitVec 2) (s : BitVec 3)
  /-- VCMP_NE (R118). -/
  | vcmpNe (d : BitVec 5) (a : BitVec 5) (b : BitVec 5) (g : BitVec 2) (w : BitVec 2) (s : BitVec 3)
  /-- VCMP_LT (R118). -/
  | vcmpLt (d : BitVec 5) (a : BitVec 5) (b : BitVec 5) (g : BitVec 2) (w : BitVec 2) (s : BitVec 3)
  /-- VCMP_LE (R118). -/
  | vcmpLe (d : BitVec 5) (a : BitVec 5) (b : BitVec 5) (g : BitVec 2) (w : BitVec 2) (s : BitVec 3)
  /-- VCMP_LTZ (R118). -/
  | vcmpLtz (d : BitVec 5) (a : BitVec 5) (b : BitVec 5) (g : BitVec 2) (w : BitVec 2) (s : BitVec 3)
  /-- VCMP_LEZ (R118). -/
  | vcmpLez (d : BitVec 5) (a : BitVec 5) (b : BitVec 5) (g : BitVec 2) (w : BitVec 2) (s : BitVec 3)
  /-- VCMP_FEQ (R118). -/
  | vcmpFeq (d : BitVec 5) (a : BitVec 5) (b : BitVec 5) (g : BitVec 2) (w : BitVec 2) (s : BitVec 3)
  /-- VCMP_FLT (R118). -/
  | vcmpFlt (d : BitVec 5) (a : BitVec 5) (b : BitVec 5) (g : BitVec 2) (w : BitVec 2) (s : BitVec 3)
  /-- VCMP_FLE (R118). -/
  | vcmpFle (d : BitVec 5) (a : BitVec 5) (b : BitVec 5) (g : BitVec 2) (w : BitVec 2) (s : BitVec 3)
  /-- VCMP_FUN (R118). -/
  | vcmpFun (d : BitVec 5) (a : BitVec 5) (b : BitVec 5) (g : BitVec 2) (w : BitVec 2) (s : BitVec 3)
  /-- FADD (R103). -/
  | fadd (d : BitVec 5) (a : BitVec 5) (b : BitVec 5) (z : BitVec 1) (r : BitVec 3) (s : BitVec 3)
  /-- FSUB (R103). -/
  | fsub (d : BitVec 5) (a : BitVec 5) (b : BitVec 5) (z : BitVec 1) (r : BitVec 3) (s : BitVec 3)
  /-- FMUL (R103). -/
  | fmul (d : BitVec 5) (a : BitVec 5) (b : BitVec 5) (z : BitVec 1) (r : BitVec 3) (s : BitVec 3)
  /-- FMA (R103). -/
  | fma (d : BitVec 5) (a : BitVec 5) (b : BitVec 5) (z : BitVec 1) (r : BitVec 3) (s : BitVec 3)
  /-- FDIV (R103). -/
  | fdiv (d : BitVec 5) (a : BitVec 5) (b : BitVec 5) (z : BitVec 1) (r : BitVec 3) (s : BitVec 3)
  /-- FSQRT (R103). -/
  | fsqrt (d : BitVec 5) (a : BitVec 5) (z : BitVec 1) (r : BitVec 3) (s : BitVec 3)
  /-- FMIN (R103). -/
  | fmin (d : BitVec 5) (a : BitVec 5) (b : BitVec 5) (z : BitVec 1) (s : BitVec 3)
  /-- FMAX (R103). -/
  | fmax (d : BitVec 5) (a : BitVec 5) (b : BitVec 5) (z : BitVec 1) (s : BitVec 3)
  /-- FCMP (R103). -/
  | fcmp (d : BitVec 5) (a : BitVec 5) (b : BitVec 5) (z : BitVec 1) (c : BitVec 3) (s : BitVec 3)
  /-- FCVT (R104). -/
  | fcvt (d : BitVec 5) (a : BitVec 5) (c : BitVec 5) (r : BitVec 3) (s : BitVec 3)
  /-- FCLASS (R103). -/
  | fclass (d : BitVec 5) (a : BitVec 5) (z : BitVec 1) (s : BitVec 3)
  /-- FDROP (R411). -/
  | fdrop (a : BitVec 5)
  /-- FSEAL (R411). -/
  | fseal (i : BitVec 6)
  /-- ILLEGAL_WORD (R30). -/
  | illegalWord (word : BitVec 32)
  /-- HELD_ASYNC_TRAP_DELIVERY (R351). -/
  | heldAsyncTrapDelivery (core : Nat) (slot : Nat)
  /-- REPLY_LANDING (R141). -/
  | replyLanding (core : Nat) (req : Nat) (data : BitVec 512) (abort : Bool := false)
  /-- SLOT_READY (R142). -/
  | slotReady (core : Nat) (slot : Nat)
  /-- REMOTE_ACCESS_ARRIVAL (R170). -/
  | remoteAccessArrival (core : Nat) (req : Nat)
  /-- RD (R176). -/
  | rd (core : Nat) (evict : List Nat)
  /-- RDX (R176). -/
  | rdx (core : Nat) (evict : List Nat)
  /-- UPG (R178). -/
  | upg (core : Nat)
  /-- WB (R178). -/
  | wb (core : Nat)
  /-- WT (R174). -/
  | wt (core : Nat)
  /-- UREG (R176). -/
  | ureg (core : Nat)
  /-- UMRG (R181). -/
  | umrg (core : Nat)
  /-- FRSP (R180). -/
  | frsp (core : Nat) (toDir : Bool)
  /-- IACK (R176). -/
  | iack (core : Nat)
  /-- DATA_S (R179). -/
  | dataS (core : Nat) (evict : List Nat)
  /-- DATA_E (R179). -/
  | dataE (core : Nat) (evict : List Nat)
  /-- DATA_M (R179). -/
  | dataM (core : Nat) (evict : List Nat)
  /-- GRANT (R179). -/
  | grant (core : Nat)
  /-- INV (R179). -/
  | inv (core : Nat)
  /-- URCL (R181). -/
  | urcl (core : Nat)
  /-- FWD_S (R180). -/
  | fwdS (core : Nat)
  /-- FWD_X (R180). -/
  | fwdX (core : Nat)
  /-- WBACK (R179). -/
  | wback (core : Nat)
  /-- SUBSCRIPTION_PUSH (R183). -/
  | subscriptionPush (bent : Nat) (home : Nat := 0)
  /-- LEASE_EXPIRY (R185). -/
  | leaseExpiry (bent : Nat) (page : Nat)
  /-- PT_INVALIDATION (R186). -/
  | ptInvalidation (bent : Nat)
  /-- PT_WRITE_PERFORM (R376). -/
  | ptWritePerform (die : Nat) (idx : Nat)
  /-- TABLE_WALK_START (R375). -/
  | tableWalkStart (bent : Nat)
  /-- TABLE_WALK_COMPLETE (R371). -/
  | tableWalkComplete (bent : Nat) (idx : Nat) (poisoned : Bool)
  /-- MISS_TABLE_RETRY (R375). -/
  | missTableRetry (bent : Nat)
  /-- REHOME_COPY_DONE (R379). -/
  | rehomeCopyDone (die : Nat) (idx : Nat)
  /-- REHOME_RECOPY_DONE (R379). -/
  | rehomeRecopyDone (die : Nat) (idx : Nat)
  /-- PAGE_RECALL (R379). -/
  | pageRecall (die : Nat) (idx : Nat) (bent : Nat)
  /-- REHOME_SWITCH (R379). -/
  | rehomeSwitch (die : Nat) (idx : Nat)
  /-- FEATURE_COMMIT (R191). -/
  | featureCommit (pkg : Nat)
  /-- QTAIL_WRITE (R195). -/
  | qtailWrite (pkg : Nat) (queue : Nat) (value : BitVec 32)
  /-- LAUNCH_RECORD_READ (R195). -/
  | launchRecordRead (pkg : Nat) (queue : Nat) (record : BitVec 2048)
  /-- KERNEL_PLACEMENT (R210). -/
  | kernelPlacement (pkg : Nat) (kern : Nat) (cores : List Nat)
  /-- CONTEXT_LOADING_DONE (R135). -/
  | contextLoadingDone (core : Nat) (kern : Nat)
  /-- ROOT_TASK_START (R200). -/
  | rootTaskStart (pkg : Nat) (kern : Nat)
  /-- PREEMPT_WRITE (R201). -/
  | preemptWrite (pkg : Nat) (kern : Nat)
  /-- RESUME_WRITE (R199). -/
  | resumeWrite (pkg : Nat) (kern : Nat)
  /-- ABORT_WRITE (R201). -/
  | abortWrite (pkg : Nat) (kern : Nat) (supervisor : Bool := false)
  /-- KERNEL_RESUME_PLACEMENT (R362). -/
  | kernelResumePlacement (pkg : Nat) (kern : Nat) (cores : List Nat)
  /-- COMPLETION_RECORD_WRITE (R200). -/
  | completionRecordWrite (pkg : Nat) (kern : Nat)
  /-- CONTEXT_SAVE_COMPLETE (R360). -/
  | contextSaveComplete (core : Nat) (kern : Nat)
  /-- SAVE_AREA_ACCESS_FAILURE (R419). -/
  | saveAreaAccessFailure (core : Nat) (kern : Nat) (cause : BitVec 8) (addr : BitVec 64)
  /-- FORCED_STOP (R355). -/
  | forcedStop (core : Nat) (kern : Nat)
  /-- BUDGET_WATCHDOG_EXPIRY (R355). -/
  | budgetWatchdogExpiry (core : Nat) (kern : Nat)
  /-- BUDGET_ARM (R355). -/
  | budgetArm (core : Nat) (slot : Nat) (value : BitVec 64)
  /-- SUPERVISOR_QUEUE_DELIVERY (R357). -/
  | supervisorQueueDelivery (core : Nat) (kern : Nat)
  /-- RESTORE_STATE (R363). -/
  | restoreState (core : Nat) (kern : Nat)
  /-- RESTORE_LEASES (R364). -/
  | restoreLeases (core : Nat) (kern : Nat)
  /-- RESTORE_TRUSS (R363). -/
  | restoreTruss (core : Nat) (kern : Nat)
  /-- RESTORE_ENGQ (R363). -/
  | restoreEngq (core : Nat) (kern : Nat)
  /-- RESTORE_TASKS (R363). -/
  | restoreTasks (core : Nat) (kern : Nat)
  /-- RESTCTL_ERR_CLEAR (R363). -/
  | restctlErrClear (core : Nat) (kern : Nat)
  /-- CSEQ_WRITE (R363). -/
  | cseqWrite (core : Nat) (kern : Nat) (chan : Nat) (value : BitVec 64)
  /-- PTROOT_WRITE (R373). -/
  | ptrootWrite (core : Nat) (kern : Nat) (value : BitVec 64)
  /-- YARD_WRITE (R144). -/
  | yardWrite (core : Nat) (slot : Nat) (size : BitVec 2)
  /-- TRACECTL_ENABLE (R171). -/
  | tracectlEnable (core : Nat) (kern : Nat) (value : BitVec 64)
  /-- MONITOR_CSR_WRITE (R344). -/
  | monitorCsrWrite (core : Nat) (kern : Nat) (csr : BitVec 12) (value : BitVec 64)
  /-- ECODE_RESTART (R276). -/
  | ecodeRestart (core : Nat) (kern : Nat)
  /-- ECODE_DISCARD (R276). -/
  | ecodeDiscard (core : Nat) (kern : Nat)
  /-- CWM_RESUME (R299). -/
  | cwmResume (core : Nat) (kern : Nat) (chan : Nat) (value : BitVec 64)
  /-- CWM_HOLD (R299). -/
  | cwmHold (core : Nat) (kern : Nat) (chan : Nat) (value : BitVec 64)
  /-- LTMO_WRITE (R389). -/
  | ltmoWrite (die : Nat) (value : BitVec 64)
  /-- LOGHEAD_WRITE (R392). -/
  | logheadWrite (die : Nat) (value : BitVec 64)
  /-- REGISTER_WRITE (R6). -/
  | registerWrite (pkg : Nat) (offset : Nat) (value : BitVec 64)
  /-- CORE_GATE (R209). -/
  | coreGate (core : Nat)
  /-- BENT_GATE (R209). -/
  | bentGate (bent : Nat)
  /-- BENT_WAKE_COMPLETE (R209). -/
  | bentWakeComplete (bent : Nat)
  /-- CORE_WAKE_COMPLETE (R209). -/
  | coreWakeComplete (core : Nat)
  /-- CORE_FAILURE (R24). -/
  | coreFailure (core : Nat)
  /-- STEAL_PROBE (R226). -/
  | stealProbe (core : Nat)
  /-- STEAL_BACKOFF_EXPIRY (R226). -/
  | stealBackoffExpiry (core : Nat)
  /-- PROBE_ARRIVAL (R227). -/
  | probeArrival (core : Nat)
  /-- PROBE_EMPTY_REPLY (R226). -/
  | probeEmptyReply (core : Nat)
  /-- JOIN_INCREMENT (R228). -/
  | joinIncrement (core : Nat)
  /-- STEAL_FRAME_SEND (R228). -/
  | stealFrameSend (core : Nat)
  /-- STOLEN_TASK_START (R228). -/
  | stolenTaskStart (core : Nat)
  /-- CONTINUATION_RESUME (R230). -/
  | continuationResume (core : Nat) (slot : Nat)
  /-- TIMEOUT_EXAMINATION (R250). -/
  | timeoutExamination (bent : Nat)
  /-- BATCH_DISPATCH (R250). -/
  | batchDispatch (bent : Nat) (idx : Nat)
  /-- BIN_LAUNCH_ON_BUFFER_FREE (R253). -/
  | binLaunchOnBufferFree (bent : Nat)
  /-- TASKQ_READY_APPEND (R257). -/
  | taskqReadyAppend (bent : Nat) (idx : Nat)
  /-- TASKQ_APPEND_RETRY (R257). -/
  | taskqAppendRetry (bent : Nat) (idx : Nat)
  /-- DONATION_ARRIVAL (R258). -/
  | donationArrival (core : Nat) (req : Nat)
  /-- TRUSS_GRANT (R262). -/
  | trussGrant (quad : Nat)
  /-- UNIT_COMMIT (R268). -/
  | unitCommit (core : Nat) (stop : Bool)
  /-- TRUSS_PORT_COMMAND_COMPLETE (R274). -/
  | trussPortCommandComplete (core : Nat)
  /-- OPERAND_CHUNK_SEND (R275). -/
  | operandChunkSend (core : Nat) (sideB : Bool)
  /-- OPERAND_MESSAGE_ARRIVAL (R276). -/
  | operandMessageArrival (core : Nat)
  /-- TRUSS_RUNTIME_FAULT (R276). -/
  | trussRuntimeFault (core : Nat) (code : BitVec 8) (addr : BitVec 64)
  /-- CHAINED_OPERATION_ENTRY (R277). -/
  | chainedOperationEntry (core : Nat) (kern : Nat) (chan : Nat)
  /-- COPY_START (R284). -/
  | copyStart (core : Nat) (queue : Nat)
  /-- COPY_LANDING (R290). -/
  | copyLanding (core : Nat) (kern : Nat) (chan : Nat) (first : Nat) (count : Nat)
  /-- COPY_TRANSLATION_FAULT (R299). -/
  | copyTranslationFault (core : Nat) (kern : Nat) (chan : Nat)
  /-- COPY_FAULT (R299). -/
  | copyFault (core : Nat) (kern : Nat) (chan : Nat) (code : BitVec 8) (addr : BitVec 64)
  /-- BARRIER_ARRIVAL (R304). -/
  | barrierArrival (bent : Nat)
  /-- BARRIER_BYTE_COUNT (R304). -/
  | barrierByteCount (bent : Nat)
  /-- BARRIER_EXPECT (R304). -/
  | barrierExpect (bent : Nat)
  /-- BARRIER_WAKE (R307). -/
  | barrierWake (bent : Nat)
  /-- MONITOR_COLLECT (R338). -/
  | monitorCollect (bent : Nat) (index : Nat)
  /-- PLUMB_VERDICT (R338). -/
  | plumbVerdict (bent : Nat) (index : Nat)
  /-- PACKET_DELIVERY (R322). -/
  | packetDelivery (core : Nat)
  /-- PACKET_RETRY (R322). -/
  | packetRetry (core : Nat)
  /-- SEND_ERROR_REPLY (R322). -/
  | sendErrorReply (core : Nat)
  /-- HANDLER_START (R323). -/
  | handlerStart (core : Nat) (kern : Nat) (queue : Nat)
  /-- WAKE_TASK_START (R323). -/
  | wakeTaskStart (core : Nat) (kern : Nat) (queue : Nat)
  /-- RECEIVE_ARRIVAL (R327). -/
  | receiveArrival (core : Nat)
  /-- CLEAR_TO_SEND (R328). -/
  | clearToSend (die : Nat) (idx : Nat)
  /-- MESSAGE_LANDING (R329). -/
  | messageLanding (die : Nat) (idx : Nat) (count : Nat)
  /-- LANDING_FAULT (R331). -/
  | landingFault (die : Nat) (idx : Nat)
  /-- LINK_TRAINING_START (R388). -/
  | linkTrainingStart (link : Nat)
  /-- LINK_TRAINED (R388). -/
  | linkTrained (link : Nat) (width : BitVec 8)
  /-- LTMO_EXPIRY (R388). -/
  | ltmoExpiry (link : Nat)
  /-- LANE_FAILURE (R387). -/
  | laneFailure (link : Nat) (lane : BitVec 16) (far : Bool) (module : Nat := 0)
  /-- FLIT_CRC_ERROR (R383). -/
  | flitCrcError (link : Nat)
  /-- QUIESCE_COMMAND (R388). -/
  | quiesceCommand (link : Nat)
  /-- QUIESCE_DRAINED (R388). -/
  | quiesceDrained (link : Nat)
  /-- QUIESCE_RELEASE (R388). -/
  | quiesceRelease (link : Nat)
  /-- LINK_FAILED_SETTLE (R390). -/
  | linkFailedSettle (link : Nat)
  /-- LINK_RESET (R388). -/
  | linkReset (link : Nat)
  /-- PLANE_MASK_UPDATE (R385). -/
  | planeMaskUpdate (pkg : Nat) (mask : BitVec 36)
  /-- DIE_WARM_RESET (R394). -/
  | dieWarmReset (die : Nat)
  /-- RESET_WAIT_EXPIRY (R394). -/
  | resetWaitExpiry (die : Nat)
  /-- DIE_RECALL_COMPLETE (R394). -/
  | dieRecallComplete (die : Nat)
  /-- DIE_RESET_COMPLETE (R394). -/
  | dieResetComplete (die : Nat) (spares : List Nat)
  /-- DIE_RETURN_TO_PLACEMENT (R394). -/
  | dieReturnToPlacement (die : Nat)
  /-- COLD_RESET (R409). -/
  | coldReset (pkg : Nat)
  /-- MANAGEMENT_TAKEOVER (R416). -/
  | managementTakeover (pkg : Nat)
  /-- LAUNCH_CONTROLLER_TAKEOVER (R416). -/
  | launchControllerTakeover (pkg : Nat)
  /-- THERMAL_DUTY_STEP (R406). -/
  | thermalDutyStep (die : Nat) (region : Nat) (restore : Bool)
  /-- REGION_DEGRADED (R406). -/
  | regionDegraded (die : Nat) (region : Nat)
  /-- FLUX_WRITE (R407). -/
  | fluxWrite (die : Nat) (region : Nat) (value : BitVec 64)
  /-- PATROL_SCRUB (R418). -/
  | patrolScrub (core : Nat) (store : BitVec 2) (word : Nat)
  /-- CORRECTED_ERROR (R418). -/
  | correctedError (core : Nat)
  /-- UNCORRECTABLE_ERROR (R418). -/
  | uncorrectableError (core : Nat) (store : BitVec 2) (word : Nat)
  /-- GET_CERTIFICATE (R415). -/
  | getCertificate (pkg : Nat) (doe : Bool)
  /-- CHALLENGE (R415). -/
  | challenge (pkg : Nat) (doe : Bool) (nonce : BitVec 256)
  /-- GET_MEASUREMENTS (R415). -/
  | getMeasurements (pkg : Nat) (doe : Bool)
  /-- CORE_RESET_COMPLETE (R354). -/
  | coreResetComplete (core : Nat)
  /-- HOME_AGENT_REQUEST (R101). -/
  | homeAgentRequest (die : Nat) (stack : Nat := 0)
  /-- TRUSS_OPERANDS_PRESENT (R262). -/
  | trussOperandsPresent (core : Nat)
deriving DecidableEq, Repr

/-- Whether a step is an event: a row of the opcode table that no instruction word encodes. -/
def Instr.isEvent : Instr → Bool
  | .add _ _ _ _ => false
  | .sub _ _ _ _ => false
  | .and _ _ _ _ => false
  | .or _ _ _ _ => false
  | .xor _ _ _ _ => false
  | .andn _ _ _ _ => false
  | .sll _ _ _ _ => false
  | .srl _ _ _ _ => false
  | .sra _ _ _ _ => false
  | .min _ _ _ _ => false
  | .max _ _ _ _ => false
  | .minz _ _ _ _ => false
  | .maxz _ _ _ _ => false
  | .slt _ _ _ _ => false
  | .sltz _ _ _ _ => false
  | .seq _ _ _ _ => false
  | .clz _ _ _ => false
  | .ctz _ _ _ => false
  | .popc _ _ _ => false
  | .padd _ _ _ _ => false
  | .psub _ _ _ _ => false
  | .pdesc _ _ _ => false
  | .pset _ _ _ _ => false
  | .cselEqz _ _ _ _ _ => false
  | .cselNez _ _ _ _ _ => false
  | .cselLtz _ _ _ _ _ => false
  | .cselGez _ _ _ _ _ => false
  | .cselGtz _ _ _ _ _ => false
  | .cselLez _ _ _ _ _ => false
  | .mul _ _ _ _ => false
  | .mulh _ _ _ _ => false
  | .mulhz _ _ _ _ => false
  | .div _ _ _ _ => false
  | .divz _ _ _ _ => false
  | .rem _ _ _ _ => false
  | .remz _ _ _ _ => false
  | .addi _ _ _ => false
  | .andi _ _ _ => false
  | .ori _ _ _ => false
  | .xori _ _ _ => false
  | .slti _ _ _ => false
  | .sltiz _ _ _ => false
  | .slli _ _ _ => false
  | .srli _ _ _ => false
  | .srai _ _ _ => false
  | .paddi _ _ _ => false
  | .luk _ _ => false
  | .addpc _ _ => false
  | .ldB _ _ _ => false
  | .ldH _ _ _ => false
  | .ldW _ _ _ => false
  | .ldD _ _ _ => false
  | .ldzB _ _ _ => false
  | .ldzH _ _ _ => false
  | .ldzW _ _ _ => false
  | .stB _ _ _ => false
  | .stH _ _ _ => false
  | .stW _ _ _ => false
  | .stD _ _ _ => false
  | .ldcW _ _ _ => false
  | .ldcD _ _ _ => false
  | .ldbit _ _ _ _ _ => false
  | .ldbitS _ _ _ _ _ => false
  | .stbit _ _ _ _ _ => false
  | .amoAdd _ _ _ _ _ _ => false
  | .amoAnd _ _ _ _ _ _ => false
  | .amoOr _ _ _ _ _ _ => false
  | .amoXor _ _ _ _ _ _ => false
  | .amoMin _ _ _ _ _ _ => false
  | .amoMax _ _ _ _ _ _ => false
  | .amoMinz _ _ _ _ _ _ => false
  | .amoMaxz _ _ _ _ _ _ => false
  | .amoSwap _ _ _ _ _ _ => false
  | .amoCas _ _ _ _ _ _ => false
  | .amoFaddF32 _ _ _ _ _ => false
  | .amoFaddBf16 _ _ _ _ _ => false
  | .updAdd _ _ _ _ => false
  | .updFadd _ _ _ _ => false
  | .updMin _ _ _ _ => false
  | .updMax _ _ _ _ => false
  | .updOr _ _ _ _ => false
  | .updAnd _ _ _ _ => false
  | .beq _ _ _ => false
  | .bne _ _ _ => false
  | .blt _ _ _ => false
  | .bge _ _ _ => false
  | .bltz _ _ _ => false
  | .bgez _ _ _ => false
  | .jal _ _ => false
  | .jalr _ _ _ => false
  | .skipEqz _ _ => false
  | .skipNez _ _ => false
  | .skipLtz _ _ => false
  | .skipGez _ _ => false
  | .skipGtz _ _ => false
  | .skipLez _ _ => false
  | .fenceAcq _ _ => false
  | .fenceRel _ _ => false
  | .fenceFull _ _ => false
  | .qfence _ => false
  | .cclean _ _ => false
  | .cinv _ _ => false
  | .cflush _ _ => false
  | .nop => false
  | .trap _ => false
  | .tret => false
  | .wfe => false
  | .break => false
  | .halt => false
  | .csrr _ _ _ => false
  | .csrw _ _ _ _ => false
  | .csrs _ _ _ _ => false
  | .csrc _ _ _ _ => false
  | .spawn _ _ _ _ => false
  | .rets _ _ => false
  | .sync _ _ => false
  | .publish _ _ _ _ => false
  | .tend _ => false
  | .tself _ _ => false
  | .launch _ _ _ => false
  | .qbind _ _ _ => false
  | .qpush _ _ _ => false
  | .qpop _ _ _ => false
  | .enq _ _ _ _ => false
  | .spawnb _ _ _ _ => false
  | .binflush _ _ => false
  | .taskq _ _ _ _ => false
  | .sqinc _ _ _ _ => false
  | .sqread _ _ _ => false
  | .donate _ _ _ _ => false
  | .binit _ _ _ _ => false
  | .barrive _ _ => false
  | .bexpect _ _ _ => false
  | .bwait _ _ _ => false
  | .btest _ _ _ => false
  | .bfree _ _ => false
  | .sendi _ _ _ => false
  | .sendb _ _ _ _ => false
  | .rpost _ _ _ _ => false
  | .rcancel _ _ _ => false
  | .qwake _ _ _ => false
  | .msgdone _ => false
  | .monset _ _ _ _ => false
  | .monarm _ _ _ => false
  | .monref _ _ _ => false
  | .monread _ _ _ _ => false
  | .monclr _ _ => false
  | .subs _ _ _ _ => false
  | .unsubs _ _ => false
  | .mset _ _ => false
  | .mget _ _ => false
  | .mma _ _ => false
  | .mmaco _ _ => false
  | .mwait _ => false
  | .mwaitT _ => false
  | .msave _ => false
  | .mload _ => false
  | .mzero => false
  | .cput _ _ _ => false
  | .cget _ _ _ => false
  | .claunch _ _ => false
  | .cwait _ _ => false
  | .cstatus _ _ => false
  | .cabort _ _ => false
  | .shapeMk _ _ _ _ => false
  | .shapeGet _ _ _ _ => false
  | .vadd _ _ _ _ _ _ => false
  | .vsub _ _ _ _ _ _ => false
  | .vmul _ _ _ _ _ _ => false
  | .vmulh _ _ _ _ _ _ => false
  | .vmin _ _ _ _ _ _ => false
  | .vmax _ _ _ _ _ _ => false
  | .vand _ _ _ _ _ _ => false
  | .vor _ _ _ _ _ _ => false
  | .vxor _ _ _ _ _ _ => false
  | .vsll _ _ _ _ _ _ => false
  | .vsrl _ _ _ _ _ _ => false
  | .vsra _ _ _ _ _ _ => false
  | .vfadd _ _ _ _ _ _ => false
  | .vfsub _ _ _ _ _ _ => false
  | .vfmul _ _ _ _ _ _ => false
  | .vfmin _ _ _ _ _ _ => false
  | .vfmax _ _ _ _ _ _ => false
  | .vfdiv _ _ _ _ _ _ => false
  | .vfsqrt _ _ _ _ _ => false
  | .vfrcp _ _ _ _ _ => false
  | .vfrsq _ _ _ _ _ => false
  | .vfexp2 _ _ _ _ _ => false
  | .vflog2 _ _ _ _ _ => false
  | .vfma _ _ _ _ _ _ => false
  | .vfms _ _ _ _ _ _ => false
  | .vfnma _ _ _ _ _ _ => false
  | .vcvt _ _ _ _ _ _ _ => false
  | .vqmx _ _ _ _ _ => false
  | .vdqmx _ _ _ _ _ => false
  | .vxdec _ _ _ => false
  | .vld _ _ _ _ _ => false
  | .vst _ _ _ _ _ => false
  | .vlds _ _ _ _ _ _ => false
  | .vsts _ _ _ _ _ _ => false
  | .vgather _ _ _ _ _ _ => false
  | .vscatter _ _ _ _ _ _ => false
  | .vldb _ _ _ _ _ _ => false
  | .vstb _ _ _ _ _ _ => false
  | .vbcast _ _ _ _ _ => false
  | .vmovg _ _ _ _ _ _ => false
  | .vins _ _ _ _ _ _ => false
  | .vperm _ _ _ _ _ _ => false
  | .vshuf _ _ _ _ _ _ => false
  | .vred _ _ _ _ _ _ => false
  | .vscan _ _ _ _ _ _ => false
  | .vcompress _ _ _ _ _ => false
  | .vrbox _ _ _ _ _ => false
  | .vrtri _ _ _ _ _ => false
  | .vcmpEq _ _ _ _ _ _ => false
  | .vcmpNe _ _ _ _ _ _ => false
  | .vcmpLt _ _ _ _ _ _ => false
  | .vcmpLe _ _ _ _ _ _ => false
  | .vcmpLtz _ _ _ _ _ _ => false
  | .vcmpLez _ _ _ _ _ _ => false
  | .vcmpFeq _ _ _ _ _ _ => false
  | .vcmpFlt _ _ _ _ _ _ => false
  | .vcmpFle _ _ _ _ _ _ => false
  | .vcmpFun _ _ _ _ _ _ => false
  | .fadd _ _ _ _ _ _ => false
  | .fsub _ _ _ _ _ _ => false
  | .fmul _ _ _ _ _ _ => false
  | .fma _ _ _ _ _ _ => false
  | .fdiv _ _ _ _ _ _ => false
  | .fsqrt _ _ _ _ _ => false
  | .fmin _ _ _ _ _ => false
  | .fmax _ _ _ _ _ => false
  | .fcmp _ _ _ _ _ _ => false
  | .fcvt _ _ _ _ _ => false
  | .fclass _ _ _ _ => false
  | .fdrop _ => false
  | .fseal _ => false
  | .illegalWord _ => true
  | .heldAsyncTrapDelivery _ _ => true
  | .replyLanding _ _ _ _ => true
  | .slotReady _ _ => true
  | .remoteAccessArrival _ _ => true
  | .rd _ _ => true
  | .rdx _ _ => true
  | .upg _ => true
  | .wb _ => true
  | .wt _ => true
  | .ureg _ => true
  | .umrg _ => true
  | .frsp _ _ => true
  | .iack _ => true
  | .dataS _ _ => true
  | .dataE _ _ => true
  | .dataM _ _ => true
  | .grant _ => true
  | .inv _ => true
  | .urcl _ => true
  | .fwdS _ => true
  | .fwdX _ => true
  | .wback _ => true
  | .subscriptionPush _ _ => true
  | .leaseExpiry _ _ => true
  | .ptInvalidation _ => true
  | .ptWritePerform _ _ => true
  | .tableWalkStart _ => true
  | .tableWalkComplete _ _ _ => true
  | .missTableRetry _ => true
  | .rehomeCopyDone _ _ => true
  | .rehomeRecopyDone _ _ => true
  | .pageRecall _ _ _ => true
  | .rehomeSwitch _ _ => true
  | .featureCommit _ => true
  | .qtailWrite _ _ _ => true
  | .launchRecordRead _ _ _ => true
  | .kernelPlacement _ _ _ => true
  | .contextLoadingDone _ _ => true
  | .rootTaskStart _ _ => true
  | .preemptWrite _ _ => true
  | .resumeWrite _ _ => true
  | .abortWrite _ _ _ => true
  | .kernelResumePlacement _ _ _ => true
  | .completionRecordWrite _ _ => true
  | .contextSaveComplete _ _ => true
  | .saveAreaAccessFailure _ _ _ _ => true
  | .forcedStop _ _ => true
  | .budgetWatchdogExpiry _ _ => true
  | .budgetArm _ _ _ => true
  | .supervisorQueueDelivery _ _ => true
  | .restoreState _ _ => true
  | .restoreLeases _ _ => true
  | .restoreTruss _ _ => true
  | .restoreEngq _ _ => true
  | .restoreTasks _ _ => true
  | .restctlErrClear _ _ => true
  | .cseqWrite _ _ _ _ => true
  | .ptrootWrite _ _ _ => true
  | .yardWrite _ _ _ => true
  | .tracectlEnable _ _ _ => true
  | .monitorCsrWrite _ _ _ _ => true
  | .ecodeRestart _ _ => true
  | .ecodeDiscard _ _ => true
  | .cwmResume _ _ _ _ => true
  | .cwmHold _ _ _ _ => true
  | .ltmoWrite _ _ => true
  | .logheadWrite _ _ => true
  | .registerWrite _ _ _ => true
  | .coreGate _ => true
  | .bentGate _ => true
  | .bentWakeComplete _ => true
  | .coreWakeComplete _ => true
  | .coreFailure _ => true
  | .stealProbe _ => true
  | .stealBackoffExpiry _ => true
  | .probeArrival _ => true
  | .probeEmptyReply _ => true
  | .joinIncrement _ => true
  | .stealFrameSend _ => true
  | .stolenTaskStart _ => true
  | .continuationResume _ _ => true
  | .timeoutExamination _ => true
  | .batchDispatch _ _ => true
  | .binLaunchOnBufferFree _ => true
  | .taskqReadyAppend _ _ => true
  | .taskqAppendRetry _ _ => true
  | .donationArrival _ _ => true
  | .trussGrant _ => true
  | .unitCommit _ _ => true
  | .trussPortCommandComplete _ => true
  | .operandChunkSend _ _ => true
  | .operandMessageArrival _ => true
  | .trussRuntimeFault _ _ _ => true
  | .chainedOperationEntry _ _ _ => true
  | .copyStart _ _ => true
  | .copyLanding _ _ _ _ _ => true
  | .copyTranslationFault _ _ _ => true
  | .copyFault _ _ _ _ _ => true
  | .barrierArrival _ => true
  | .barrierByteCount _ => true
  | .barrierExpect _ => true
  | .barrierWake _ => true
  | .monitorCollect _ _ => true
  | .plumbVerdict _ _ => true
  | .packetDelivery _ => true
  | .packetRetry _ => true
  | .sendErrorReply _ => true
  | .handlerStart _ _ _ => true
  | .wakeTaskStart _ _ _ => true
  | .receiveArrival _ => true
  | .clearToSend _ _ => true
  | .messageLanding _ _ _ => true
  | .landingFault _ _ => true
  | .linkTrainingStart _ => true
  | .linkTrained _ _ => true
  | .ltmoExpiry _ => true
  | .laneFailure _ _ _ _ => true
  | .flitCrcError _ => true
  | .quiesceCommand _ => true
  | .quiesceDrained _ => true
  | .quiesceRelease _ => true
  | .linkFailedSettle _ => true
  | .linkReset _ => true
  | .planeMaskUpdate _ _ => true
  | .dieWarmReset _ => true
  | .resetWaitExpiry _ => true
  | .dieRecallComplete _ => true
  | .dieResetComplete _ _ => true
  | .dieReturnToPlacement _ => true
  | .coldReset _ => true
  | .managementTakeover _ => true
  | .launchControllerTakeover _ => true
  | .thermalDutyStep _ _ _ => true
  | .regionDegraded _ _ => true
  | .fluxWrite _ _ _ => true
  | .patrolScrub _ _ _ => true
  | .correctedError _ => true
  | .uncorrectableError _ _ _ => true
  | .getCertificate _ _ => true
  | .challenge _ _ _ => true
  | .getMeasurements _ _ => true
  | .coreResetComplete _ => true
  | .homeAgentRequest _ _ => true
  | .trussOperandsPresent _ => true

end Sys2Proof
end

