-- ==== Sys2Proof/WellFormed.lean ====
section
/-!
DEFINITION. Which instructions are well formed: the reserved codes of the fields (02 R30, R41, R44 to R48, 05 R112 and
the reserved codes that chapters 04, 05, 15 and 26 name for their instructions).  Zero fields are a matter of the
encoding (Decode).

Readings of the manual and choices that this file codes: assumption log 40.
-/
namespace Sys2Proof

/-- Scope code 7 is reserved in every instruction (R48). -/
def scopeOk (c : BitVec 3) : Bool := c != 7#3

/-- A field marked "v only" closes the encodings of the queue registers (R42). -/
def vOnly (r : BitVec 5) : Bool := decide (r.toNat < 24)

/-- The first register of a pair is even and the pair ends at v23 or before; a queue register stands for two successive
entries (R111, R112). -/
def pairOk (r : BitVec 5) : Bool := decide (24 ≤ r.toNat) || decide (r.toNat % 2 = 0)

/-- A ray block starts at v0, v8 or v16 (R130). -/
def rayBlock (r : BitVec 5) : Bool := r == 0#5 || r == 8#5 || r == 16#5

/-- Reduction codes and the widths they take (R129, table 5.7). -/
def reductionOk (o : BitVec 5) (w : BitVec 2) : Bool :=
  if o.toNat < 8 then true
  else if o.toNat < 11 then w != 0#2
  else if o.toNat < 14 then w == 1#2
  else false

/-- Whether a conversion pair of table 5.4 has BF16 or FP16 as its target. -/
def cvtToHalf (p : BitVec 7) : Bool :=
  let n := p.toNat
  (4 ≤ n && n < 8) || n == 0xC || n == 0xD || (0x54 ≤ n && n < 0x58) || (0x5C ≤ n && n < 0x60) || (0x66 ≤ n && n < 0x68)

/-- Whether a conversion pair of table 5.4 has an FP8, FP6 or FP4 format as its target. -/
def cvtToNarrow (p : BitVec 7) : Bool :=
  let n := p.toNat
  (0x10 ≤ n && n < 0x24) || (0x50 ≤ n && n < 0x54) || (0x58 ≤ n && n < 0x5C)

/-- Pair indices from 0x68 are reserved; the stochastic and the non-saturating code only for the targets of R120. -/
def cvtOk (p : BitVec 7) (r : BitVec 3) : Bool :=
  decide (p.toNat < 0x68) &&
    (if r.toNat < 4 then true
     else if r.toNat = 4 then cvtToHalf p || cvtToNarrow p
     else if r.toNat = 5 then cvtToNarrow p
     else false)

/-- The MX format code (bits 4 to 2) and the width code of VQMX and VDQMX (R121, R122). -/
def mxParamOk (p : BitVec 5) (e : BitVec 2) : Bool := decide (p.toNat / 4 < 6) && (e == 0#2 || e == 2#2)

/-- Whether no field of an instruction holds a reserved code.  Events have no fields of an encoding. -/
def Instr.wellFormed : Instr → Bool
  | .add _ _ _ _ => true
  | .sub _ _ _ _ => true
  | .and _ _ _ _ => true
  | .or _ _ _ _ => true
  | .xor _ _ _ _ => true
  | .andn _ _ _ _ => true
  | .sll _ _ _ _ => true
  | .srl _ _ _ _ => true
  | .sra _ _ _ _ => true
  | .min _ _ _ _ => true
  | .max _ _ _ _ => true
  | .minz _ _ _ _ => true
  | .maxz _ _ _ _ => true
  | .slt _ _ _ _ => true
  | .sltz _ _ _ _ => true
  | .seq _ _ _ _ => true
  | .clz _ _ _ => true
  | .ctz _ _ _ => true
  | .popc _ _ _ => true
  | .padd _ _ _ _ => true
  | .psub _ _ _ _ => true
  | .pdesc _ _ _ => true
  | .pset _ _ _ _ => true
  | .cselEqz _ _ _ _ _ => true
  | .cselNez _ _ _ _ _ => true
  | .cselLtz _ _ _ _ _ => true
  | .cselGez _ _ _ _ _ => true
  | .cselGtz _ _ _ _ _ => true
  | .cselLez _ _ _ _ _ => true
  | .mul _ _ _ _ => true
  | .mulh _ _ _ _ => true
  | .mulhz _ _ _ _ => true
  | .div _ _ _ _ => true
  | .divz _ _ _ _ => true
  | .rem _ _ _ _ => true
  | .remz _ _ _ _ => true
  | .addi _ _ _ => true
  | .andi _ _ _ => true
  | .ori _ _ _ => true
  | .xori _ _ _ => true
  | .slti _ _ _ => true
  | .sltiz _ _ _ => true
  | .slli _ _ _ => true
  | .srli _ _ _ => true
  | .srai _ _ _ => true
  | .paddi _ _ _ => true
  | .luk _ _ => true
  | .addpc _ _ => true
  | .ldB _ _ _ => true
  | .ldH _ _ _ => true
  | .ldW _ _ _ => true
  | .ldD _ _ _ => true
  | .ldzB _ _ _ => true
  | .ldzH _ _ _ => true
  | .ldzW _ _ _ => true
  | .stB _ _ _ => true
  | .stH _ _ _ => true
  | .stW _ _ _ => true
  | .stD _ _ _ => true
  | .ldcW _ _ _ => true
  | .ldcD _ _ _ => true
  | .ldbit _ _ _ _ _ => true
  | .ldbitS _ _ _ _ _ => true
  | .stbit _ _ _ _ _ => true
  | .amoAdd _ _ _ _ c o => scopeOk c && decide (o.toNat < 4)
  | .amoAnd _ _ _ _ c o => scopeOk c && decide (o.toNat < 4)
  | .amoOr _ _ _ _ c o => scopeOk c && decide (o.toNat < 4)
  | .amoXor _ _ _ _ c o => scopeOk c && decide (o.toNat < 4)
  | .amoMin _ _ _ _ c o => scopeOk c && decide (o.toNat < 4)
  | .amoMax _ _ _ _ c o => scopeOk c && decide (o.toNat < 4)
  | .amoMinz _ _ _ _ c o => scopeOk c && decide (o.toNat < 4)
  | .amoMaxz _ _ _ _ c o => scopeOk c && decide (o.toNat < 4)
  | .amoSwap _ _ _ _ c o => scopeOk c && decide (o.toNat < 4)
  | .amoCas _ _ _ _ c o => scopeOk c && decide (o.toNat < 4)
  | .amoFaddF32 _ _ _ c o => scopeOk c && decide (o.toNat < 4)
  | .amoFaddBf16 _ _ _ c o => scopeOk c && decide (o.toNat < 4)
  | .updAdd _ _ z c => scopeOk c && decide (z.toNat < 2)
  | .updFadd _ _ z c => scopeOk c && decide (z.toNat < 2)
  | .updMin _ _ z c => scopeOk c && decide (z.toNat < 2)
  | .updMax _ _ z c => scopeOk c && decide (z.toNat < 2)
  | .updOr _ _ z c => scopeOk c && decide (z.toNat < 2)
  | .updAnd _ _ z c => scopeOk c && decide (z.toNat < 2)
  | .beq _ _ _ => true
  | .bne _ _ _ => true
  | .blt _ _ _ => true
  | .bge _ _ _ => true
  | .bltz _ _ _ => true
  | .bgez _ _ _ => true
  | .jal _ _ => true
  | .jalr _ _ _ => true
  | .skipEqz _ n => n != 0#3
  | .skipNez _ n => n != 0#3
  | .skipLtz _ n => n != 0#3
  | .skipGez _ n => n != 0#3
  | .skipGtz _ n => n != 0#3
  | .skipLez _ n => n != 0#3
  | .fenceAcq _ c => scopeOk c
  | .fenceRel _ c => scopeOk c
  | .fenceFull _ c => scopeOk c
  | .qfence q => q != 0#4
  | .cclean _ c => scopeOk c && decide (2 ≤ c.toNat)
  | .cinv _ c => scopeOk c && decide (2 ≤ c.toNat)
  | .cflush _ c => scopeOk c && decide (2 ≤ c.toNat)
  | .nop => true
  | .trap _ => true
  | .tret => true
  | .wfe => true
  | .break => true
  | .halt => true
  | .csrr _ _ _ => true
  | .csrw _ _ _ _ => true
  | .csrs _ _ _ _ => true
  | .csrc _ _ _ _ => true
  | .spawn _ _ _ _ => true
  | .rets _ _ => true
  | .sync _ _ => true
  | .publish _ _ _ _ => true
  | .tend _ => true
  | .tself _ _ => true
  | .launch _ _ _ => true
  | .qbind _ _ _ => true
  | .qpush _ _ _ => true
  | .qpop _ _ _ => true
  | .enq _ _ _ _ => true
  | .spawnb _ _ _ _ => true
  | .binflush _ _ => true
  | .taskq _ _ _ _ => true
  | .sqinc _ _ _ _ => true
  | .sqread _ _ _ => true
  | .donate _ _ _ _ => true
  | .binit _ _ _ _ => true
  | .barrive _ _ => true
  | .bexpect _ _ _ => true
  | .bwait _ _ _ => true
  | .btest _ _ _ => true
  | .bfree _ _ => true
  | .sendi _ _ _ => true
  | .sendb _ _ _ _ => true
  | .rpost _ _ _ _ => true
  | .rcancel _ _ _ => true
  | .qwake _ _ _ => true
  | .msgdone _ => true
  | .monset _ _ _ _ => true
  | .monarm _ _ _ => true
  | .monref _ _ _ => true
  | .monread _ _ _ _ => true
  | .monclr _ _ => true
  | .subs _ _ _ _ => true
  | .unsubs _ _ => true
  | .mset _ m => decide (m.toNat ≤ 12)
  | .mget m _ => decide (m.toNat ≤ 12)
  | .mma _ _ => true
  | .mmaco _ _ => true
  | .mwait _ => true
  | .mwaitT _ => true
  | .msave _ => true
  | .mload _ => true
  | .mzero => true
  | .cput _ _ x => decide (x.toNat ≤ 8)
  | .cget _ x _ => decide (x.toNat ≤ 8)
  | .claunch _ _ => true
  | .cwait _ _ => true
  | .cstatus _ _ => true
  | .cabort _ _ => true
  | .shapeMk _ _ _ _ => true
  | .shapeGet _ _ n _ => decide (n.toNat ≤ 8)
  | .vadd _ _ _ _ _ _ => true
  | .vsub _ _ _ _ _ _ => true
  | .vmul _ _ _ _ _ _ => true
  | .vmulh _ _ _ _ _ _ => true
  | .vmin _ _ _ _ _ _ => true
  | .vmax _ _ _ _ _ _ => true
  | .vand _ _ _ _ _ _ => true
  | .vor _ _ _ _ _ _ => true
  | .vxor _ _ _ _ _ _ => true
  | .vsll _ _ _ _ _ _ => true
  | .vsrl _ _ _ _ _ _ => true
  | .vsra _ _ _ _ _ _ => true
  | .vfadd _ _ _ _ _ _ => true
  | .vfsub _ _ _ _ _ _ => true
  | .vfmul _ _ _ _ _ _ => true
  | .vfmin _ _ _ _ _ _ => true
  | .vfmax _ _ _ _ _ _ => true
  | .vfdiv _ _ _ _ _ _ => true
  | .vfsqrt _ _ _ _ _ => true
  | .vfrcp _ _ _ w _ => w != 3#2
  | .vfrsq _ _ _ w _ => w != 3#2
  | .vfexp2 _ _ _ w _ => w != 3#2
  | .vflog2 _ _ _ w _ => w != 3#2
  | .vfma d _ _ _ _ _ => vOnly d
  | .vfms d _ _ _ _ _ => vOnly d
  | .vfnma d _ _ _ _ _ => vOnly d
  | .vcvt _ _ p _ e r _ => cvtOk (e ++ p) r
  | .vqmx _ a p e _ => mxParamOk p e && (e == 0#2 || pairOk a)
  | .vdqmx d _ p e _ => mxParamOk p e && (e == 0#2 || pairOk d)
  | .vxdec _ _ _ => true
  | .vld d _ _ _ _ => vOnly d
  | .vst d _ _ _ _ => vOnly d
  | .vlds d _ _ _ _ _ => vOnly d
  | .vsts d _ _ _ _ _ => vOnly d
  | .vgather d _ b _ w _ => vOnly d && vOnly b && decide (2 ≤ w.toNat)
  | .vscatter d _ b _ w _ => vOnly d && vOnly b && decide (2 ≤ w.toNat)
  | .vldb d _ n _ w _ => vOnly d && decide (n.toNat + 1 ≤ Nat.min (8 <<< w.toNat) 32)
  | .vstb d _ n _ w _ => vOnly d && decide (n.toNat + 1 ≤ Nat.min (8 <<< w.toNat) 32)
  | .vbcast _ _ _ _ _ => true
  | .vmovg _ _ _ _ _ _ => true
  | .vins _ _ _ _ _ _ => true
  | .vperm _ _ _ _ _ _ => true
  | .vshuf _ _ _ _ _ _ => true
  | .vred _ _ o _ w _ => reductionOk o w
  | .vscan _ _ o _ w _ => reductionOk o w
  | .vcompress _ _ _ _ _ => true
  | .vrbox d a b _ _ => vOnly d && rayBlock a && vOnly b
  | .vrtri d a b _ _ => vOnly d && decide (d.toNat % 4 = 0) && rayBlock a && vOnly b
  | .vcmpEq _ _ _ _ _ _ => true
  | .vcmpNe _ _ _ _ _ _ => true
  | .vcmpLt _ _ _ _ _ _ => true
  | .vcmpLe _ _ _ _ _ _ => true
  | .vcmpLtz _ _ _ _ _ _ => true
  | .vcmpLez _ _ _ _ _ _ => true
  | .vcmpFeq _ _ _ _ _ _ => true
  | .vcmpFlt _ _ _ _ _ _ => true
  | .vcmpFle _ _ _ _ _ _ => true
  | .vcmpFun _ _ _ _ _ _ => true
  | .fadd _ _ _ _ r _ => decide (r.toNat < 4)
  | .fsub _ _ _ _ r _ => decide (r.toNat < 4)
  | .fmul _ _ _ _ r _ => decide (r.toNat < 4)
  | .fma _ _ _ _ r _ => decide (r.toNat < 4)
  | .fdiv _ _ _ _ r _ => decide (r.toNat < 4)
  | .fsqrt _ _ _ r _ => decide (r.toNat < 4)
  | .fmin _ _ _ _ _ => true
  | .fmax _ _ _ _ _ => true
  | .fcmp _ _ _ _ c _ => decide (c.toNat < 4)
  | .fcvt _ _ c r _ => decide (c.toNat < 14) && decide (r.toNat < 4)
  | .fclass _ _ _ _ => true
  | .fdrop _ => true
  | .fseal i => i != 0#6
  | .illegalWord _ => true
  | .heldAsyncTrapDelivery _ _ => true
  | .replyLanding _ _ _ _ => true
  | .slotReady _ _ => true
  | .remoteAccessArrival _ _ => true
  | .rd _ _ => true
  | .rdx _ _ => true
  | .upg _ => true
  | .wb _ => true
  | .wt _ => true
  | .ureg _ => true
  | .umrg _ => true
  | .frsp _ _ => true
  | .iack _ => true
  | .dataS _ _ => true
  | .dataE _ _ => true
  | .dataM _ _ => true
  | .grant _ => true
  | .inv _ => true
  | .urcl _ => true
  | .fwdS _ => true
  | .fwdX _ => true
  | .wback _ => true
  | .subscriptionPush _ _ => true
  | .leaseExpiry _ _ => true
  | .ptInvalidation _ => true
  | .ptWritePerform _ _ => true
  | .tableWalkStart _ => true
  | .tableWalkComplete _ _ _ => true
  | .missTableRetry _ => true
  | .rehomeCopyDone _ _ => true
  | .rehomeRecopyDone _ _ => true
  | .pageRecall _ _ _ => true
  | .rehomeSwitch _ _ => true
  | .featureCommit _ => true
  | .qtailWrite _ _ _ => true
  | .launchRecordRead _ _ _ => true
  | .kernelPlacement _ _ _ => true
  | .contextLoadingDone _ _ => true
  | .rootTaskStart _ _ => true
  | .preemptWrite _ _ => true
  | .resumeWrite _ _ => true
  | .abortWrite _ _ _ => true
  | .kernelResumePlacement _ _ _ => true
  | .completionRecordWrite _ _ => true
  | .contextSaveComplete _ _ => true
  | .saveAreaAccessFailure _ _ _ _ => true
  | .forcedStop _ _ => true
  | .budgetWatchdogExpiry _ _ => true
  | .budgetArm _ _ _ => true
  | .supervisorQueueDelivery _ _ => true
  | .restoreState _ _ => true
  | .restoreLeases _ _ => true
  | .restoreTruss _ _ => true
  | .restoreEngq _ _ => true
  | .restoreTasks _ _ => true
  | .restctlErrClear _ _ => true
  | .cseqWrite _ _ _ _ => true
  | .ptrootWrite _ _ _ => true
  | .yardWrite _ _ _ => true
  | .tracectlEnable _ _ _ => true
  | .monitorCsrWrite _ _ _ _ => true
  | .ecodeRestart _ _ => true
  | .ecodeDiscard _ _ => true
  | .cwmResume _ _ _ _ => true
  | .cwmHold _ _ _ _ => true
  | .ltmoWrite _ _ => true
  | .logheadWrite _ _ => true
  | .registerWrite _ _ _ => true
  | .coreGate _ => true
  | .bentGate _ => true
  | .bentWakeComplete _ => true
  | .coreWakeComplete _ => true
  | .coreFailure _ => true
  | .stealProbe _ => true
  | .stealBackoffExpiry _ => true
  | .probeArrival _ => true
  | .probeEmptyReply _ => true
  | .joinIncrement _ => true
  | .stealFrameSend _ => true
  | .stolenTaskStart _ => true
  | .continuationResume _ _ => true
  | .timeoutExamination _ => true
  | .batchDispatch _ _ => true
  | .binLaunchOnBufferFree _ => true
  | .taskqReadyAppend _ _ => true
  | .taskqAppendRetry _ _ => true
  | .donationArrival _ _ => true
  | .trussGrant _ => true
  | .unitCommit _ _ => true
  | .trussPortCommandComplete _ => true
  | .operandChunkSend _ _ => true
  | .operandMessageArrival _ => true
  | .trussRuntimeFault _ _ _ => true
  | .chainedOperationEntry _ _ _ => true
  | .copyStart _ _ => true
  | .copyLanding _ _ _ _ _ => true
  | .copyTranslationFault _ _ _ => true
  | .copyFault _ _ _ _ _ => true
  | .barrierArrival _ => true
  | .barrierByteCount _ => true
  | .barrierExpect _ => true
  | .barrierWake _ => true
  | .monitorCollect _ _ => true
  | .plumbVerdict _ _ => true
  | .packetDelivery _ => true
  | .packetRetry _ => true
  | .sendErrorReply _ => true
  | .handlerStart _ _ _ => true
  | .wakeTaskStart _ _ _ => true
  | .receiveArrival _ => true
  | .clearToSend _ _ => true
  | .messageLanding _ _ _ => true
  | .landingFault _ _ => true
  | .linkTrainingStart _ => true
  | .linkTrained _ _ => true
  | .ltmoExpiry _ => true
  | .laneFailure _ _ _ _ => true
  | .flitCrcError _ => true
  | .quiesceCommand _ => true
  | .quiesceDrained _ => true
  | .quiesceRelease _ => true
  | .linkFailedSettle _ => true
  | .linkReset _ => true
  | .planeMaskUpdate _ _ => true
  | .dieWarmReset _ => true
  | .resetWaitExpiry _ => true
  | .dieRecallComplete _ => true
  | .dieResetComplete _ _ => true
  | .dieReturnToPlacement _ => true
  | .coldReset _ => true
  | .managementTakeover _ => true
  | .launchControllerTakeover _ => true
  | .thermalDutyStep _ _ _ => true
  | .regionDegraded _ _ => true
  | .fluxWrite _ _ _ => true
  | .patrolScrub _ _ _ => true
  | .correctedError _ => true
  | .uncorrectableError _ _ _ => true
  | .getCertificate _ _ => true
  | .challenge _ _ _ => true
  | .getMeasurements _ _ => true
  | .coreResetComplete _ => true
  | .homeAgentRequest _ _ => true
  | .trussOperandsPresent _ => true

end Sys2Proof
end

