-- ==== Sys2Proof/Decode.lean ====
section
/-!
DEFINITION. Instruction words: the nine formats (02 R28, table 2.1), the encoder, and the decoder (02 R30, R43 to R47).

The decoder selects an instruction from the major and minor codes and accepts it only where the instruction is
well formed and its own encoding is the word again, so a nonzero unused field or a reserved code gives none.

Readings of the manual and choices that this file codes: assumption log 40, 123.
-/
namespace Sys2Proof

/-- Format A: op d a b fn S. -/
def fmtA (op : BitVec 6) (d a b : BitVec 5) (fn : BitVec 8) (s : BitVec 3) : BitVec 32 := op ++ d ++ a ++ b ++ fn ++ s
/-- Format I: op d a imm. -/
def fmtI (op : BitVec 6) (d a : BitVec 5) (imm : BitVec 16) : BitVec 32 := op ++ d ++ a ++ imm
/-- Format M: op t a fn off. -/
def fmtM (op : BitVec 6) (t a : BitVec 5) (fn : BitVec 3) (off : BitVec 13) : BitVec 32 := op ++ t ++ a ++ fn ++ off
/-- Format B: op a b c disp. -/
def fmtB (op : BitVec 6) (a b : BitVec 5) (c : BitVec 3) (disp : BitVec 13) : BitVec 32 := op ++ a ++ b ++ c ++ disp
/-- Formats J and K: op d and 21 bits. -/
def fmtJ (op : BitVec 6) (d : BitVec 5) (imm : BitVec 21) : BitVec 32 := op ++ d ++ imm
/-- Format V: op vd va vb gm ew fn S. -/
def fmtV (op : BitVec 6) (d a b : BitVec 5) (gm ew : BitVec 2) (fn : BitVec 4) (s : BitVec 3) : BitVec 32 :=
  op ++ d ++ a ++ b ++ gm ++ ew ++ fn ++ s
/-- Format E: op unit cmd a b d x. -/
def fmtE (op : BitVec 6) (unit : BitVec 3) (cmd : BitVec 7) (a b d : BitVec 5) (x : BitVec 1) : BitVec 32 :=
  op ++ unit ++ cmd ++ a ++ b ++ d ++ x
/-- Format Y: op fn a d imm. -/
def fmtY (op : BitVec 6) (fn : BitVec 10) (a d : BitVec 5) (imm : BitVec 6) : BitVec 32 := op ++ fn ++ a ++ d ++ imm

/-- The word of an instruction, from tables 2.4 to 2.7 (and 26.4).  An event has no word; ILLEGAL_WORD stands for the
word that decodes to nothing. -/
def encode : Instr → BitVec 32
  | .add d a b s => fmtA 0x1#6 d a b 0#8 s
  | .sub d a b s => fmtA 0x1#6 d a b 0x1#8 s
  | .and d a b s => fmtA 0x1#6 d a b 0x2#8 s
  | .or d a b s => fmtA 0x1#6 d a b 0x3#8 s
  | .xor d a b s => fmtA 0x1#6 d a b 0x4#8 s
  | .andn d a b s => fmtA 0x1#6 d a b 0x5#8 s
  | .sll d a b s => fmtA 0x1#6 d a b 0x6#8 s
  | .srl d a b s => fmtA 0x1#6 d a b 0x7#8 s
  | .sra d a b s => fmtA 0x1#6 d a b 0x8#8 s
  | .min d a b s => fmtA 0x1#6 d a b 0x9#8 s
  | .max d a b s => fmtA 0x1#6 d a b 0xA#8 s
  | .minz d a b s => fmtA 0x1#6 d a b 0xB#8 s
  | .maxz d a b s => fmtA 0x1#6 d a b 0xC#8 s
  | .slt d a b s => fmtA 0x1#6 d a b 0xD#8 s
  | .sltz d a b s => fmtA 0x1#6 d a b 0xE#8 s
  | .seq d a b s => fmtA 0x1#6 d a b 0xF#8 s
  | .clz d a s => fmtA 0x1#6 d a 0#5 0x10#8 s
  | .ctz d a s => fmtA 0x1#6 d a 0#5 0x11#8 s
  | .popc d a s => fmtA 0x1#6 d a 0#5 0x12#8 s
  | .padd d a b s => fmtA 0x1#6 d a b 0x18#8 s
  | .psub d a b s => fmtA 0x1#6 d a b 0x19#8 s
  | .pdesc d a s => fmtA 0x1#6 d a 0#5 0x1A#8 s
  | .pset d a b s => fmtA 0x1#6 d a b 0x1B#8 s
  | .cselEqz d a b c s => fmtA 0x1#6 d a b (0x2#3 ++ c) s
  | .cselNez d a b c s => fmtA 0x1#6 d a b (0x3#3 ++ c) s
  | .cselLtz d a b c s => fmtA 0x1#6 d a b (0x4#3 ++ c) s
  | .cselGez d a b c s => fmtA 0x1#6 d a b (0x5#3 ++ c) s
  | .cselGtz d a b c s => fmtA 0x1#6 d a b (0x6#3 ++ c) s
  | .cselLez d a b c s => fmtA 0x1#6 d a b (0x7#3 ++ c) s
  | .mul d a b s => fmtA 0x2#6 d a b 0#8 s
  | .mulh d a b s => fmtA 0x2#6 d a b 0x1#8 s
  | .mulhz d a b s => fmtA 0x2#6 d a b 0x2#8 s
  | .div d a b s => fmtA 0x2#6 d a b 0x3#8 s
  | .divz d a b s => fmtA 0x2#6 d a b 0x4#8 s
  | .rem d a b s => fmtA 0x2#6 d a b 0x5#8 s
  | .remz d a b s => fmtA 0x2#6 d a b 0x6#8 s
  | .addi d a i => fmtI 0x3#6 d a i
  | .andi d a i => fmtI 0x4#6 d a i
  | .ori d a i => fmtI 0x5#6 d a i
  | .xori d a i => fmtI 0x6#6 d a i
  | .slti d a i => fmtI 0x7#6 d a i
  | .sltiz d a i => fmtI 0x8#6 d a i
  | .slli d a n => fmtI 0x9#6 d a (0#10 ++ n)
  | .srli d a n => fmtI 0x9#6 d a (0x1#10 ++ n)
  | .srai d a n => fmtI 0x9#6 d a (0x2#10 ++ n)
  | .paddi d a i => fmtI 0xA#6 d a i
  | .luk d i => fmtJ 0xB#6 d i
  | .addpc d i => fmtJ 0xC#6 d i
  | .ldB t a o => fmtM 0xD#6 t a 0#3 o
  | .ldH t a o => fmtM 0xD#6 t a 0x1#3 o
  | .ldW t a o => fmtM 0xD#6 t a 0x2#3 o
  | .ldD t a o => fmtM 0xD#6 t a 0x3#3 o
  | .ldzB t a o => fmtM 0xD#6 t a 0x4#3 o
  | .ldzH t a o => fmtM 0xD#6 t a 0x5#3 o
  | .ldzW t a o => fmtM 0xD#6 t a 0x6#3 o
  | .stB t a o => fmtM 0xE#6 t a 0#3 o
  | .stH t a o => fmtM 0xE#6 t a 0x1#3 o
  | .stW t a o => fmtM 0xE#6 t a 0x2#3 o
  | .stD t a o => fmtM 0xE#6 t a 0x3#3 o
  | .ldcW t a o => fmtM 0xF#6 t a 0x2#3 o
  | .ldcD t a o => fmtM 0xF#6 t a 0x3#3 o
  | .ldbit d a b n s => fmtA 0x10#6 d a b (0#2 ++ n) s
  | .ldbitS d a b n s => fmtA 0x10#6 d a b (0x1#2 ++ n) s
  | .stbit d a b n s => fmtA 0x10#6 d a b (0x2#2 ++ n) s
  | .amoAdd d a b z c o => fmtA 0x11#6 d a b (0#4 ++ z ++ c) o
  | .amoAnd d a b z c o => fmtA 0x11#6 d a b (0x1#4 ++ z ++ c) o
  | .amoOr d a b z c o => fmtA 0x11#6 d a b (0x2#4 ++ z ++ c) o
  | .amoXor d a b z c o => fmtA 0x11#6 d a b (0x3#4 ++ z ++ c) o
  | .amoMin d a b z c o => fmtA 0x11#6 d a b (0x4#4 ++ z ++ c) o
  | .amoMax d a b z c o => fmtA 0x11#6 d a b (0x5#4 ++ z ++ c) o
  | .amoMinz d a b z c o => fmtA 0x11#6 d a b (0x6#4 ++ z ++ c) o
  | .amoMaxz d a b z c o => fmtA 0x11#6 d a b (0x7#4 ++ z ++ c) o
  | .amoSwap d a b z c o => fmtA 0x11#6 d a b (0x8#4 ++ z ++ c) o
  | .amoCas d a b z c o => fmtA 0x11#6 d a b (0x9#4 ++ z ++ c) o
  | .amoFaddF32 d a b c o => fmtA 0x11#6 d a b (0x14#5 ++ c) o
  | .amoFaddBf16 d a b c o => fmtA 0x11#6 d a b (0x16#5 ++ c) o
  | .updAdd a b z c => fmtA 0x12#6 0#5 a b (0#3 ++ z ++ c) 0#3
  | .updFadd a b z c => fmtA 0x12#6 0#5 a b (0x1#3 ++ z ++ c) 0#3
  | .updMin a b z c => fmtA 0x12#6 0#5 a b (0x2#3 ++ z ++ c) 0#3
  | .updMax a b z c => fmtA 0x12#6 0#5 a b (0x3#3 ++ z ++ c) 0#3
  | .updOr a b z c => fmtA 0x12#6 0#5 a b (0x4#3 ++ z ++ c) 0#3
  | .updAnd a b z c => fmtA 0x12#6 0#5 a b (0x5#3 ++ z ++ c) 0#3
  | .beq a b i => fmtB 0x13#6 a b 0#3 i
  | .bne a b i => fmtB 0x13#6 a b 0x1#3 i
  | .blt a b i => fmtB 0x13#6 a b 0x2#3 i
  | .bge a b i => fmtB 0x13#6 a b 0x3#3 i
  | .bltz a b i => fmtB 0x13#6 a b 0x4#3 i
  | .bgez a b i => fmtB 0x13#6 a b 0x5#3 i
  | .jal d i => fmtJ 0x14#6 d i
  | .jalr d a i => fmtI 0x15#6 d a i
  | .skipEqz a n => fmtB 0x16#6 a 0#5 0#3 (0#10 ++ n)
  | .skipNez a n => fmtB 0x16#6 a 0#5 0x1#3 (0#10 ++ n)
  | .skipLtz a n => fmtB 0x16#6 a 0#5 0x2#3 (0#10 ++ n)
  | .skipGez a n => fmtB 0x16#6 a 0#5 0x3#3 (0#10 ++ n)
  | .skipGtz a n => fmtB 0x16#6 a 0#5 0x4#3 (0#10 ++ n)
  | .skipLez a n => fmtB 0x16#6 a 0#5 0x5#3 (0#10 ++ n)
  | .fenceAcq d c => fmtY 0x17#6 0x1#10 0#5 d (0#3 ++ c)
  | .fenceRel d c => fmtY 0x17#6 0x1#10 0#5 d (0x1#3 ++ c)
  | .fenceFull d c => fmtY 0x17#6 0x1#10 0#5 d (0x2#3 ++ c)
  | .qfence q => fmtY 0x17#6 0x2#10 0#5 0#5 (0#2 ++ q)
  | .cclean a c => fmtY 0x17#6 0x10#10 a 0#5 (0#3 ++ c)
  | .cinv a c => fmtY 0x17#6 0x11#10 a 0#5 (0#3 ++ c)
  | .cflush a c => fmtY 0x17#6 0x12#10 a 0#5 (0#3 ++ c)
  | .nop => fmtY 0x18#6 0#10 0#5 0#5 0#6
  | .trap i => fmtY 0x18#6 0x1#10 0#5 0#5 i
  | .tret => fmtY 0x18#6 0x2#10 0#5 0#5 0#6
  | .wfe => fmtY 0x18#6 0x3#10 0#5 0#5 0#6
  | .break => fmtY 0x18#6 0x4#10 0#5 0#5 0#6
  | .halt => fmtY 0x18#6 0x5#10 0#5 0#5 0#6
  | .csrr h d l => fmtY 0x18#6 (0x1#4 ++ h) 0#5 d l
  | .csrw h a d l => fmtY 0x18#6 (0x2#4 ++ h) a d l
  | .csrs h a d l => fmtY 0x18#6 (0x3#4 ++ h) a d l
  | .csrc h a d l => fmtY 0x18#6 (0x4#4 ++ h) a d l
  | .spawn d a b s => fmtA 0x19#6 d a b 0x1#8 s
  | .rets d s => fmtA 0x19#6 d 0#5 0#5 0x2#8 s
  | .sync a s => fmtA 0x19#6 0#5 a 0#5 0x3#8 s
  | .publish a b n s => fmtA 0x19#6 0#5 a b (0x1#6 ++ n) s
  | .tend s => fmtA 0x19#6 0#5 0#5 0#5 0x8#8 s
  | .tself d s => fmtA 0x19#6 d 0#5 0#5 0x9#8 s
  | .launch d a s => fmtA 0x19#6 d a 0#5 0xA#8 s
  | .qbind q a s => fmtA 0x1A#6 (0#2 ++ q) a 0#5 0x1#8 s
  | .qpush q a s => fmtA 0x1A#6 (0#2 ++ q) a 0#5 0x2#8 s
  | .qpop d q s => fmtA 0x1A#6 d (0#2 ++ q) 0#5 0x3#8 s
  | .enq d a b s => fmtA 0x1A#6 d a b 0x4#8 s
  | .spawnb d a b s => fmtA 0x1A#6 d a b 0x5#8 s
  | .binflush a s => fmtA 0x1A#6 0#5 a 0#5 0x6#8 s
  | .taskq d a b s => fmtA 0x1A#6 d a b 0x7#8 s
  | .sqinc d a b s => fmtA 0x1A#6 d a b 0x8#8 s
  | .sqread d a s => fmtA 0x1A#6 d a 0#5 0x9#8 s
  | .donate d a b s => fmtA 0x1A#6 d a b 0xA#8 s
  | .binit d a b s => fmtA 0x1B#6 d a b 0x1#8 s
  | .barrive a s => fmtA 0x1B#6 0#5 a 0#5 0x2#8 s
  | .bexpect a b s => fmtA 0x1B#6 0#5 a b 0x3#8 s
  | .bwait d a s => fmtA 0x1B#6 d a 0#5 0x4#8 s
  | .btest d a s => fmtA 0x1B#6 d a 0#5 0x5#8 s
  | .bfree a s => fmtA 0x1B#6 0#5 a 0#5 0x6#8 s
  | .sendi a b s => fmtA 0x1C#6 0#5 a b 0x1#8 s
  | .sendb d a b s => fmtA 0x1C#6 d a b 0x2#8 s
  | .rpost d a b s => fmtA 0x1C#6 d a b 0x3#8 s
  | .rcancel d a s => fmtA 0x1C#6 d a 0#5 0x4#8 s
  | .qwake a b s => fmtA 0x1C#6 0#5 a b 0x5#8 s
  | .msgdone s => fmtA 0x1C#6 0#5 0#5 0#5 0x6#8 s
  | .monset d a b s => fmtA 0x1D#6 d a b 0x1#8 s
  | .monarm a b s => fmtA 0x1D#6 0#5 a b 0x2#8 s
  | .monref a b s => fmtA 0x1D#6 0#5 a b 0x3#8 s
  | .monread d a b s => fmtA 0x1D#6 d a b 0x4#8 s
  | .monclr a s => fmtA 0x1D#6 0#5 a 0#5 0x5#8 s
  | .subs d a b s => fmtA 0x1E#6 d a b 0x1#8 s
  | .unsubs a s => fmtA 0x1E#6 0#5 a 0#5 0x2#8 s
  | .mset a m => fmtE 0x1F#6 0#3 0x1#7 a m 0#5 0#1
  | .mget m d => fmtE 0x1F#6 0#3 0x2#7 0#5 m d 0#1
  | .mma a b => fmtE 0x1F#6 0#3 0x3#7 a b 0#5 0#1
  | .mmaco a b => fmtE 0x1F#6 0#3 0x4#7 a b 0#5 0#1
  | .mwait d => fmtE 0x1F#6 0#3 0x5#7 0#5 0#5 d 0#1
  | .mwaitT d => fmtE 0x1F#6 0#3 0x5#7 0#5 0#5 d 0x1#1
  | .msave a => fmtE 0x1F#6 0#3 0x6#7 a 0#5 0#5 0#1
  | .mload a => fmtE 0x1F#6 0#3 0x7#7 a 0#5 0#5 0#1
  | .mzero => fmtE 0x1F#6 0#3 0x8#7 0#5 0#5 0#5 0#1
  | .cput q a x => fmtE 0x20#6 q 0x1#7 a x 0#5 0#1
  | .cget q x d => fmtE 0x20#6 q 0x2#7 0#5 x d 0#1
  | .claunch q d => fmtE 0x20#6 q 0x3#7 0#5 0#5 d 0#1
  | .cwait a d => fmtE 0x20#6 0#3 0x4#7 a 0#5 d 0#1
  | .cstatus a d => fmtE 0x20#6 0#3 0x5#7 a 0#5 d 0#1
  | .cabort a d => fmtE 0x20#6 0#3 0x6#7 a 0#5 d 0#1
  | .shapeMk r a b s => fmtA 0x21#6 (0#2 ++ r) a b 0x1#8 s
  | .shapeGet d r n s => fmtA 0x21#6 d (0#2 ++ r) n 0x2#8 s
  | .vadd d a b g w s => fmtV 0x22#6 d a b g w 0#4 s
  | .vsub d a b g w s => fmtV 0x22#6 d a b g w 0x1#4 s
  | .vmul d a b g w s => fmtV 0x22#6 d a b g w 0x2#4 s
  | .vmulh d a b g w s => fmtV 0x22#6 d a b g w 0x3#4 s
  | .vmin d a b g w s => fmtV 0x22#6 d a b g w 0x4#4 s
  | .vmax d a b g w s => fmtV 0x22#6 d a b g w 0x5#4 s
  | .vand d a b g w s => fmtV 0x22#6 d a b g w 0x6#4 s
  | .vor d a b g w s => fmtV 0x22#6 d a b g w 0x7#4 s
  | .vxor d a b g w s => fmtV 0x22#6 d a b g w 0x8#4 s
  | .vsll d a b g w s => fmtV 0x22#6 d a b g w 0x9#4 s
  | .vsrl d a b g w s => fmtV 0x22#6 d a b g w 0xA#4 s
  | .vsra d a b g w s => fmtV 0x22#6 d a b g w 0xB#4 s
  | .vfadd d a b g w s => fmtV 0x23#6 d a b g w 0#4 s
  | .vfsub d a b g w s => fmtV 0x23#6 d a b g w 0x1#4 s
  | .vfmul d a b g w s => fmtV 0x23#6 d a b g w 0x2#4 s
  | .vfmin d a b g w s => fmtV 0x23#6 d a b g w 0x3#4 s
  | .vfmax d a b g w s => fmtV 0x23#6 d a b g w 0x4#4 s
  | .vfdiv d a b g w s => fmtV 0x23#6 d a b g w 0x5#4 s
  | .vfsqrt d a g w s => fmtV 0x23#6 d a 0#5 g w 0x6#4 s
  | .vfrcp d a g w s => fmtV 0x23#6 d a 0#5 g w 0x7#4 s
  | .vfrsq d a g w s => fmtV 0x23#6 d a 0#5 g w 0x8#4 s
  | .vfexp2 d a g w s => fmtV 0x23#6 d a 0#5 g w 0x9#4 s
  | .vflog2 d a g w s => fmtV 0x23#6 d a 0#5 g w 0xA#4 s
  | .vfma d a b g w s => fmtV 0x24#6 d a b g w 0#4 s
  | .vfms d a b g w s => fmtV 0x24#6 d a b g w 0x1#4 s
  | .vfnma d a b g w s => fmtV 0x24#6 d a b g w 0x2#4 s
  | .vcvt d a p g e r s => fmtV 0x25#6 d a p g e (0#1 ++ r) s
  | .vqmx d a p e s => fmtV 0x25#6 d a p 0#2 e 0x8#4 s
  | .vdqmx d a p e s => fmtV 0x25#6 d a p 0#2 e 0x9#4 s
  | .vxdec d a s => fmtV 0x25#6 d a 0#5 0#2 0#2 0xA#4 s
  | .vld d a g w s => fmtV 0x26#6 d a 0#5 g w 0#4 s
  | .vst d a g w s => fmtV 0x26#6 d a 0#5 g w 0x1#4 s
  | .vlds d a b g w s => fmtV 0x26#6 d a b g w 0x2#4 s
  | .vsts d a b g w s => fmtV 0x26#6 d a b g w 0x3#4 s
  | .vgather d a b g w s => fmtV 0x26#6 d a b g w 0x4#4 s
  | .vscatter d a b g w s => fmtV 0x26#6 d a b g w 0x5#4 s
  | .vldb d a n g w s => fmtV 0x26#6 d a n g w 0x6#4 s
  | .vstb d a n g w s => fmtV 0x26#6 d a n g w 0x7#4 s
  | .vbcast d a g w s => fmtV 0x27#6 d a 0#5 g w 0#4 s
  | .vmovg d a b g w s => fmtV 0x27#6 d a b g w 0x1#4 s
  | .vins d a b g w s => fmtV 0x27#6 d a b g w 0x2#4 s
  | .vperm d a b g w s => fmtV 0x27#6 d a b g w 0x3#4 s
  | .vshuf d a b g w s => fmtV 0x27#6 d a b g w 0x4#4 s
  | .vred d a o g w s => fmtV 0x27#6 d a o g w 0x5#4 s
  | .vscan d a o g w s => fmtV 0x27#6 d a o g w 0x6#4 s
  | .vcompress d a g w s => fmtV 0x27#6 d a 0#5 g w 0x7#4 s
  | .vrbox d a b g s => fmtV 0x28#6 d a b g 0x2#2 0#4 s
  | .vrtri d a b g s => fmtV 0x28#6 d a b g 0x2#2 0x1#4 s
  | .vcmpEq d a b g w s => fmtV 0x29#6 d a b g w 0#4 s
  | .vcmpNe d a b g w s => fmtV 0x29#6 d a b g w 0x1#4 s
  | .vcmpLt d a b g w s => fmtV 0x29#6 d a b g w 0x2#4 s
  | .vcmpLe d a b g w s => fmtV 0x29#6 d a b g w 0x3#4 s
  | .vcmpLtz d a b g w s => fmtV 0x29#6 d a b g w 0x4#4 s
  | .vcmpLez d a b g w s => fmtV 0x29#6 d a b g w 0x5#4 s
  | .vcmpFeq d a b g w s => fmtV 0x29#6 d a b g w 0x6#4 s
  | .vcmpFlt d a b g w s => fmtV 0x29#6 d a b g w 0x7#4 s
  | .vcmpFle d a b g w s => fmtV 0x29#6 d a b g w 0x8#4 s
  | .vcmpFun d a b g w s => fmtV 0x29#6 d a b g w 0x9#4 s
  | .fadd d a b z r s => fmtA 0x2A#6 d a b (z ++ 0#4 ++ r) s
  | .fsub d a b z r s => fmtA 0x2A#6 d a b (z ++ 0x1#4 ++ r) s
  | .fmul d a b z r s => fmtA 0x2A#6 d a b (z ++ 0x2#4 ++ r) s
  | .fma d a b z r s => fmtA 0x2A#6 d a b (z ++ 0x3#4 ++ r) s
  | .fdiv d a b z r s => fmtA 0x2A#6 d a b (z ++ 0x4#4 ++ r) s
  | .fsqrt d a z r s => fmtA 0x2A#6 d a 0#5 (z ++ 0x5#4 ++ r) s
  | .fmin d a b z s => fmtA 0x2A#6 d a b (z ++ 0x30#7) s
  | .fmax d a b z s => fmtA 0x2A#6 d a b (z ++ 0x38#7) s
  | .fcmp d a b z c s => fmtA 0x2A#6 d a b (z ++ 0x8#4 ++ c) s
  | .fcvt d a c r s => fmtA 0x2A#6 d a c (0x9#5 ++ r) s
  | .fclass d a z s => fmtA 0x2A#6 d a 0#5 (z ++ 0x50#7) s
  | .fdrop a => fmtY 0x3F#6 0x1#10 a 0#5 0#6
  | .fseal i => fmtY 0x3F#6 0x2#10 0#5 0#5 i
  | .illegalWord word => word
  | .heldAsyncTrapDelivery _ _ => 0#32
  | .replyLanding _ _ _ _ => 0#32
  | .slotReady _ _ => 0#32
  | .remoteAccessArrival _ _ => 0#32
  | .rd _ _ => 0#32
  | .rdx _ _ => 0#32
  | .upg _ => 0#32
  | .wb _ => 0#32
  | .wt _ => 0#32
  | .ureg _ => 0#32
  | .umrg _ => 0#32
  | .frsp _ _ => 0#32
  | .iack _ => 0#32
  | .dataS _ _ => 0#32
  | .dataE _ _ => 0#32
  | .dataM _ _ => 0#32
  | .grant _ => 0#32
  | .inv _ => 0#32
  | .urcl _ => 0#32
  | .fwdS _ => 0#32
  | .fwdX _ => 0#32
  | .wback _ => 0#32
  | .subscriptionPush _ _ => 0#32
  | .leaseExpiry _ _ => 0#32
  | .ptInvalidation _ => 0#32
  | .ptWritePerform _ _ => 0#32
  | .tableWalkStart _ => 0#32
  | .tableWalkComplete _ _ _ => 0#32
  | .missTableRetry _ => 0#32
  | .rehomeCopyDone _ _ => 0#32
  | .rehomeRecopyDone _ _ => 0#32
  | .pageRecall _ _ _ => 0#32
  | .rehomeSwitch _ _ => 0#32
  | .featureCommit _ => 0#32
  | .qtailWrite _ _ _ => 0#32
  | .launchRecordRead _ _ _ => 0#32
  | .kernelPlacement _ _ _ => 0#32
  | .contextLoadingDone _ _ => 0#32
  | .rootTaskStart _ _ => 0#32
  | .preemptWrite _ _ => 0#32
  | .resumeWrite _ _ => 0#32
  | .abortWrite _ _ _ => 0#32
  | .kernelResumePlacement _ _ _ => 0#32
  | .completionRecordWrite _ _ => 0#32
  | .contextSaveComplete _ _ => 0#32
  | .saveAreaAccessFailure _ _ _ _ => 0#32
  | .forcedStop _ _ => 0#32
  | .budgetWatchdogExpiry _ _ => 0#32
  | .budgetArm _ _ _ => 0#32
  | .supervisorQueueDelivery _ _ => 0#32
  | .restoreState _ _ => 0#32
  | .restoreLeases _ _ => 0#32
  | .restoreTruss _ _ => 0#32
  | .restoreEngq _ _ => 0#32
  | .restoreTasks _ _ => 0#32
  | .restctlErrClear _ _ => 0#32
  | .cseqWrite _ _ _ _ => 0#32
  | .ptrootWrite _ _ _ => 0#32
  | .yardWrite _ _ _ => 0#32
  | .tracectlEnable _ _ _ => 0#32
  | .monitorCsrWrite _ _ _ _ => 0#32
  | .ecodeRestart _ _ => 0#32
  | .ecodeDiscard _ _ => 0#32
  | .cwmResume _ _ _ _ => 0#32
  | .cwmHold _ _ _ _ => 0#32
  | .ltmoWrite _ _ => 0#32
  | .logheadWrite _ _ => 0#32
  | .registerWrite _ _ _ => 0#32
  | .coreGate _ => 0#32
  | .bentGate _ => 0#32
  | .bentWakeComplete _ => 0#32
  | .coreWakeComplete _ => 0#32
  | .coreFailure _ => 0#32
  | .stealProbe _ => 0#32
  | .stealBackoffExpiry _ => 0#32
  | .probeArrival _ => 0#32
  | .probeEmptyReply _ => 0#32
  | .joinIncrement _ => 0#32
  | .stealFrameSend _ => 0#32
  | .stolenTaskStart _ => 0#32
  | .continuationResume _ _ => 0#32
  | .timeoutExamination _ => 0#32
  | .batchDispatch _ _ => 0#32
  | .binLaunchOnBufferFree _ => 0#32
  | .taskqReadyAppend _ _ => 0#32
  | .taskqAppendRetry _ _ => 0#32
  | .donationArrival _ _ => 0#32
  | .trussGrant _ => 0#32
  | .unitCommit _ _ => 0#32
  | .trussPortCommandComplete _ => 0#32
  | .operandChunkSend _ _ => 0#32
  | .operandMessageArrival _ => 0#32
  | .trussRuntimeFault _ _ _ => 0#32
  | .chainedOperationEntry _ _ _ => 0#32
  | .copyStart _ _ => 0#32
  | .copyLanding _ _ _ _ _ => 0#32
  | .copyTranslationFault _ _ _ => 0#32
  | .copyFault _ _ _ _ _ => 0#32
  | .barrierArrival _ => 0#32
  | .barrierByteCount _ => 0#32
  | .barrierExpect _ => 0#32
  | .barrierWake _ => 0#32
  | .monitorCollect _ _ => 0#32
  | .plumbVerdict _ _ => 0#32
  | .packetDelivery _ => 0#32
  | .packetRetry _ => 0#32
  | .sendErrorReply _ => 0#32
  | .handlerStart _ _ _ => 0#32
  | .wakeTaskStart _ _ _ => 0#32
  | .receiveArrival _ => 0#32
  | .clearToSend _ _ => 0#32
  | .messageLanding _ _ _ => 0#32
  | .landingFault _ _ => 0#32
  | .linkTrainingStart _ => 0#32
  | .linkTrained _ _ => 0#32
  | .ltmoExpiry _ => 0#32
  | .laneFailure _ _ _ _ => 0#32
  | .flitCrcError _ => 0#32
  | .quiesceCommand _ => 0#32
  | .quiesceDrained _ => 0#32
  | .quiesceRelease _ => 0#32
  | .linkFailedSettle _ => 0#32
  | .linkReset _ => 0#32
  | .planeMaskUpdate _ _ => 0#32
  | .dieWarmReset _ => 0#32
  | .resetWaitExpiry _ => 0#32
  | .dieRecallComplete _ => 0#32
  | .dieResetComplete _ _ => 0#32
  | .dieReturnToPlacement _ => 0#32
  | .coldReset _ => 0#32
  | .managementTakeover _ => 0#32
  | .launchControllerTakeover _ => 0#32
  | .thermalDutyStep _ _ _ => 0#32
  | .regionDegraded _ _ => 0#32
  | .fluxWrite _ _ _ => 0#32
  | .patrolScrub _ _ _ => 0#32
  | .correctedError _ => 0#32
  | .uncorrectableError _ _ _ => 0#32
  | .getCertificate _ _ => 0#32
  | .challenge _ _ _ => 0#32
  | .getMeasurements _ _ => 0#32
  | .coreResetComplete _ => 0#32
  | .homeAgentRequest _ _ => 0#32
  | .trussOperandsPresent _ => 0#32

/-- Major 0x01, by its minor code. -/
def decodeInta (w : BitVec 32) : Option Instr :=
  match bits w 8 3 with
  | 0x2#3 => some (.cselEqz (bits w 21 5) (bits w 16 5) (bits w 11 5) (bits w 3 5) (bits w 0 3))
  | 0x3#3 => some (.cselNez (bits w 21 5) (bits w 16 5) (bits w 11 5) (bits w 3 5) (bits w 0 3))
  | 0x4#3 => some (.cselLtz (bits w 21 5) (bits w 16 5) (bits w 11 5) (bits w 3 5) (bits w 0 3))
  | 0x5#3 => some (.cselGez (bits w 21 5) (bits w 16 5) (bits w 11 5) (bits w 3 5) (bits w 0 3))
  | 0x6#3 => some (.cselGtz (bits w 21 5) (bits w 16 5) (bits w 11 5) (bits w 3 5) (bits w 0 3))
  | 0x7#3 => some (.cselLez (bits w 21 5) (bits w 16 5) (bits w 11 5) (bits w 3 5) (bits w 0 3))
  | 0#3 => (match bits w 3 5 with
    | 0#5 => some (.add (bits w 21 5) (bits w 16 5) (bits w 11 5) (bits w 0 3))
    | 0x1#5 => some (.sub (bits w 21 5) (bits w 16 5) (bits w 11 5) (bits w 0 3))
    | 0x2#5 => some (.and (bits w 21 5) (bits w 16 5) (bits w 11 5) (bits w 0 3))
    | 0x3#5 => some (.or (bits w 21 5) (bits w 16 5) (bits w 11 5) (bits w 0 3))
    | 0x4#5 => some (.xor (bits w 21 5) (bits w 16 5) (bits w 11 5) (bits w 0 3))
    | 0x5#5 => some (.andn (bits w 21 5) (bits w 16 5) (bits w 11 5) (bits w 0 3))
    | 0x6#5 => some (.sll (bits w 21 5) (bits w 16 5) (bits w 11 5) (bits w 0 3))
    | 0x7#5 => some (.srl (bits w 21 5) (bits w 16 5) (bits w 11 5) (bits w 0 3))
    | 0x8#5 => some (.sra (bits w 21 5) (bits w 16 5) (bits w 11 5) (bits w 0 3))
    | 0x9#5 => some (.min (bits w 21 5) (bits w 16 5) (bits w 11 5) (bits w 0 3))
    | 0xA#5 => some (.max (bits w 21 5) (bits w 16 5) (bits w 11 5) (bits w 0 3))
    | 0xB#5 => some (.minz (bits w 21 5) (bits w 16 5) (bits w 11 5) (bits w 0 3))
    | 0xC#5 => some (.maxz (bits w 21 5) (bits w 16 5) (bits w 11 5) (bits w 0 3))
    | 0xD#5 => some (.slt (bits w 21 5) (bits w 16 5) (bits w 11 5) (bits w 0 3))
    | 0xE#5 => some (.sltz (bits w 21 5) (bits w 16 5) (bits w 11 5) (bits w 0 3))
    | 0xF#5 => some (.seq (bits w 21 5) (bits w 16 5) (bits w 11 5) (bits w 0 3))
    | 0x10#5 => some (.clz (bits w 21 5) (bits w 16 5) (bits w 0 3))
    | 0x11#5 => some (.ctz (bits w 21 5) (bits w 16 5) (bits w 0 3))
    | 0x12#5 => some (.popc (bits w 21 5) (bits w 16 5) (bits w 0 3))
    | 0x18#5 => some (.padd (bits w 21 5) (bits w 16 5) (bits w 11 5) (bits w 0 3))
    | 0x19#5 => some (.psub (bits w 21 5) (bits w 16 5) (bits w 11 5) (bits w 0 3))
    | 0x1A#5 => some (.pdesc (bits w 21 5) (bits w 16 5) (bits w 0 3))
    | 0x1B#5 => some (.pset (bits w 21 5) (bits w 16 5) (bits w 11 5) (bits w 0 3))
    | _ => none)
  | _ => none

/-- Major 0x02, by its minor code. -/
def decodeMula (w : BitVec 32) : Option Instr :=
  match bits w 3 8 with
  | 0#8 => some (.mul (bits w 21 5) (bits w 16 5) (bits w 11 5) (bits w 0 3))
  | 0x1#8 => some (.mulh (bits w 21 5) (bits w 16 5) (bits w 11 5) (bits w 0 3))
  | 0x2#8 => some (.mulhz (bits w 21 5) (bits w 16 5) (bits w 11 5) (bits w 0 3))
  | 0x3#8 => some (.div (bits w 21 5) (bits w 16 5) (bits w 11 5) (bits w 0 3))
  | 0x4#8 => some (.divz (bits w 21 5) (bits w 16 5) (bits w 11 5) (bits w 0 3))
  | 0x5#8 => some (.rem (bits w 21 5) (bits w 16 5) (bits w 11 5) (bits w 0 3))
  | 0x6#8 => some (.remz (bits w 21 5) (bits w 16 5) (bits w 11 5) (bits w 0 3))
  | _ => none

/-- Major 0x09, by its minor code. -/
def decodeShi (w : BitVec 32) : Option Instr :=
  match bits w 6 2 with
  | 0#2 => some (.slli (bits w 21 5) (bits w 16 5) (bits w 0 6))
  | 0x1#2 => some (.srli (bits w 21 5) (bits w 16 5) (bits w 0 6))
  | 0x2#2 => some (.srai (bits w 21 5) (bits w 16 5) (bits w 0 6))
  | _ => none

/-- Major 0x0D, by its minor code. -/
def decodeLd (w : BitVec 32) : Option Instr :=
  match bits w 13 3 with
  | 0#3 => some (.ldB (bits w 21 5) (bits w 16 5) (bits w 0 13))
  | 0x1#3 => some (.ldH (bits w 21 5) (bits w 16 5) (bits w 0 13))
  | 0x2#3 => some (.ldW (bits w 21 5) (bits w 16 5) (bits w 0 13))
  | 0x3#3 => some (.ldD (bits w 21 5) (bits w 16 5) (bits w 0 13))
  | 0x4#3 => some (.ldzB (bits w 21 5) (bits w 16 5) (bits w 0 13))
  | 0x5#3 => some (.ldzH (bits w 21 5) (bits w 16 5) (bits w 0 13))
  | 0x6#3 => some (.ldzW (bits w 21 5) (bits w 16 5) (bits w 0 13))
  | _ => none

/-- Major 0x0E, by its minor code. -/
def decodeSt (w : BitVec 32) : Option Instr :=
  match bits w 13 3 with
  | 0#3 => some (.stB (bits w 21 5) (bits w 16 5) (bits w 0 13))
  | 0x1#3 => some (.stH (bits w 21 5) (bits w 16 5) (bits w 0 13))
  | 0x2#3 => some (.stW (bits w 21 5) (bits w 16 5) (bits w 0 13))
  | 0x3#3 => some (.stD (bits w 21 5) (bits w 16 5) (bits w 0 13))
  | _ => none

/-- Major 0x0F, by its minor code. -/
def decodeLdc (w : BitVec 32) : Option Instr :=
  match bits w 13 3 with
  | 0x2#3 => some (.ldcW (bits w 21 5) (bits w 16 5) (bits w 0 13))
  | 0x3#3 => some (.ldcD (bits w 21 5) (bits w 16 5) (bits w 0 13))
  | _ => none

/-- Major 0x10, by its minor code. -/
def decodeBitm (w : BitVec 32) : Option Instr :=
  match bits w 9 2 with
  | 0#2 => some (.ldbit (bits w 21 5) (bits w 16 5) (bits w 11 5) (bits w 3 6) (bits w 0 3))
  | 0x1#2 => some (.ldbitS (bits w 21 5) (bits w 16 5) (bits w 11 5) (bits w 3 6) (bits w 0 3))
  | 0x2#2 => some (.stbit (bits w 21 5) (bits w 16 5) (bits w 11 5) (bits w 3 6) (bits w 0 3))
  | _ => none

/-- Major 0x11, by its minor code. -/
def decodeAtom (w : BitVec 32) : Option Instr :=
  match bits w 7 4 with
  | 0#4 => some (.amoAdd (bits w 21 5) (bits w 16 5) (bits w 11 5) (bits w 6 1) (bits w 3 3) (bits w 0 3))
  | 0x1#4 => some (.amoAnd (bits w 21 5) (bits w 16 5) (bits w 11 5) (bits w 6 1) (bits w 3 3) (bits w 0 3))
  | 0x2#4 => some (.amoOr (bits w 21 5) (bits w 16 5) (bits w 11 5) (bits w 6 1) (bits w 3 3) (bits w 0 3))
  | 0x3#4 => some (.amoXor (bits w 21 5) (bits w 16 5) (bits w 11 5) (bits w 6 1) (bits w 3 3) (bits w 0 3))
  | 0x4#4 => some (.amoMin (bits w 21 5) (bits w 16 5) (bits w 11 5) (bits w 6 1) (bits w 3 3) (bits w 0 3))
  | 0x5#4 => some (.amoMax (bits w 21 5) (bits w 16 5) (bits w 11 5) (bits w 6 1) (bits w 3 3) (bits w 0 3))
  | 0x6#4 => some (.amoMinz (bits w 21 5) (bits w 16 5) (bits w 11 5) (bits w 6 1) (bits w 3 3) (bits w 0 3))
  | 0x7#4 => some (.amoMaxz (bits w 21 5) (bits w 16 5) (bits w 11 5) (bits w 6 1) (bits w 3 3) (bits w 0 3))
  | 0x8#4 => some (.amoSwap (bits w 21 5) (bits w 16 5) (bits w 11 5) (bits w 6 1) (bits w 3 3) (bits w 0 3))
  | 0x9#4 => some (.amoCas (bits w 21 5) (bits w 16 5) (bits w 11 5) (bits w 6 1) (bits w 3 3) (bits w 0 3))
  | 0xA#4 => some (.amoFaddF32 (bits w 21 5) (bits w 16 5) (bits w 11 5) (bits w 3 3) (bits w 0 3))
  | 0xB#4 => some (.amoFaddBf16 (bits w 21 5) (bits w 16 5) (bits w 11 5) (bits w 3 3) (bits w 0 3))
  | _ => none

/-- Major 0x12, by its minor code. -/
def decodeUpd (w : BitVec 32) : Option Instr :=
  match bits w 8 3 with
  | 0#3 => some (.updAdd (bits w 16 5) (bits w 11 5) (bits w 6 2) (bits w 3 3))
  | 0x1#3 => some (.updFadd (bits w 16 5) (bits w 11 5) (bits w 6 2) (bits w 3 3))
  | 0x2#3 => some (.updMin (bits w 16 5) (bits w 11 5) (bits w 6 2) (bits w 3 3))
  | 0x3#3 => some (.updMax (bits w 16 5) (bits w 11 5) (bits w 6 2) (bits w 3 3))
  | 0x4#3 => some (.updOr (bits w 16 5) (bits w 11 5) (bits w 6 2) (bits w 3 3))
  | 0x5#3 => some (.updAnd (bits w 16 5) (bits w 11 5) (bits w 6 2) (bits w 3 3))
  | _ => none

/-- Major 0x13, by its minor code. -/
def decodeBrc (w : BitVec 32) : Option Instr :=
  match bits w 13 3 with
  | 0#3 => some (.beq (bits w 21 5) (bits w 16 5) (bits w 0 13))
  | 0x1#3 => some (.bne (bits w 21 5) (bits w 16 5) (bits w 0 13))
  | 0x2#3 => some (.blt (bits w 21 5) (bits w 16 5) (bits w 0 13))
  | 0x3#3 => some (.bge (bits w 21 5) (bits w 16 5) (bits w 0 13))
  | 0x4#3 => some (.bltz (bits w 21 5) (bits w 16 5) (bits w 0 13))
  | 0x5#3 => some (.bgez (bits w 21 5) (bits w 16 5) (bits w 0 13))
  | _ => none

/-- Major 0x16, by its minor code. -/
def decodeSkip (w : BitVec 32) : Option Instr :=
  match bits w 13 3 with
  | 0#3 => some (.skipEqz (bits w 21 5) (bits w 0 3))
  | 0x1#3 => some (.skipNez (bits w 21 5) (bits w 0 3))
  | 0x2#3 => some (.skipLtz (bits w 21 5) (bits w 0 3))
  | 0x3#3 => some (.skipGez (bits w 21 5) (bits w 0 3))
  | 0x4#3 => some (.skipGtz (bits w 21 5) (bits w 0 3))
  | 0x5#3 => some (.skipLez (bits w 21 5) (bits w 0 3))
  | _ => none

/-- Major 0x17, by its minor code. -/
def decodeMemsys (w : BitVec 32) : Option Instr :=
  match bits w 16 10 with
  | 0x1#10 => (match bits w 3 2 with
    | 0#2 => some (.fenceAcq (bits w 6 5) (bits w 0 3))
    | 0x1#2 => some (.fenceRel (bits w 6 5) (bits w 0 3))
    | 0x2#2 => some (.fenceFull (bits w 6 5) (bits w 0 3))
    | _ => none)
  | 0x2#10 => some (.qfence (bits w 0 4))
  | 0x10#10 => some (.cclean (bits w 11 5) (bits w 0 3))
  | 0x11#10 => some (.cinv (bits w 11 5) (bits w 0 3))
  | 0x12#10 => some (.cflush (bits w 11 5) (bits w 0 3))
  | _ => none

/-- Major 0x18, by its minor code. -/
def decodeSys (w : BitVec 32) : Option Instr :=
  match bits w 22 4 with
  | 0#4 => (match bits w 16 6 with
    | 0#6 => some .nop
    | 0x1#6 => some (.trap (bits w 0 6))
    | 0x2#6 => some .tret
    | 0x3#6 => some .wfe
    | 0x4#6 => some .break
    | 0x5#6 => some .halt
    | _ => none)
  | 0x1#4 => some (.csrr (bits w 16 6) (bits w 6 5) (bits w 0 6))
  | 0x2#4 => some (.csrw (bits w 16 6) (bits w 11 5) (bits w 6 5) (bits w 0 6))
  | 0x3#4 => some (.csrs (bits w 16 6) (bits w 11 5) (bits w 6 5) (bits w 0 6))
  | 0x4#4 => some (.csrc (bits w 16 6) (bits w 11 5) (bits w 6 5) (bits w 0 6))
  | _ => none

/-- Major 0x19, by its minor code. -/
def decodeFrame (w : BitVec 32) : Option Instr :=
  match bits w 3 8 with
  | 0x1#8 => some (.spawn (bits w 21 5) (bits w 16 5) (bits w 11 5) (bits w 0 3))
  | 0x2#8 => some (.rets (bits w 21 5) (bits w 0 3))
  | 0x3#8 => some (.sync (bits w 16 5) (bits w 0 3))
  | 0x4#8 => some (.publish (bits w 16 5) (bits w 11 5) (bits w 3 2) (bits w 0 3))
  | 0x5#8 => some (.publish (bits w 16 5) (bits w 11 5) (bits w 3 2) (bits w 0 3))
  | 0x6#8 => some (.publish (bits w 16 5) (bits w 11 5) (bits w 3 2) (bits w 0 3))
  | 0x7#8 => some (.publish (bits w 16 5) (bits w 11 5) (bits w 3 2) (bits w 0 3))
  | 0x8#8 => some (.tend (bits w 0 3))
  | 0x9#8 => some (.tself (bits w 21 5) (bits w 0 3))
  | 0xA#8 => some (.launch (bits w 21 5) (bits w 16 5) (bits w 0 3))
  | _ => none

/-- Major 0x1A, by its minor code. -/
def decodeQueue (w : BitVec 32) : Option Instr :=
  match bits w 3 8 with
  | 0x1#8 => some (.qbind (bits w 21 3) (bits w 16 5) (bits w 0 3))
  | 0x2#8 => some (.qpush (bits w 21 3) (bits w 16 5) (bits w 0 3))
  | 0x3#8 => some (.qpop (bits w 21 5) (bits w 16 3) (bits w 0 3))
  | 0x4#8 => some (.enq (bits w 21 5) (bits w 16 5) (bits w 11 5) (bits w 0 3))
  | 0x5#8 => some (.spawnb (bits w 21 5) (bits w 16 5) (bits w 11 5) (bits w 0 3))
  | 0x6#8 => some (.binflush (bits w 16 5) (bits w 0 3))
  | 0x7#8 => some (.taskq (bits w 21 5) (bits w 16 5) (bits w 11 5) (bits w 0 3))
  | 0x8#8 => some (.sqinc (bits w 21 5) (bits w 16 5) (bits w 11 5) (bits w 0 3))
  | 0x9#8 => some (.sqread (bits w 21 5) (bits w 16 5) (bits w 0 3))
  | 0xA#8 => some (.donate (bits w 21 5) (bits w 16 5) (bits w 11 5) (bits w 0 3))
  | _ => none

/-- Major 0x1B, by its minor code. -/
def decodeBar (w : BitVec 32) : Option Instr :=
  match bits w 3 8 with
  | 0x1#8 => some (.binit (bits w 21 5) (bits w 16 5) (bits w 11 5) (bits w 0 3))
  | 0x2#8 => some (.barrive (bits w 16 5) (bits w 0 3))
  | 0x3#8 => some (.bexpect (bits w 16 5) (bits w 11 5) (bits w 0 3))
  | 0x4#8 => some (.bwait (bits w 21 5) (bits w 16 5) (bits w 0 3))
  | 0x5#8 => some (.btest (bits w 21 5) (bits w 16 5) (bits w 0 3))
  | 0x6#8 => some (.bfree (bits w 16 5) (bits w 0 3))
  | _ => none

/-- Major 0x1C, by its minor code. -/
def decodeMsg (w : BitVec 32) : Option Instr :=
  match bits w 3 8 with
  | 0x1#8 => some (.sendi (bits w 16 5) (bits w 11 5) (bits w 0 3))
  | 0x2#8 => some (.sendb (bits w 21 5) (bits w 16 5) (bits w 11 5) (bits w 0 3))
  | 0x3#8 => some (.rpost (bits w 21 5) (bits w 16 5) (bits w 11 5) (bits w 0 3))
  | 0x4#8 => some (.rcancel (bits w 21 5) (bits w 16 5) (bits w 0 3))
  | 0x5#8 => some (.qwake (bits w 16 5) (bits w 11 5) (bits w 0 3))
  | 0x6#8 => some (.msgdone (bits w 0 3))
  | _ => none

/-- Major 0x1D, by its minor code. -/
def decodeMon (w : BitVec 32) : Option Instr :=
  match bits w 3 8 with
  | 0x1#8 => some (.monset (bits w 21 5) (bits w 16 5) (bits w 11 5) (bits w 0 3))
  | 0x2#8 => some (.monarm (bits w 16 5) (bits w 11 5) (bits w 0 3))
  | 0x3#8 => some (.monref (bits w 16 5) (bits w 11 5) (bits w 0 3))
  | 0x4#8 => some (.monread (bits w 21 5) (bits w 16 5) (bits w 11 5) (bits w 0 3))
  | 0x5#8 => some (.monclr (bits w 16 5) (bits w 0 3))
  | _ => none

/-- Major 0x1E, by its minor code. -/
def decodePage (w : BitVec 32) : Option Instr :=
  match bits w 3 8 with
  | 0x1#8 => some (.subs (bits w 21 5) (bits w 16 5) (bits w 11 5) (bits w 0 3))
  | 0x2#8 => some (.unsubs (bits w 16 5) (bits w 0 3))
  | _ => none

/-- Major 0x1F, by its minor code. -/
def decodeEngt (w : BitVec 32) : Option Instr :=
  match bits w 16 7 with
  | 0x5#7 => (match bits w 0 1 with
    | 0#1 => some (.mwait (bits w 1 5))
    | 0x1#1 => some (.mwaitT (bits w 1 5)))
  | 0x1#7 => some (.mset (bits w 11 5) (bits w 6 5))
  | 0x2#7 => some (.mget (bits w 6 5) (bits w 1 5))
  | 0x3#7 => some (.mma (bits w 11 5) (bits w 6 5))
  | 0x4#7 => some (.mmaco (bits w 11 5) (bits w 6 5))
  | 0x6#7 => some (.msave (bits w 11 5))
  | 0x7#7 => some (.mload (bits w 11 5))
  | 0x8#7 => some .mzero
  | _ => none

/-- Major 0x20, by its minor code. -/
def decodeEngc (w : BitVec 32) : Option Instr :=
  match bits w 16 7 with
  | 0x1#7 => some (.cput (bits w 23 3) (bits w 11 5) (bits w 6 5))
  | 0x2#7 => some (.cget (bits w 23 3) (bits w 6 5) (bits w 1 5))
  | 0x3#7 => some (.claunch (bits w 23 3) (bits w 1 5))
  | 0x4#7 => some (.cwait (bits w 11 5) (bits w 1 5))
  | 0x5#7 => some (.cstatus (bits w 11 5) (bits w 1 5))
  | 0x6#7 => some (.cabort (bits w 11 5) (bits w 1 5))
  | _ => none

/-- Major 0x21, by its minor code. -/
def decodeShape (w : BitVec 32) : Option Instr :=
  match bits w 3 8 with
  | 0x1#8 => some (.shapeMk (bits w 21 3) (bits w 16 5) (bits w 11 5) (bits w 0 3))
  | 0x2#8 => some (.shapeGet (bits w 21 5) (bits w 16 3) (bits w 11 5) (bits w 0 3))
  | _ => none

/-- Major 0x22, by its minor code. -/
def decodeVint (w : BitVec 32) : Option Instr :=
  match bits w 3 4 with
  | 0#4 => some (.vadd (bits w 21 5) (bits w 16 5) (bits w 11 5) (bits w 9 2) (bits w 7 2) (bits w 0 3))
  | 0x1#4 => some (.vsub (bits w 21 5) (bits w 16 5) (bits w 11 5) (bits w 9 2) (bits w 7 2) (bits w 0 3))
  | 0x2#4 => some (.vmul (bits w 21 5) (bits w 16 5) (bits w 11 5) (bits w 9 2) (bits w 7 2) (bits w 0 3))
  | 0x3#4 => some (.vmulh (bits w 21 5) (bits w 16 5) (bits w 11 5) (bits w 9 2) (bits w 7 2) (bits w 0 3))
  | 0x4#4 => some (.vmin (bits w 21 5) (bits w 16 5) (bits w 11 5) (bits w 9 2) (bits w 7 2) (bits w 0 3))
  | 0x5#4 => some (.vmax (bits w 21 5) (bits w 16 5) (bits w 11 5) (bits w 9 2) (bits w 7 2) (bits w 0 3))
  | 0x6#4 => some (.vand (bits w 21 5) (bits w 16 5) (bits w 11 5) (bits w 9 2) (bits w 7 2) (bits w 0 3))
  | 0x7#4 => some (.vor (bits w 21 5) (bits w 16 5) (bits w 11 5) (bits w 9 2) (bits w 7 2) (bits w 0 3))
  | 0x8#4 => some (.vxor (bits w 21 5) (bits w 16 5) (bits w 11 5) (bits w 9 2) (bits w 7 2) (bits w 0 3))
  | 0x9#4 => some (.vsll (bits w 21 5) (bits w 16 5) (bits w 11 5) (bits w 9 2) (bits w 7 2) (bits w 0 3))
  | 0xA#4 => some (.vsrl (bits w 21 5) (bits w 16 5) (bits w 11 5) (bits w 9 2) (bits w 7 2) (bits w 0 3))
  | 0xB#4 => some (.vsra (bits w 21 5) (bits w 16 5) (bits w 11 5) (bits w 9 2) (bits w 7 2) (bits w 0 3))
  | _ => none

/-- Major 0x23, by its minor code. -/
def decodeVfp (w : BitVec 32) : Option Instr :=
  match bits w 3 4 with
  | 0#4 => some (.vfadd (bits w 21 5) (bits w 16 5) (bits w 11 5) (bits w 9 2) (bits w 7 2) (bits w 0 3))
  | 0x1#4 => some (.vfsub (bits w 21 5) (bits w 16 5) (bits w 11 5) (bits w 9 2) (bits w 7 2) (bits w 0 3))
  | 0x2#4 => some (.vfmul (bits w 21 5) (bits w 16 5) (bits w 11 5) (bits w 9 2) (bits w 7 2) (bits w 0 3))
  | 0x3#4 => some (.vfmin (bits w 21 5) (bits w 16 5) (bits w 11 5) (bits w 9 2) (bits w 7 2) (bits w 0 3))
  | 0x4#4 => some (.vfmax (bits w 21 5) (bits w 16 5) (bits w 11 5) (bits w 9 2) (bits w 7 2) (bits w 0 3))
  | 0x5#4 => some (.vfdiv (bits w 21 5) (bits w 16 5) (bits w 11 5) (bits w 9 2) (bits w 7 2) (bits w 0 3))
  | 0x6#4 => some (.vfsqrt (bits w 21 5) (bits w 16 5) (bits w 9 2) (bits w 7 2) (bits w 0 3))
  | 0x7#4 => some (.vfrcp (bits w 21 5) (bits w 16 5) (bits w 9 2) (bits w 7 2) (bits w 0 3))
  | 0x8#4 => some (.vfrsq (bits w 21 5) (bits w 16 5) (bits w 9 2) (bits w 7 2) (bits w 0 3))
  | 0x9#4 => some (.vfexp2 (bits w 21 5) (bits w 16 5) (bits w 9 2) (bits w 7 2) (bits w 0 3))
  | 0xA#4 => some (.vflog2 (bits w 21 5) (bits w 16 5) (bits w 9 2) (bits w 7 2) (bits w 0 3))
  | _ => none

/-- Major 0x24, by its minor code. -/
def decodeVfma (w : BitVec 32) : Option Instr :=
  match bits w 3 4 with
  | 0#4 => some (.vfma (bits w 21 5) (bits w 16 5) (bits w 11 5) (bits w 9 2) (bits w 7 2) (bits w 0 3))
  | 0x1#4 => some (.vfms (bits w 21 5) (bits w 16 5) (bits w 11 5) (bits w 9 2) (bits w 7 2) (bits w 0 3))
  | 0x2#4 => some (.vfnma (bits w 21 5) (bits w 16 5) (bits w 11 5) (bits w 9 2) (bits w 7 2) (bits w 0 3))
  | _ => none

/-- Major 0x25, by its minor code. -/
def decodeVcvt (w : BitVec 32) : Option Instr :=
  match bits w 6 1 with
  | 0#1 => some (.vcvt (bits w 21 5) (bits w 16 5) (bits w 11 5) (bits w 9 2) (bits w 7 2) (bits w 3 3) (bits w 0 3))
  | _ => (match bits w 3 3 with
    | 0#3 => some (.vqmx (bits w 21 5) (bits w 16 5) (bits w 11 5) (bits w 7 2) (bits w 0 3))
    | 0x1#3 => some (.vdqmx (bits w 21 5) (bits w 16 5) (bits w 11 5) (bits w 7 2) (bits w 0 3))
    | 0x2#3 => some (.vxdec (bits w 21 5) (bits w 16 5) (bits w 0 3))
    | _ => none)

/-- Major 0x26, by its minor code. -/
def decodeVmem (w : BitVec 32) : Option Instr :=
  match bits w 3 4 with
  | 0#4 => some (.vld (bits w 21 5) (bits w 16 5) (bits w 9 2) (bits w 7 2) (bits w 0 3))
  | 0x1#4 => some (.vst (bits w 21 5) (bits w 16 5) (bits w 9 2) (bits w 7 2) (bits w 0 3))
  | 0x2#4 => some (.vlds (bits w 21 5) (bits w 16 5) (bits w 11 5) (bits w 9 2) (bits w 7 2) (bits w 0 3))
  | 0x3#4 => some (.vsts (bits w 21 5) (bits w 16 5) (bits w 11 5) (bits w 9 2) (bits w 7 2) (bits w 0 3))
  | 0x4#4 => some (.vgather (bits w 21 5) (bits w 16 5) (bits w 11 5) (bits w 9 2) (bits w 7 2) (bits w 0 3))
  | 0x5#4 => some (.vscatter (bits w 21 5) (bits w 16 5) (bits w 11 5) (bits w 9 2) (bits w 7 2) (bits w 0 3))
  | 0x6#4 => some (.vldb (bits w 21 5) (bits w 16 5) (bits w 11 5) (bits w 9 2) (bits w 7 2) (bits w 0 3))
  | 0x7#4 => some (.vstb (bits w 21 5) (bits w 16 5) (bits w 11 5) (bits w 9 2) (bits w 7 2) (bits w 0 3))
  | _ => none

/-- Major 0x27, by its minor code. -/
def decodeVperm (w : BitVec 32) : Option Instr :=
  match bits w 3 4 with
  | 0#4 => some (.vbcast (bits w 21 5) (bits w 16 5) (bits w 9 2) (bits w 7 2) (bits w 0 3))
  | 0x1#4 => some (.vmovg (bits w 21 5) (bits w 16 5) (bits w 11 5) (bits w 9 2) (bits w 7 2) (bits w 0 3))
  | 0x2#4 => some (.vins (bits w 21 5) (bits w 16 5) (bits w 11 5) (bits w 9 2) (bits w 7 2) (bits w 0 3))
  | 0x3#4 => some (.vperm (bits w 21 5) (bits w 16 5) (bits w 11 5) (bits w 9 2) (bits w 7 2) (bits w 0 3))
  | 0x4#4 => some (.vshuf (bits w 21 5) (bits w 16 5) (bits w 11 5) (bits w 9 2) (bits w 7 2) (bits w 0 3))
  | 0x5#4 => some (.vred (bits w 21 5) (bits w 16 5) (bits w 11 5) (bits w 9 2) (bits w 7 2) (bits w 0 3))
  | 0x6#4 => some (.vscan (bits w 21 5) (bits w 16 5) (bits w 11 5) (bits w 9 2) (bits w 7 2) (bits w 0 3))
  | 0x7#4 => some (.vcompress (bits w 21 5) (bits w 16 5) (bits w 9 2) (bits w 7 2) (bits w 0 3))
  | _ => none

/-- Major 0x28, by its minor code. -/
def decodeVray (w : BitVec 32) : Option Instr :=
  match bits w 3 4 with
  | 0#4 => some (.vrbox (bits w 21 5) (bits w 16 5) (bits w 11 5) (bits w 9 2) (bits w 0 3))
  | 0x1#4 => some (.vrtri (bits w 21 5) (bits w 16 5) (bits w 11 5) (bits w 9 2) (bits w 0 3))
  | _ => none

/-- Major 0x29, by its minor code. -/
def decodeVcmp (w : BitVec 32) : Option Instr :=
  match bits w 3 4 with
  | 0#4 => some (.vcmpEq (bits w 21 5) (bits w 16 5) (bits w 11 5) (bits w 9 2) (bits w 7 2) (bits w 0 3))
  | 0x1#4 => some (.vcmpNe (bits w 21 5) (bits w 16 5) (bits w 11 5) (bits w 9 2) (bits w 7 2) (bits w 0 3))
  | 0x2#4 => some (.vcmpLt (bits w 21 5) (bits w 16 5) (bits w 11 5) (bits w 9 2) (bits w 7 2) (bits w 0 3))
  | 0x3#4 => some (.vcmpLe (bits w 21 5) (bits w 16 5) (bits w 11 5) (bits w 9 2) (bits w 7 2) (bits w 0 3))
  | 0x4#4 => some (.vcmpLtz (bits w 21 5) (bits w 16 5) (bits w 11 5) (bits w 9 2) (bits w 7 2) (bits w 0 3))
  | 0x5#4 => some (.vcmpLez (bits w 21 5) (bits w 16 5) (bits w 11 5) (bits w 9 2) (bits w 7 2) (bits w 0 3))
  | 0x6#4 => some (.vcmpFeq (bits w 21 5) (bits w 16 5) (bits w 11 5) (bits w 9 2) (bits w 7 2) (bits w 0 3))
  | 0x7#4 => some (.vcmpFlt (bits w 21 5) (bits w 16 5) (bits w 11 5) (bits w 9 2) (bits w 7 2) (bits w 0 3))
  | 0x8#4 => some (.vcmpFle (bits w 21 5) (bits w 16 5) (bits w 11 5) (bits w 9 2) (bits w 7 2) (bits w 0 3))
  | 0x9#4 => some (.vcmpFun (bits w 21 5) (bits w 16 5) (bits w 11 5) (bits w 9 2) (bits w 7 2) (bits w 0 3))
  | _ => none

/-- Major 0x2A, by its minor code. -/
def decodeFps (w : BitVec 32) : Option Instr :=
  match bits w 6 4 with
  | 0#4 => some (.fadd (bits w 21 5) (bits w 16 5) (bits w 11 5) (bits w 10 1) (bits w 3 3) (bits w 0 3))
  | 0x1#4 => some (.fsub (bits w 21 5) (bits w 16 5) (bits w 11 5) (bits w 10 1) (bits w 3 3) (bits w 0 3))
  | 0x2#4 => some (.fmul (bits w 21 5) (bits w 16 5) (bits w 11 5) (bits w 10 1) (bits w 3 3) (bits w 0 3))
  | 0x3#4 => some (.fma (bits w 21 5) (bits w 16 5) (bits w 11 5) (bits w 10 1) (bits w 3 3) (bits w 0 3))
  | 0x4#4 => some (.fdiv (bits w 21 5) (bits w 16 5) (bits w 11 5) (bits w 10 1) (bits w 3 3) (bits w 0 3))
  | 0x5#4 => some (.fsqrt (bits w 21 5) (bits w 16 5) (bits w 10 1) (bits w 3 3) (bits w 0 3))
  | 0x6#4 => some (.fmin (bits w 21 5) (bits w 16 5) (bits w 11 5) (bits w 10 1) (bits w 0 3))
  | 0x7#4 => some (.fmax (bits w 21 5) (bits w 16 5) (bits w 11 5) (bits w 10 1) (bits w 0 3))
  | 0x8#4 => some (.fcmp (bits w 21 5) (bits w 16 5) (bits w 11 5) (bits w 10 1) (bits w 3 3) (bits w 0 3))
  | 0x9#4 => some (.fcvt (bits w 21 5) (bits w 16 5) (bits w 11 5) (bits w 3 3) (bits w 0 3))
  | 0xA#4 => some (.fclass (bits w 21 5) (bits w 16 5) (bits w 10 1) (bits w 0 3))
  | _ => none

/-- Major 0x3F, by its minor code. -/
def decodeEscape (w : BitVec 32) : Option Instr :=
  match bits w 16 10 with
  | 0x1#10 => some (.fdrop (bits w 11 5))
  | 0x2#10 => some (.fseal (bits w 0 6))
  | _ => none

/-- The instruction that the major opcode and the minor code of a word select, its fields read where the format puts
them (R27, R28, R43).  The zero fields and the reserved codes are checked by decode. -/
def decodeMajor (w : BitVec 32) : Option Instr :=
  match bits w 26 6 with
  | 0x1#6 => decodeInta w
  | 0x2#6 => decodeMula w
  | 0x3#6 => some (.addi (bits w 21 5) (bits w 16 5) (bits w 0 16))
  | 0x4#6 => some (.andi (bits w 21 5) (bits w 16 5) (bits w 0 16))
  | 0x5#6 => some (.ori (bits w 21 5) (bits w 16 5) (bits w 0 16))
  | 0x6#6 => some (.xori (bits w 21 5) (bits w 16 5) (bits w 0 16))
  | 0x7#6 => some (.slti (bits w 21 5) (bits w 16 5) (bits w 0 16))
  | 0x8#6 => some (.sltiz (bits w 21 5) (bits w 16 5) (bits w 0 16))
  | 0x9#6 => decodeShi w
  | 0xA#6 => some (.paddi (bits w 21 5) (bits w 16 5) (bits w 0 16))
  | 0xB#6 => some (.luk (bits w 21 5) (bits w 0 21))
  | 0xC#6 => some (.addpc (bits w 21 5) (bits w 0 21))
  | 0xD#6 => decodeLd w
  | 0xE#6 => decodeSt w
  | 0xF#6 => decodeLdc w
  | 0x10#6 => decodeBitm w
  | 0x11#6 => decodeAtom w
  | 0x12#6 => decodeUpd w
  | 0x13#6 => decodeBrc w
  | 0x14#6 => some (.jal (bits w 21 5) (bits w 0 21))
  | 0x15#6 => some (.jalr (bits w 21 5) (bits w 16 5) (bits w 0 16))
  | 0x16#6 => decodeSkip w
  | 0x17#6 => decodeMemsys w
  | 0x18#6 => decodeSys w
  | 0x19#6 => decodeFrame w
  | 0x1A#6 => decodeQueue w
  | 0x1B#6 => decodeBar w
  | 0x1C#6 => decodeMsg w
  | 0x1D#6 => decodeMon w
  | 0x1E#6 => decodePage w
  | 0x1F#6 => decodeEngt w
  | 0x20#6 => decodeEngc w
  | 0x21#6 => decodeShape w
  | 0x22#6 => decodeVint w
  | 0x23#6 => decodeVfp w
  | 0x24#6 => decodeVfma w
  | 0x25#6 => decodeVcvt w
  | 0x26#6 => decodeVmem w
  | 0x27#6 => decodeVperm w
  | 0x28#6 => decodeVray w
  | 0x29#6 => decodeVcmp w
  | 0x2A#6 => decodeFps w
  | 0x3F#6 => decodeEscape w
  | _ => none

/-- The decoder: the instruction of a word, or none for the words that R30 calls illegal from the word alone. -/
def decode (w : BitVec 32) : Option Instr :=
  match decodeMajor w with
  | some i => if i.wellFormed && encode i == w then some i else none
  | none => none

/-- The instruction at four bytes, lowest address first (little-endian, R27). -/
def decodeBytes (b0 b1 b2 b3 : BitVec 8) : Option Instr := decode (b3 ++ b2 ++ b1 ++ b0)

/-- The instruction that the decoder reads from the first nbits bits w of an instruction; every Olide instruction is
one word of 32 bits. -/
def decodeTableWord (nbits w : Nat) : Option Instr := decode (BitVec.ofNat 32 (w % 2 ^ nbits))

end Sys2Proof
end

