-- ==== Sys2Proof/Machine/Maps.lean ====
section
/-!
DEFINITION. Finite maps from numbers as sorted lists of pairs, and memories as sorted lists of cells (00 R4).

A map lists what was stored in it; what an unlisted number maps to is a parameter of the reading.  A memory lists no
byte that equals what an unlisted address reads as, so equal memories are equal lists.

Readings of the manual and choices that this file codes: assumption log 3.
-/
namespace Sys2Proof.Machine

/-- A finite map with number keys, keys strictly rising. -/
abbrev AMap (α : Type) := List (Nat × α)

/-- The entry of key k, if listed. -/
def AMap.find? {α : Type} (m : AMap α) (k : Nat) : Option α :=
  match m with
  | [] => none
  | (j, x) :: r => if j = k then some x else AMap.find? r k

/-- The entry of key k, or d. -/
def AMap.getD {α : Type} (m : AMap α) (k : Nat) (d : α) : α := (AMap.find? m k).getD d

/-- Sets the entry of key k, keeping the order of the keys. -/
def AMap.set {α : Type} (m : AMap α) (k : Nat) (x : α) : AMap α :=
  match m with
  | [] => [(k, x)]
  | (j, y) :: r => if k < j then (k, x) :: (j, y) :: r else if k = j then (k, x) :: r else (j, y) :: AMap.set r k x

/-- Removes the entry of key k. -/
def AMap.erase {α : Type} (m : AMap α) (k : Nat) : AMap α :=
  match m with
  | [] => []
  | (j, y) :: r => if j = k then r else (j, y) :: AMap.erase r k

/-- Whether key k is listed. -/
def AMap.has {α : Type} (m : AMap α) (k : Nat) : Bool := (AMap.find? m k).isSome

/-- The keys of a map. -/
def AMap.keys {α : Type} (m : AMap α) : List Nat := m.map Prod.fst

/-- The entries of a map. -/
def AMap.vals {α : Type} (m : AMap α) : List α := m.map Prod.snd

/-- Applies f to every entry. -/
def AMap.mapVals {α : Type} (m : AMap α) (f : α → α) : AMap α := m.map fun p => (p.1, f p.2)

/-- Applies f to every entry and its key. -/
def AMap.mapKeyed {α : Type} (m : AMap α) (f : Nat → α → α) : AMap α := m.map fun p => (p.1, f p.1 p.2)

/-- A memory: cells at rising addresses, none holding the byte that an unlisted address reads as. -/
abbrev Memory := List Host.Cell

/-- What an unlisted address of any memory reads as (assumption log 3). -/
def Memory.blank : BitVec 8 := 0#8

/-- The byte at an address. -/
def Memory.read (m : Memory) (a : Nat) : BitVec 8 :=
  match m with
  | [] => Memory.blank
  | (j, x) :: r => if j = a then x else if a < j then Memory.blank else Memory.read r a

/-- Writes a byte; writing the blank byte removes the cell. -/
def Memory.write (m : Memory) (a : Nat) (x : BitVec 8) : Memory :=
  match m with
  | [] => if x = Memory.blank then [] else [(a, x)]
  | (j, y) :: r =>
    if a < j then (if x = Memory.blank then (j, y) :: r else (a, x) :: (j, y) :: r)
    else if a = j then (if x = Memory.blank then r else (a, x) :: r)
    else (j, y) :: Memory.write r a x

/-- The canonical form: addresses strictly rising, all at least lo, no blank byte. -/
def Memory.wfFrom (lo : Nat) : Memory → Bool
  | [] => true
  | (a, x) :: r => decide (lo ≤ a) && (x != Memory.blank) && Memory.wfFrom (a + 1) r

/-- The canonical form of a memory. -/
def Memory.wf (m : Memory) : Bool := Memory.wfFrom 0 m

/-- The n bytes from address a up, little-endian (R4). -/
def Memory.readNat (m : Memory) (a : Nat) : Nat → Nat
  | 0 => 0
  | n + 1 => (Memory.read m a).toNat + 256 * Memory.readNat m (a + 1) n

/-- Writes the low n bytes of v from address a up, little-endian (R4). -/
def Memory.writeNat (m : Memory) (a : Nat) : Nat → Nat → Memory
  | 0, _ => m
  | n + 1, v => Memory.writeNat (Memory.write m a (BitVec.ofNat 8 v)) (a + 1) n (v / 256)

/-- Writes the bytes of v that the mask enables (bit i for byte i), n bytes from address a up. -/
def Memory.writeMasked (m : Memory) (a : Nat) : Nat → Nat → Nat → Memory
  | 0, _, _ => m
  | n + 1, v, mask =>
    Memory.writeMasked (if mask % 2 = 1 then Memory.write m a (BitVec.ofNat 8 v) else m) (a + 1) n (v / 256) (mask / 2)

end Sys2Proof.Machine
end

