-- ==== Sys2Proof/Machine/State.lean ====
section
/-!
DEFINITION. The state of the device: plain data holding every register, table, queue and store that the manual gives
the machine, and the state after reset.

A package's objects are listed in maps by number and an unlisted object is at its reset record: a core by package
times 2048 plus core number (01 R17), a bent by package times 128 plus bent, a die by package times 4 plus die.

Readings of the manual and choices that this file codes: assumption log 1, 2, 3, 4, 5, 6, 11, 12, 13, 14, 16, 17, 22, 27, 32, 42, 50,
51, 60, 65, 66, 72, 84, 90, 91, 92, 94, 98, 101, 102, 103, 111, 114, 119, 120, 121.
-/
namespace Sys2Proof.Machine

open Sys2Proof

/-- Why the machine stops with a fault.  No rule of the manual stops the device, so no meaning raises one. -/
inductive Fault where
  /-- Never raised; a stop would be safe, since the model would then do less than the device. -/
  | none
deriving DecidableEq, Repr

/-- Why a step is refused. -/
inductive Refusal where
  /-- Raised by the dispatcher for an instruction without a meaning; safe, because nothing then follows. -/
  | notModelled (mnemonic : String)
  /-- Raised by a step whose agenda names an instruction where only an event can stand; safe, because the agenda is
  the model's own data and no state of the device corresponds to it. -/
  | illFormedAgenda
deriving DecidableEq, Repr

/-! ### Task slots (19 R347 to R352) -/

/-- Privilege mode (19 table 19.3). -/
inductive Mode where
  | task | supervisor | firmware
deriving DecidableEq, Repr

/-- One trap bank: TEPC, TCAUSE, TVAL, TSTAT, TINFO (19 R351). -/
structure Bank where
  tepc : Word := 0
  tcause : Word := 0
  tval : Word := 0
  tstat : Word := 0
  tinfo : Word := 0
deriving DecidableEq, Repr

/-- A register name: general or vector. -/
inductive Reg where
  | g (n : BitVec 5)
  | v (n : BitVec 5)
deriving DecidableEq, Repr

/-- A result in flight (02 R35 to R39): the bits of value that mask enables go to reg when it lands. -/
structure Pending where
  reg : Reg
  value : Vec
  mask : Vec
  taint : Bool
  land : Nat
  fixed : Bool
deriving DecidableEq, Repr

/-- How a parked BWAIT ends (16 R311): its trap information, or its status word, whether its phase failed the plumb check, and
the barrier's scope; or the reply code of a home that it has lost. -/
structure BarEnd where
  fault : Bool
  word : Word
  oop : Bool := false
  scope : Nat := 0
  reply : Option Nat := none
deriving DecidableEq, Repr

/-- A BWAIT parked in a slot: its operand, the barrier's name, and its end once an event of the barrier has ended the wait. -/
structure BarPark where
  arg : Word
  name : Word
  done : Option BarEnd := none
deriving DecidableEq, Repr

/-- What a slot does (06 R142): hold no task, issue, or stay parked. -/
inductive Run where
  | free
  | ready
  /-- Parked with no effect yet; the instruction is executed again when the slot becomes ready. -/
  | waiting
  /-- Parked on the reply to split-phase request number req. -/
  | awaiting (req : Nat)
  /-- Force-stopped, its task record written (19 R355). -/
  | stopped
  /-- Its task ended in a join that resumes a frame, whose continuation starts next in the slot (11 R230): its
  address, virtual and physical. -/
  | resuming (frame : Word) (pa : Nat)
deriving DecidableEq, Repr

/-- The posted-error record of a task (04 R94) with the reply code of its first error (16 R310, 22 R391) and the link number of its first
lost write (07 table 7.3). -/
structure PostedError where
  cause : BitVec 8 := 0
  code : Nat := 0
  addr : Word := 0
  count : Nat := 0
  lost : Nat := 0
  link : BitVec 8 := 0
deriving DecidableEq, Repr

/-- A buffered send of a task (17 R318): SENDI with its payload (at most 64 bytes) and format, or SENDB with its 32-byte
send block in the low bits of payload, its send id and its barrier name. -/
structure BufferedSend where
  block : Bool
  dest : Word
  payload : Vec
  fmt : BitVec 5
  sendId : BitVec 32
  bar : Word := 0
  sup : Bool := false
  uid : Nat := 0
  after : List Nat := []
deriving DecidableEq, Repr

/-- An asynchronous trap held until TD is below 2 (19 R351). -/
structure HeldTrap where
  cause : BitVec 8
  tval : Word
  tinfo : Word
deriving DecidableEq, Repr

/-- The mailbox entry that a handler task was started for, and whether it was released (17 R323 to R325). -/
structure HandlerTask where
  queue : Nat
  entry : Vec
  released : Bool
  /-- Ended by a trap (17 R324): a return into it ends the task. -/
  aborted : Bool := false
deriving DecidableEq, Repr

/-- Instruction words that a slot has fetched ahead (02 R49): the address of the first and their number, the line that holds
them as the L1I read it, and the mode, ASID and PTROOT of the fetch. -/
structure Ahead where
  pc : Word
  n : Nat
  line : BitVec 2048
  mode : Mode
  asid : BitVec 12
  root : Word
deriving DecidableEq, Repr

/-- One task slot of a core. -/
structure Slot where
  g : Vector Word 32 := Vector.replicate 32 0
  taint : BitVec 32 := 0
  v : Vector Vec 24 := Vector.replicate 24 0
  pc : Word := 0
  mode : Mode := .task
  td : Fin 3 := 0
  evt : Bool := false
  te : Bool := false
  bank0 : Bank := {}
  bank1 : Bank := {}
  run : Run := .free
  pend : List Pending := []
  nextIssue : Nat := 0
  /-- The KERNID of the context that the slot belongs to. -/
  ctx : Option Nat := none
  num : BitVec 3 := 0
  kind : BitVec 3 := 0
  origin : BitVec 48 := 0
  seq : BitVec 24 := 0
  stage : Vector Word 4 := Vector.replicate 4 0
  perr : PostedError := {}
  sends : List BufferedSend := []
  held : List HeldTrap := []
  /-- CX registers, number q * 16 + index for copy queue q (15 R285). -/
  cx : AMap Word := []
  trussLast : BitVec 32 := 0
  /-- By queue kind of QFENCE (bit number): commands that later commands of the task wait for. -/
  fenced : AMap (List Nat) := []
  /-- A truss command of the slot was discarded. -/
  trussLost : Bool := false
  handler : Option HandlerTask := none
  /-- The queue whose batch the task consumes: bent key and ENTRYNO (13 R250). -/
  batch : Option (Nat × Nat) := none
  /-- The queue register whose wake entry started the task (17 R323). -/
  wakeOf : Option Nat := none
  /-- Sector data that serves one pending load after an invalidation (08 table 8.4): sector number and data. -/
  fill : AMap Vec := []
  /-- A refused translation for the access that the slot will execute again: page and TINFO (21 R371). -/
  walkFault : Option (Nat × Word) := none
  /-- Error replies to fills that the slot asked for: sector number and reply code (22 R391). -/
  fillErr : AMap Nat := []
  /-- The command number from which on the commands of the core's truss queue are later ones for the access to PROG that waits (14 R270). -/
  mark : Option Nat := none
  /-- Set while the instruction at PC has parked: it reads its registers as they stood at its issue (02 R36), and what is in
  flight has landed for the instruction after it (02 R39). -/
  parked : Bool := false
  /-- What the first of the two port accesses of an instruction read, until the second (04 R97, 05 R126). -/
  half : Option Nat := none
  /-- Words fetched ahead (02 R49). -/
  ahead : Option Ahead := none
  /-- The BWAIT that the slot is parked in. -/
  bwait : Option BarPark := none
  /-- The STOP word of a task that a forced stop ended, until the task issues again (19 R355, R362). -/
  stop : Word := 0
  /-- Registers bound to physical registers, those of them that are spilled, and those of these that lie in the task record of the save area rather
  than in the spill yard (19 R347, R348): bit k of out and inRecord for gk, bit 32 + k for vk. -/
  boundG : BitVec 32 := 0
  boundV : BitVec 24 := 0
  out : BitVec 56 := 0
  inRecord : BitVec 56 := 0
  /-- One more than the cycle of the last issue of the slot's task; 0 before any. -/
  lastIssue : Nat := 0
deriving DecidableEq, Repr

/-! ### Contexts (19 R346) -/

/-- Context states (19 table 19.1). -/
inductive CtxState where
  | free | loading | ready | running | parked | draining | saving | saved | restoring | faulted | retired
deriving DecidableEq, Repr

/-- A window of a local store (06 R135). -/
structure Window where
  base : Nat := 0
  size : Nat := 0
deriving DecidableEq, Repr

/-- BUDGET and the watchdog (19 R355): remain counts down at ticks from cycle start on. -/
structure Budget where
  pend : Bool := false
  sarm : Bool := false
  remain : BitVec 24 := 0
  limit : BitVec 24 := 0
  slot : BitVec 3 := 0
  start : Nat := 0
deriving DecidableEq, Repr

/-- A shape record: 512-bit image and base (15 R286). -/
structure ShapeRec where
  image : Vec := 0
  base : Word := 0
deriving DecidableEq, Repr

/-- A queue-register binding (13 R239, 17 R323): bind word, slot that bound it, counters, wake entry. -/
structure Binding where
  word : Word := 0
  slot : BitVec 3 := 0
  bound : Bool := false
  free : Nat := 0
  fill : Nat := 0
  head : Nat := 0
  tail : Nat := 0
  held : Nat := 0
  /-- Slots whose last byte has landed and that are not counted in FILL yet (13 R241). -/
  filled : List Nat := []
  /-- Set while a QBIND drains the old binding. -/
  closing : Bool := false
  wake : Word := 0
deriving DecidableEq, Repr

/-! ### Copies (15) -/

/-- States of a transfer (15 table 15.9). -/
inductive XferState where
  | queued | running | faulted | held | complete | aborted
deriving DecidableEq, Repr

/-- A transfer: who launched it, its CX set and shape record as copied at CLAUNCH, the resolved barrier name, and how much of
its destination is covered.  Destination bytes are numbered in box order; covered is the covered prefix and landed lists runs
landed beyond it (15 R291). -/
structure Transfer where
  slot : Nat
  chan : Nat
  seq : BitVec 32
  sup : Bool
  cx : AMap Word
  shape : ShapeRec
  bar : Word := 0
  chainSeq : BitVec 32 := 0
  st : XferState := .queued
  /-- Destination range: lowest address and the one past the highest, low 48 bits. -/
  lo : Nat := 0
  hi : Nat := 0
  /-- Where a resumed copy began: bytes below are covered and counted (15 R300). -/
  from0 : Nat := 0
  covered : Nat := 0
  landed : List (Nat × Nat) := []
  /-- Destination bytes counted on the barrier. -/
  counted : Nat := 0
  clip : Bool := false
  code : BitVec 8 := 0
  fault : Word := 0
  /-- Scale bytes of the blocks quantized so far that have not landed, by block number (15 R295). -/
  scales : AMap Nat := []
  /-- A write of CWM that is ordered after the start of the copy, and what registers of MG held before a mirror CSR wrote them (02 R55). -/
  wmNext : Option Word := none
  mgKeep : AMap Word := []
  /-- Number of the command, and the commands that a QFENCE puts before it (07 R167). -/
  uid : Nat := 0
  after : List Nat := []
deriving DecidableEq, Repr

/-- A channel of a context (15 R283, table 15.5): last sequence number, the copy it holds, its latest sixteen finished
transfers, and CWM. -/
structure Channel where
  seq : BitVec 32 := 0
  /-- The sequence numbers have wrapped since Loading. -/
  wrapped : Bool := false
  cur : Option Transfer := none
  done : List Transfer := []
  wm : BitVec 48 := 0
  flt : Bool := false
  held : Bool := false
  code : BitVec 8 := 0
  gen : BitVec 32 := 1
deriving DecidableEq, Repr

/-! ### Truss (14) -/

/-- The commands of a truss queue (14 R261). -/
inductive TrussKind where
  | mma | mmaco | mzero
  | msave (addr : Word)
  | mload (addr : Word)
deriving DecidableEq, Repr

/-- Operands of one unit for one side (14 R275): the kernel, gang tag, shared geometry, unit number (row block times 2^14 plus chunk),
elements of each row or column and their scale bytes. -/
structure Chunk where
  kern : Nat
  gid : Nat
  geom : List Nat
  unit : Nat
  sideB : Bool
  fmt : Nat
  elems : List (List Nat)
  scales : List Nat
deriving DecidableEq, Repr

/-- A command of a truss queue: the rank of the context that issued it and the number of the slot, its copy of MG, its pointers, its next unit, and the operands of that
unit and of later ones. -/
structure TrussCmd where
  kern : Nat
  owner : Nat
  slot : Nat
  sup : Bool
  seq : BitVec 32
  kind : TrussKind
  mg : AMap Word
  a : Word := 0
  b : Word := 0
  chained : Bool := false
  rb : Nat := 0
  chunk : Nat := 0
  /-- The operands of the next unit are present (14 R262, R282). -/
  present : Bool := false
  /-- Stopped at a unit boundary by a forced stop or by Saving (14 R278). -/
  stopped : Bool := false
  /-- Held under a recorded fault (14 R276). -/
  held : Bool := false
  bufA : List Chunk := []
  bufB : List Chunk := []
  /-- Registers of MG that a mirror CSR wrote after an MLOAD was issued (02 R55). -/
  keep : List Nat := []
  uid : Nat := 0
  after : List Nat := []
deriving DecidableEq, Repr

/-! ### Posted receives and messages (17) -/

/-- A posted receive (17 table 17.5) with its shape record and barrier name as resolved at RPOST. -/
structure Post where
  id : BitVec 32
  core : Nat
  kern : Nat
  asid : BitVec 12
  words : List Word
  shape : ShapeRec
  bar : Word
  cookie : Word
  sup : Bool := false
deriving DecidableEq, Repr

/-- A two-sided message on its way or in the UMQ: eager with its bytes, or a rendezvous header (17 R328). -/
structure TwoSided where
  core : Nat
  kern : Nat
  pkg : Nat
  rank : Nat
  asid : BitVec 12
  tag : BitVec 32
  fmt : Nat
  len : Nat
  bytes : List (BitVec 8)
  rendezvous : Bool
  sendId : BitVec 32
  src : Word
  act : Word
  bar : Word
  sup : Bool := false
deriving DecidableEq, Repr

/-- A translation fault whose record the supervisor has to consume: whether it lies on the sender's side, the context's core and KERNID, the
record's place in the ring and the address (17 R331). -/
structure MsgFault where
  sender : Bool
  core : Nat
  kern : Nat
  index : Nat
  addr : Word
deriving DecidableEq, Repr

/-- A matched pair that lands (17 R329): bytes landed so far, whether the sender may send, the last fault that was recorded. -/
structure Landing where
  post : Post
  msg : TwoSided
  done : Nat := 0
  clear : Bool := true
  fault : Option MsgFault := none
deriving DecidableEq, Repr

/-- A send in a core's injection queue (17 R318, R322): its sender, its destination word, after a refusal the back-off and the cycle at
which it is sent again, and a recorded fault in reading its source. -/
structure Packet where
  kern : Nat
  rank : Nat
  asid : BitVec 12
  /-- The slot of the task that sent it, or 8 once that task has ended. -/
  slot : Nat := 8
  send : BufferedSend
  /-- It is on its way; before that it waits for its turn, for the commands that a QFENCE puts before it or for its source. -/
  injected : Bool := false
  /-- The core of its rank as resolved when it was injected. -/
  toCore : Option Nat := none
  /-- The bytes of an eager block, read when it was injected (17 R320). -/
  bytes : List (BitVec 8) := []
  refused : Bool := false
  backoff : Nat := 0
  due : Nat := 0
  fault : Option MsgFault := none
deriving DecidableEq, Repr

/-- A completion event that follows the last byte count of an engine command (15 R296): the increment of a sequence counter of a kernel of a
package, a message for the mailbox of a rank, or the end of a copy of a kernel on a core, by its command number. -/
inductive DoneEvent where
  | seq (pkg kern : Nat) (handle : Word)
  | mail (pkg kern rank : Nat) (entry : Vec)
  | copy (core kern uid : Nat)
  /-- The command no longer counts in REFS of the barrier. -/
  | free (bar : Word)
deriving DecidableEq, Repr

/-- An event for a barrier entry on its way to the home bent (16 R304): 0 an expectation change, 1 a byte count, 2 an
arrival, or so many; source is the core that it counts for, kern the kernel that it belongs to, task the core and slot of a BAR instruction's
task, and next what is delivered once it has been taken. -/
structure BarMsg where
  kind : Nat
  index : Nat
  n : Int
  source : Nat
  kern : Nat
  /-- The cycle in which it was sent. -/
  sent : Nat := 0
  task : Option (Nat × Nat) := none
  next : List DoneEvent := []
deriving DecidableEq, Repr

/-- A plumb check under way at a barrier's home (18 R338): the monitors, by bent key and number, that have still to answer and that have
answered, and what they gave. -/
structure PlumbCheck where
  waiting : List (Nat × Nat)
  taken : List (Nat × Nat) := []
  drift : Int := 0
  ref : Int := 0
  bound : Int := 0
  bad : Bool := false
deriving DecidableEq, Repr

/-- What a barrier entry carries that no space reaches (16 R302): the kernel, the count of engine commands, whether it is
Freed, and its creator's core and handle. -/
structure BarInfo where
  kern : Nat
  refs : Nat := 0
  freed : Bool := false
  core : Nat
  handle : Nat
  check : Option PlumbCheck := none
  /-- Cycle, kind and source of the event that it took last (16 R305). -/
  last : Option (Nat × Nat × Nat) := none
deriving DecidableEq, Repr

/-! ### Work in queues (13) -/

/-- How far a batch is (13 R250): cut, handed to a task (by the rank of its context and its SEQ), or ended. -/
inductive BatchState where
  | cut | running (rank : Nat) (seq : Nat) | ended
deriving DecidableEq, Repr

/-- A batch of records: first record number and count (for a bin batch: buffer number, count and key). -/
structure Batch where
  first : Nat
  count : Nat
  key : Nat := 0
  st : BatchState := .cut
deriving DecidableEq, Repr

/-- An open queue of a bent's queue engine (13 R247 to R250), with the arrival cycles of records not yet cut. -/
structure OpenQueue where
  desc : Word
  core : Nat
  kern : Nat
  cfg : Word
  ring : Word
  entry : Word
  enqcnt : Nat := 0
  donecnt : Nat := 0
  cut : Nat := 0
  arrivals : List Nat := []
  batches : List Batch := []
  nextBuffer : Nat := 0
  /-- What tells the queue from every other that was ever opened: the model's own. -/
  uid : Nat := 0
deriving DecidableEq, Repr

/-- A coalescing bin (13 R252): its set (entry number), key, records in arrival order and their arrival cycles. -/
structure Bin where
  kern : Nat
  set : Nat
  key : Nat
  recs : List (List (BitVec 8))
  arrivals : List Nat
  /-- Launch asked for (full, flushed or timed out) and held up for a buffer. -/
  due : Bool := false
deriving DecidableEq, Repr

/-- A waiting TASKQ entry (13 R257): who issued it, the descriptor, the open queue that it found (by its uid), counter handles with thresholds,
and the record. -/
structure TaskWait where
  core : Nat
  kern : Nat
  desc : Word
  queue : Nat := 0
  pairs : List (Word × Word)
  record : List (BitVec 8)
  /-- The supervisor-queue slot of the record of a failed append, until it is consumed. -/
  failed : Option Nat := none
  /-- The increment on which the entry became ready: the counter's handle and its new value. -/
  group : Option (Word × Nat) := none
deriving DecidableEq, Repr

/-- What a saved context holds for which the layout of the save area gives no place (19 tables 19.10 to 19.13): of each slot by its number what
its task record leaves out, the generators of its channels, the kinds of its truss commands, its withdrawn posts, its queues with the bent
and entry that held them, its bins and wait-list entries (13 R259; times here are ages), the lengths of its mailbox and channels, and the
address of a recorded truss fault. -/
structure SavedParts where
  slots : AMap Slot := []
  chans : AMap Channel := []
  truss : List TrussCmd := []
  posts : List Post := []
  queues : List (Nat × Nat × OpenQueue) := []
  bins : List Bin := []
  waits : List TaskWait := []
  mailbox : Nat := 0
  tags : List (Nat × Nat) := []
  efault : Word := 0
  cancelled : List (BitVec 32) := []
  /-- Slots of its rings that have landed and are not counted. -/
  filled : AMap (List Nat) := []
  /-- The frame record that its deque port holds. -/
  record : Option (Word × Nat) := none
deriving DecidableEq, Repr

/-- A context: one kernel's occupancy of one core. -/
structure Ctx where
  state : CtxState := .free
  kernid : BitVec 16 := 0
  rank : BitVec 11 := 0
  slots : Nat := 1
  chan : Nat := 0
  barriers : Nat := 0
  wwin : Window := {}
  awin : Window := {}
  cwin : Window := {}
  asid : BitVec 12 := 0
  ptroot : Word := 0
  tvec : Word := 0
  crashptr : Word := 0
  saveptr : Word := 0
  budget : Budget := {}
  restctl : Word := 0
  chans : AMap Channel := []
  tracectl : Word := 0
  mg : AMap Word := []
  trussSeq : BitVec 32 := 0
  doneSeq : BitVec 32 := 0
  ecode : BitVec 8 := 0
  stop : Bool := false
  /-- The address of the recorded truss fault. -/
  efault : Word := 0
  /-- Operand messages held in the NI spill ring (14 R280). -/
  spill : List Chunk := []
  shapes : AMap ShapeRec := []
  bmap : AMap Word := []
  mmap : AMap Word := []
  bindings : AMap Binding := []
  mailbox : List Vec := []
  /-- Engine messages that wait for room in the mailbox. -/
  mailWait : List Vec := []
  /-- Route-tag channels by tag (17 R318). -/
  channels : AMap (List Vec) := []
  msgCtr : BitVec 32 := 0
  postCtr : BitVec 32 := 0
  /-- Posts withdrawn by RCANCEL. -/
  cancelled : List (BitVec 32) := []
  gen : BitVec 32 := 1
  taskCtr : BitVec 24 := 0
  place : Word := 0
  groupid : Word := 0
  /-- A pre-emption request that arrived in Loading or Restoring (19 table 19.2). -/
  latePreempt : Bool := false
  /-- Loading or Restoring, which the context enters when its core is awake (10 R209). -/
  entry : Option CtxState := none
  /-- Number of the latest supervisor-queue records that no slot has been given yet (19 R357). -/
  svcWaiting : Nat := 0
  /-- Errors of posted accesses of ended tasks that the fault record has not taken yet (04 R94). -/
  late : PostedError := {}
  /-- Copies that were saved and not launched again, with the barriers that they count on: transfer id and name (16 R302). -/
  copyRefs : List (Word × Word) := []
  /-- What a Saved or Restoring context holds beside its save area. -/
  kept : SavedParts := {}
deriving DecidableEq, Repr

/-! ### Caches (08) -/

/-- Operation of a held update (04 R100). -/
inductive UpdOp where
  | add | fadd | min | max | or | and
deriving DecidableEq, Repr

/-- States of an L1D sector (08 tables 8.1 and 8.4). -/
inductive SectorState where
  | i | s | e | o | m | u
  | isD | imAD | smA | omA | miA | iiA | uiA
deriving DecidableEq, Repr

/-- An access that a transient sector holds: a store of masked bytes by a slot, or an update. -/
inductive HeldOp where
  | store (slot : Nat) (data : Vec) (mask : BitVec 64)
  | upd (slot : Nat) (op : UpdOp) (dbl : Bool) (off : Nat) (value : Word)
deriving DecidableEq, Repr

/-- One partial result of an update-only sector: byte offset and value (06 R148). -/
structure Partial where
  off : Nat
  value : Word
  /-- The slots whose updates it combines. -/
  slots : List Nat := []
deriving DecidableEq, Repr

/-- A 64-byte sector of an L1D line. -/
structure Sector where
  st : SectorState := .i
  data : Vec := 0
  dirty : BitVec 64 := 0
  op : UpdOp := .add
  dbl : Bool := false
  parts : List Partial := []
  held : List HeldOp := []
  /-- The slots whose loads wait for the read, the one that sent it first, and whether an invalidation came meanwhile. -/
  loaders : List Nat := []
  invalidated : Bool := false
deriving DecidableEq, Repr

/-- An L1D line: its way, SUB bit, recency and four sectors. -/
structure L1Line where
  way : Nat := 0
  sub : Bool := false
  used : Nat := 0
  sec : Vector Sector 4 := Vector.replicate 4 {}
deriving DecidableEq, Repr

/-- Messages from an L1 to the directory or to another L1 (08 table 8.2).  The sector number is the physical address
divided by 64. -/
inductive UpMsg where
  | rd (sector : Nat)
  | rdx (sector : Nat)
  | upg (sector : Nat)
  | wb (sector : Nat) (data : Vec) (mask : BitVec 64)
  /-- A write-through by a slot. -/
  | wt (sector : Nat) (slot : Nat) (data : Vec) (mask : BitVec 64)
  | ureg (sector : Nat)
  | umrg (sector : Nat) (op : UpdOp) (dbl : Bool) (parts : List Partial)
  /-- Response to a forward: data with its dirty mask, if any, whether the responder kept a dirty copy (O), a clean copy
  (S) or none, and whether it supplied the requester. -/
  | frsp (sector : Nat) (data : Option (Vec × BitVec 64)) (kept : SectorState) (supplied : Bool)
  | iack (sector : Nat)
deriving DecidableEq, Repr

/-- Messages from the directory to an L1. -/
inductive DownMsg where
  | dataS (sector : Nat) (data : Vec) (sub : Bool)
  | dataE (sector : Nat) (data : Vec) (sub : Bool)
  | dataM (sector : Nat) (data : Vec) (sub : Bool)
  | grant (sector : Nat)
  | inv (sector : Nat)
  | urcl (sector : Nat)
  | fwdS (sector : Nat) (requester : Nat)
  /-- With no requester the data goes to the directory, for a merge (08 R181). -/
  | fwdX (sector : Nat) (requester : Option Nat)
  | wback (sector : Nat) (stale : Bool)
  /-- A response to a forward sent by another L1: data, dirty mask, and whether ownership passes. -/
  | peer (sector : Nat) (data : Vec) (mask : BitVec 64) (own : Bool)
deriving DecidableEq, Repr

/-- Directory states (08 R175). -/
inductive DirState where
  | none | shared | excl | owned
deriving DecidableEq, Repr

/-- What a busy directory entry waits for (08 R177, R181). -/
structure DirBusy where
  requester : Nat
  msg : UpMsg
  acks : Nat := 0
  frsp : Bool := false
  /-- What the response to the forward said: whether it supplied the requester, and what its sender kept. -/
  supplied : Bool := false
  kept : SectorState := .i
  merges : List Nat := []
  collected : AMap UpMsg := []
deriving DecidableEq, Repr

/-- The directory entry of one sector, with the requests it holds. -/
structure DirEntry where
  st : DirState := .none
  sharers : List Nat := []
  owner : Nat := 0
  uholders : List Nat := []
  busy : Option DirBusy := none
  queue : List (Nat × UpMsg) := []
  /-- The cycle in which the latest request was taken: at most one a cycle (08 R177). -/
  takenAt : Option Nat := none
deriving DecidableEq, Repr

/-- A line of the bent L2. -/
structure L2Line where
  data : BitVec 2048 := 0
  dirty : BitVec 256 := 0
  epoch : BitVec 8 := 0
  /-- Filled before the epoch counter wrapped, so that no later epoch of the same number is its own (07 R159). -/
  old : Bool := false
  sub : Bool := false
  pt : Bool := false
  watch : Bool := false
  dir : Vector DirEntry 4 := Vector.replicate 4 {}
deriving DecidableEq, Repr

/-- A cached leaf translation (21 R374). -/
structure TlbEntry where
  asid : BitVec 12
  level : Nat
  vtag : Nat
  pte : Word
  lines : List Nat
deriving DecidableEq, Repr

/-- Who waits for a walk: a core slot, how it accesses the page (0 load, 1 store, 2 fetch), and whether it runs above
task mode. -/
structure WalkUser where
  core : Nat
  slot : Nat
  kind : Nat
  sup : Bool
deriving DecidableEq, Repr

/-- An entry of the miss table (21 R375): page, users, and the lines read if a walker has it. -/
structure WalkEntry where
  asid : BitVec 12
  root : Word
  page : Nat
  users : List WalkUser
  walking : Bool := false
  lines : List Nat := []
deriving DecidableEq, Repr

/-- A lease of a subscription: the context, by core key and KERNID, and its expiry in TIME. -/
structure Lease where
  core : Nat
  kern : Nat
  expiry : Nat
  length : Nat
deriving DecidableEq, Repr

/-- A push to a subscriber bent: 256-byte line, bytes and mask (08 R183). -/
structure Push where
  line : Nat
  data : BitVec 2048
  mask : BitVec 256
deriving DecidableEq, Repr

/-! ### Requests that leave a core (06 R141) -/

/-- What a split-phase request asks of its target. -/
inductive ReqOp where
  | load (size : Nat)
  | store (size : Nat) (value : Nat) (mask : Nat)
  /-- A store of the bits that the mask selects (05 R126). -/
  | bits (size : Nat) (value : Nat) (mask : Nat)
  | atomic (code : Nat) (dbl : Bool) (operand compare : Word)
  | upd (op : UpdOp) (dbl : Bool) (value : Word)
deriving DecidableEq, Repr

/-- What happens to the reply of a request: nothing but the acknowledgement; a write to a general register, with its
taint and the scope code plus 1 of an acquire that follows (0 for none); a write of n bits of the
answer, from bit sh up, to lane i of width w of a vector register. -/
inductive ReqDest where
  | posted
  | g (d : BitVec 5) (size : Nat) (signed : Bool) (taint : Bool) (acq : Nat)
  | lane (d : BitVec 5) (w : Nat) (i : Nat) (sh : Nat) (n : Nat)
deriving DecidableEq, Repr

/-- A split-phase request: its slot, the context that issued it, its address and mode, what it asks and where the reply goes;
done once it has taken effect at the target (data then holds the answer and error a cause and detail), landed once the
reply is back. -/
structure Request where
  id : Nat
  slot : Nat
  kern : Option Nat
  sup : Bool
  addr : Word
  /-- Translated address of a space-0 request. -/
  pa : Nat := 0
  op : ReqOp
  dest : ReqDest
  /-- A space-0 atomic at core, quad or bent scope, performed in the bent L2 (04 table 4.6). -/
  atL2 : Bool := false
  /-- What the first of the two port accesses of a store of bits read, until the second (05 R126). -/
  old : Option Nat := none
  done : Bool := false
  landed : Bool := false
  data : Vec := 0
  error : Option (BitVec 8 × Word) := none
deriving DecidableEq, Repr

/-! ### Work: deque, steal engine, queues, kernels -/

/-- The continuation deque of a core (11 R216); entries 0 to 63. -/
structure Deque where
  entries : AMap Word := []
  top : Nat := 0
  bot : Nat := 0
  owner : Option Nat := none
  /-- A frame record was made for the frame at TOP, and one that waits for room in the supervisor queue: its kernel, frame address and word 2 (19
  R356). -/
  reported : Bool := false
  record : Option (Nat × Word × Nat) := none
  /-- The cycle in which the deque port served the last steal (11 R218). -/
  probedAt : Option Nat := none
deriving DecidableEq, Repr

/-- Where a steal stands (11 R226 to R228). -/
inductive StealPhase where
  | idle
  /-- A probe sent to a victim core on behalf of the context of a kernel. -/
  | probing (victim : Nat) (kern : Nat)
  /-- The reply says that the victim had nothing. -/
  | empty
  /-- Entry TOP taken; the join-table increment comes next (entry to increment, or reserved). -/
  | taken (victim : Nat) (kern : Nat) (frame : Word) (fresh : Bool) (bent : Nat) (index : Nat)
  /-- Increment done; the victim's release and the transfer of frame and tiles come next. -/
  | counted (victim : Nat) (kern : Nat) (frame : Word)
  /-- Image landed; the thief's task starts next. -/
  | landed (kern : Nat) (frame : Word) (image : BitVec 1024) (scope : Nat) (remote : Bool)
deriving DecidableEq, Repr

/-- The steal engine of a core: position in the current sweep, back-off and phase. -/
structure Steal where
  pos : Nat := 0
  wait : Nat := 64
  blocked : Nat := 0
  phase : StealPhase := .idle
deriving DecidableEq, Repr

/-- A donated record on its way (13 R258): the issuing slot waits for the code, which goes to general register d. -/
structure Donation where
  id : Nat
  slot : Nat
  d : BitVec 5
  handle : Word
  record : List (BitVec 8)
deriving DecidableEq, Repr

/-- Health record fields (26 R417): state 0 healthy, 1 degraded, 2 failed; the crash record's eight words. -/
structure Health where
  state : Nat := 0
  corrected : Nat := 0
  uncorrected : Nat := 0
  recent : List Nat := []
  crash : List Word := []
  time : Word := 0
  cause : BitVec 8 := 0
  addr : Word := 0
deriving DecidableEq, Repr

/-- Kernel states (09 table 9.6). -/
inductive KernelState where
  | submitted | admitted | placing | running | preempting | preempted | resuming | draining | retired | aborted
deriving DecidableEq, Repr

/-- A kernel that holds a KERNID (09 R196 to R201): its record, the core key of each rank. -/
structure Kernel where
  kernid : BitVec 16
  record : BitVec 2048
  state : KernelState
  queue : Option Nat := none
  parent : Option Nat := none
  asid : BitVec 12 := 0
  ptroot : Word := 0
  prio : Nat := 0
  order : Nat := 0
  cores : List Nat := []
  preemptHeld : Bool := false
  rooted : Bool := false
  status : Nat := 0
  cause : Word := 0
deriving DecidableEq, Repr

/-- A queue of launch records in the doorbell page (09 table 9.4). -/
structure HostQueue where
  base : Word := 0
  size : BitVec 4 := 0
  root : Word := 0
  asid : BitVec 12 := 0
  tail : BitVec 32 := 0
  head : BitVec 32 := 0
  ctl : BitVec 16 := 0
deriving DecidableEq, Repr

/-! ### The machine -/

/-- One core (01 R11). -/
structure Core where
  phys : BitVec 5 := 0
  schk : Bool := false
  fencetrap : Bool := false
  yard : BitVec 2 := 0
  slots : Vector Slot 8 := Vector.replicate 8 {}
  curSlot : Fin 8 := 0
  /-- The current slot has parked or ended its task since it last issued (06 R142). -/
  yielded : Bool := false
  /-- No slot other than the current one issues before this cycle (06 R142). -/
  switchAt : Nat := 0
  ctxs : AMap Ctx := []
  wstore : Memory := []
  astore : Memory := []
  cstore : Memory := []
  /-- Poisoned 256-byte granules of the C-store, by granule number (14 R279), and poisoned words of the other stores. -/
  poisonC : List Nat := []
  poisonW : List Nat := []
  poisonA : List Nat := []
  l1 : AMap L1Line := []
  l1clock : Nat := 0
  /-- Lines of the L1I: physical line number and contents, at most four in each of 32 sets (02 R49, 06 R143). -/
  l1i : AMap (BitVec 2048) := []
  /-- Micro-TLB of 32 leaves, most recent first (21 R374). -/
  utlb : List TlbEntry := []
  /-- Messages to the directory with the cycle in which each was sent, and messages on their way to the L1 (08 R176). -/
  toL2 : List (Nat × UpMsg) := []
  toL1 : List DownMsg := []
  /-- Messages that reached the L1 in a state whose table does not list them, held until the sector changes (08 R179). -/
  heldL1 : List DownMsg := []
  requests : List Request := []
  nextReq : Nat := 0
  perf : AMap Word := []
  /-- The cycle since which every slot that holds a task is parked, for counter 0x402 (19 R365). -/
  parkedFrom : Option Nat := none
  fwvec : Word := 0
  sealBits : BitVec 8 := 0
  healthptr : Word := 0
  halted : Bool := false
  gated : Bool := false
  waking : Bool := false
  idleSince : Nat := 0
  outOfPlacement : Bool := false
  resetting : Bool := false
  /-- Cycle in which the reset of the core began (19 R354). -/
  resetAt : Nat := 0
  health : Health := {}
  deque : Deque := {}
  steal : Steal := {}
  donations : List Donation := []
  /-- Copy queues: launched transfers that have not started, with their KERNID (15 R283). -/
  copyq : AMap (List (Nat × Transfer)) := []
  truss : List TrussCmd := []
  vclock : BitVec 32 := 0
  wasReady : Bool := false
  granted : Bool := false
  /-- Operand messages on their way to this member. -/
  chunksIn : List Chunk := []
  /-- Injection queue (17 R318), send counter, and error replies to sends: KERNID, rank, cause and destination word. -/
  inject : List Packet := []
  sendCtr : BitVec 32 := 0
  sendErrors : List (Nat × Nat × BitVec 8 × Word) := []
  /-- Number of the next engine command, by which a QFENCE names it (07 R167). -/
  nextCmd : Nat := 0
  /-- Copies that are complete and whose completion events are not delivered yet: kernel, command number and slot. -/
  ending : List (Nat × Nat × Nat) := []
deriving DecidableEq, Repr

/-- Part of a monitor's window as registered: store 0 is memory (base is a physical address), 1 to 3 a local store of a
core (base is a physical offset); woff is the offset in the window. -/
structure WatchRange where
  store : Nat
  core : Nat
  base : Nat
  len : Nat
  woff : Nat
deriving DecidableEq, Repr

/-- Monitor states (18 table 18.5); Collecting lasts no longer than the step of its check. -/
inductive MonState where
  | free | set | armed
deriving DecidableEq, Repr

/-- A plumb monitor (18 R334, R335). -/
structure Monitor where
  st : MonState := .free
  kern : Nat := 0
  win : Word := 0
  len : Word := 0
  stride : BitVec 32 := 0
  foff : BitVec 32 := 0
  fmt : BitVec 8 := 0
  sign : BitVec 8 := 0
  acc : Int := 0
  nan : Bool := false
  ovf : Bool := false
  ref : Int := 0
  bound : Int := 0
  last : Int := 0
  lref : Int := 0
  fail : Bool := false
  lastp : BitVec 32 := 0
  barrier : Word := 0
  ranges : List WatchRange := []
deriving DecidableEq, Repr

/-- One bent (01 R14). -/
structure Bent where
  sram : Memory := []
  l2 : AMap L2Line := []
  /-- Requests of the L1s that have reached the directory and wait for their line (08 R177): core and message. -/
  missq : List (Nat × UpMsg) := []
  epoch : BitVec 8 := 0
  dirtyList : List Nat := []
  dirtyOverflow : Bool := false
  tlb : List TlbEntry := []
  /-- The pointer cache of the bent's walkers, at most 256 entries (21 table 21.5). -/
  ptrs : List TlbEntry := []
  /-- Translation caches of the load pipes of the four trusses, 128 leaves each (01 R13, 21 R374). -/
  trussTlb : Vector (List TlbEntry) 4 := Vector.replicate 4 []
  walks : List WalkEntry := []
  /-- Accesses that found the miss table full (21 R375): core key, slot and the cycle of the retry. -/
  missRetry : List (Nat × Nat × Nat) := []
  /-- Subscribed pages (08 R183): base page number to leases. -/
  subs : AMap (List Lease) := []
  pushes : List Push := []
  /-- Page-table lines whose invalidation has arrived at the bent's channel. -/
  ptInv : List Nat := []
  queues : AMap OpenQueue := []
  /-- The core, by its number in the bent, that the queue engine chose last (13 R250). -/
  lastCore : Nat := 15
  /-- The cycle and rank of the last arrival at the queue engine (keys 0 for ENQ, 1 for DONATE), at each counter and at each join entry (2^32 and
  its number) (11 R229; 13 R249, R256, R258). -/
  taken : AMap (Nat × Nat) := []
  bins : AMap Bin := []
  waits : List TaskWait := []
  monitors : AMap Monitor := []
  bars : AMap BarInfo := []
  barIn : List BarMsg := []
  /-- Wakes of barriers on their way to the bent: barrier names, and whether a phase has completed (16 R307, 04 R106). -/
  wakes : List (Word × Bool) := []
  /-- Join entries reserved for a steal, with the kernel of its frame (11 R227). -/
  joinReserved : AMap Nat := []
  /-- Kernels that hold join entries, sequence counters and bins here: KERNID to first counter and count. -/
  joinOwner : AMap Nat := []
  seqOwner : AMap (Nat × Nat) := []
  binOwner : AMap Nat := []
  gated : Bool := false
  waking : Bool := false
  degraded : Bool := false
  health : Health := {}
deriving DecidableEq, Repr

/-- A held write to a page-table line (08 R186): bytes and mask at a physical address, sharers still to acknowledge,
and the core and slot of the store if it is one. -/
structure PtWrite where
  addr : Nat
  size : Nat
  value : Nat
  mask : Nat
  waiting : List Nat
  source : Option (Nat × Nat)
deriving DecidableEq, Repr

/-- Phases of a rehoming (21 R379, R380). -/
inductive RehomePhase where
  | copying | recopying (pass : Nat) | final (waiting : List Nat)
deriving DecidableEq, Repr

/-- A rehome slot (21 R378): the entry's address and new value, old and new frame, marked lines, held writes. -/
structure Rehome where
  entry : Nat
  value : Word
  old : Nat
  new : Nat
  phase : RehomePhase := .copying
  marked : List Nat := []
  held : List PtWrite := []
  source : Option (Nat × Nat) := none
deriving DecidableEq, Repr

/-- What the home knows of a page-table line: the level of its tables and the bents whose walkers read it. -/
structure PtLine where
  level : Nat
  sharers : List Nat
deriving DecidableEq, Repr

/-! ### Links (22) -/

/-- States of a link (22 table 22.4). -/
inductive LinkState where
  | down | training | up | quiescing | quiesced | retraining | failed | isolated
deriving DecidableEq, Repr

/-- A link: its state and the counts of LSTAT (22 table 22.7), the cycle from which its time out of Up counts against
LTMO, and a quiesce command that waits for Up. -/
structure Link where
  st : LinkState := .down
  width : Nat := 0
  repaired : Nat := 0
  retrains : Nat := 0
  replays : Nat := 0
  since : Nat := 0
  quiesceNext : Bool := false
  /-- Replays of the flit at the head of the retry buffer. -/
  streak : Nat := 0
  /-- Failed lanes: direction, module of a UCIe link (else 0), and number (22 table 22.3). -/
  lanes : List (Bool × Nat × Nat) := []
  health : Health := {}
deriving DecidableEq, Repr

/-- Where a die's warm reset stands (22 R394). -/
inductive DiePhase where
  | running | leaving | recalling | quiescing | held | retraining
deriving DecidableEq, Repr

/-- The thermal state of a region (26 R406, R407): measured flux in W/cm², the truss grant duty in sixteenths, and whether the region is
degraded. -/
structure Thermal where
  flux : Nat := 0
  duty : Nat := 16
  degraded : Bool := false
deriving DecidableEq, Repr

/-- One die (01 R15). -/
structure Die where
  thermal : AMap Thermal := []
  /-- Subscription directories of the home agents of the die's three stacks: base page number to subscriber bents (06 R146, 08
  R183). -/
  subDirs : Vector (AMap (List Nat)) 3 := Vector.replicate 3 []
  /-- Sharer bents of page-table lines, by line number (08 R186). -/
  ptSharers : AMap PtLine := []
  ptWrites : List PtWrite := []
  rehomes : List Rehome := []
  rehomeQueue : List Rehome := []
  /-- Atomics and updates that wait at the home agents of the three stacks: core and request number, in arrival order. -/
  homeQueues : Vector (List (Nat × Nat)) 3 := Vector.replicate 3 []
  posts : List Post := []
  umq : List TwoSided := []
  landings : List Landing := []
  /-- Link block (22 table 22.6): LTMO, log head, tail, overflow and entries. -/
  ltmo : BitVec 20 := 4000
  logHead : BitVec 7 := 0
  logTail : BitVec 7 := 0
  logOvf : Bool := false
  /-- Entries of the log that have been written and not been read, at most 128 (22 table 22.6, assumption log 106). -/
  logUnread : Nat := 0
  log : AMap (Word × Word) := []
  phase : DiePhase := .running
  phaseAt : Nat := 0
  inPlacement : Bool := true
  /-- Cycle of the die's last reset (19 R350). -/
  cycle0 : Nat := 0
  health : Health := {}
deriving DecidableEq, Repr

/-- A firmware image with its configuration blob as module flash holds it (26 R413, R414): whether its ECDSA and LMS
signatures are valid, whether its LMS header is well formed, its security version, its revision numbers, the core numbers
that its spare map gives to spare cores, and its estimates of the flux in W/cm² that a core and a truss add to their region (10 R211). -/
structure Image where
  ecdsa : Bool := true
  lms : Bool := true
  header : Bool := true
  version : Nat := 0
  revision : BitVec 16 := 0
  spareMap : List Nat := []
  coreFlux : Nat := 0
  trussFlux : Nat := 0
deriving DecidableEq, Repr

/-- An answer to an SPDM request (26 R415): 0 GET_CERTIFICATE, 1 CHALLENGE or 2 GET_MEASUREMENTS, whether it came over DOE, and its content. -/
structure SpdmReply where
  kind : Nat
  doe : Bool
  content : List Nat
deriving DecidableEq, Repr

/-- An AtomicOp sent to the host: its address, operation code, size (8 bytes or 4), operand and the compare value of a CAS. -/
structure HostAtomic where
  addr : Word
  code : Nat
  dbl : Bool
  operand : Word
  compare : Word
deriving DecidableEq, Repr

/-- One package: the launch controller and the registers of the host-link register file. -/
structure Pkg where
  featoff : BitVec 256 := 0x3FF
  featacc : BitVec 256 := 0
  feat : BitVec 256 := 0
  negDone : Bool := false
  negBusy : Bool := false
  committed : Bool := false
  hostq : AMap HostQueue := []
  cmdstat : Word := 0
  kernels : AMap Kernel := []
  nextKern : BitVec 16 := 0
  nextOrder : Nat := 0
  /-- MSI-X vectors raised, latest first (09 R200). -/
  msix : List (BitVec 8) := []
  /-- Records and bytes that the device wrote to host memory: address and bytes, latest first. -/
  hostWrites : List (Word × List (BitVec 8)) := []
  hwbase : Word := 0
  hwsize : Word := 0
  rstwait : BitVec 20 := 1000
  umqsize : BitVec 4 := 6
  pkgno : BitVec 8 := 0
  /-- COREID.PKG of every core, and whether a commit has frozen the platform block (26 R408). -/
  corePkg : BitVec 8 := 0
  /-- The supervisor's configuration: TVEC, CRASHPTR and the save areas of kernels with SAVE = 0 (19 R351, R361). -/
  supTvec : Word := 0
  supCrash : Word := 0
  supSave : Word := 0
  bstat : BitVec 16 := 0
  revid : BitVec 16 := 0
  /-- The image in module flash, the active image's security version, the flash's monotonic counter, and whether the
  active image has run to its first FDROP (26 R413). -/
  flash : Image := {}
  version : Nat := 0
  counter : Nat := 0
  /-- Estimates of the flux that a core and a truss add to their region, from the accepted configuration (10 R211, 26 R414). -/
  coreFlux : Nat := 0
  trussFlux : Nat := 0
  /-- DIE_SEL straps of the package's dies (26 R409), four or, for a DV880-KGD die alone, one (00 R1), and the die numbers sampled from
  them. -/
  straps : List (BitVec 2) := [0, 1, 2, 3]
  dies : List Nat := [0, 1, 2, 3]
  dropped : Bool := false
  /-- Links by LINKID (22 table 22.1) and the plane mask (22 R385). -/
  links : AMap Link := []
  planeMask : BitVec 36 := 0xFFFFFFFFF
  /-- AtomicOps sent to the host, latest first (06 R140). -/
  hostAtomics : List HostAtomic := []
  /-- Cycle at which TIME was zeroed (26 R409). -/
  time0 : Nat := 0
  /-- Dies of the active management controller (0 or 3) and of the active launch controller with its host link (0 or 1). -/
  management : Nat := 0
  control : Nat := 0
  /-- Host bus address at which the host has placed BAR0 (22 R384, R389). -/
  bar0 : Option Nat := none
  /-- Answers to SPDM requests, latest first. -/
  spdm : List SpdmReply := []
deriving DecidableEq, Repr

/-- A turn of the device: which agent moves next.  The list of turns is the model's own plain data. -/
inductive Turn where
  /-- An event row of the opcode table. -/
  | event (i : Instr)
  /-- A core and one of its slots issue. -/
  | issue (core : Nat) (slot : Nat)
  /-- A core, its slot and another slot of it issue in one cycle (05 R109). -/
  | pair (core : Nat) (slot : Nat) (other : Nat)
  /-- Cycles pass. -/
  | tick (n : Nat)
deriving DecidableEq, Repr

/-- The state of the device. -/
structure State where
  /-- Turns to come (the model's own field); with none left the current slot issues. -/
  agenda : List Turn := []
  /-- Key of the core that issues (the model's own field). -/
  cur : Nat := 0
  cycle : Nat := 0
  /-- Counter of free values (the model's own field). -/
  fresh : Nat := 0
  /-- HBM by physical address PA[47:0] (21 R369). -/
  mem : Memory := []
  /-- Poisoned 8-byte granules of memory, by address divided by 8 (26 R418). -/
  poison : List Nat := []
  cores : AMap Core := []
  /-- Packages of the load-store domain (01, 21 R369). -/
  domain : List Nat := [0]
  bents : AMap Bent := []
  dies : AMap Die := []
  pkgs : AMap Pkg := []
deriving DecidableEq, Repr

/-- A slot that runs firmware from FWVEC right after a reset of its core. -/
def Slot.boot : Slot := { mode := .firmware, run := .ready }

/-- Core number k right after reset (26 R409): slot 0 runs in firmware mode at FWVEC with TD 0, the boot ROM standing at
physical address 0 (assumption log 6); every queue, table and cache is empty; the core stands at the position of its
number in the bent (assumption log 4). -/
def Core.reset (k : Nat) : Core :=
  { phys := BitVec.ofNat 5 (k % 16), slots := (Vector.replicate 8 ({} : Slot)).set 0 Slot.boot }

/-- A bent right after reset. -/
def Bent.reset : Bent := {}

/-- A die right after reset. -/
def Die.reset : Die := {}

/-- A package right after cold reset: the offered features of 09 table 9.2, none accepted. -/
def Pkg.reset : Pkg := {}

/-- The device right after cold reset: every core, bent, die and package at its reset record. -/
def State.reset : State := {}

end Sys2Proof.Machine
end

