-- ==== Sys2Proof/Machine/Access.lean ====
section
/-!
DEFINITION. Reading and updating the objects of the device by their keys, and the current core, slot and context.

Readings of the manual and choices that this file codes: assumption log 2, 19, 120.
-/
namespace Sys2Proof.Machine

open Sys2Proof

/-- Package of a core key (01 R17). -/
def pkgOf (core : Nat) : Nat := core / 2048
/-- Core number within the package. -/
def numOf (core : Nat) : Nat := core % 2048
/-- Key of a core's bent: the bent is core number[10:4]. -/
def bentOf (core : Nat) : Nat := core / 16
/-- Key of a core's die: the die is core number[10:9]. -/
def dieOf (core : Nat) : Nat := core / 512
/-- Key of the die of a bent. -/
def dieOfBent (bent : Nat) : Nat := bent / 32
/-- Package of a bent key. -/
def pkgOfBent (bent : Nat) : Nat := bent / 128
/-- The sixteen core keys of a bent, in increasing order. -/
def coresOfBent (bent : Nat) : List Nat := (List.range 16).map (bent * 16 + ·)

/-- The core with key k. -/
def State.coreAt (s : State) (k : Nat) : Core := (AMap.find? s.cores k).getD (Core.reset k)
/-- The bent with key k. -/
def State.bentAt (s : State) (k : Nat) : Bent := AMap.getD s.bents k Bent.reset
/-- The die with key k. -/
def State.dieAt (s : State) (k : Nat) : Die := AMap.getD s.dies k Die.reset
/-- The package with number k. -/
def State.pkgAt (s : State) (k : Nat) : Pkg := AMap.getD s.pkgs k Pkg.reset

/-- Replaces the core with key k by f of it. -/
def State.modCoreAt (s : State) (k : Nat) (f : Core → Core) : State :=
  { s with cores := AMap.set s.cores k (f (s.coreAt k)) }
/-- Replaces the bent with key k by f of it. -/
def State.modBentAt (s : State) (k : Nat) (f : Bent → Bent) : State :=
  { s with bents := AMap.set s.bents k (f (s.bentAt k)) }
/-- Replaces the die with key k by f of it. -/
def State.modDieAt (s : State) (k : Nat) (f : Die → Die) : State :=
  { s with dies := AMap.set s.dies k (f (s.dieAt k)) }
/-- Replaces the package with number k by f of it. -/
def State.modPkgAt (s : State) (k : Nat) (f : Pkg → Pkg) : State :=
  { s with pkgs := AMap.set s.pkgs k (f (s.pkgAt k)) }

/-- The slot with physical number n of a core. -/
def Core.slotAt (c : Core) (n : Nat) : Slot := if h : n < 8 then c.slots[n] else {}
/-- Replaces slot n of a core by f of it. -/
def Core.modSlotAt (c : Core) (n : Nat) (f : Slot → Slot) : Core :=
  if h : n < 8 then { c with slots := c.slots.set n (f c.slots[n]) } else c
/-- The context of a kernel on a core, or a Free one. -/
def Core.ctxAt (c : Core) (kern : Nat) : Ctx := AMap.getD c.ctxs kern {}
/-- Replaces the context of a kernel by f of it. -/
def Core.modCtxAt (c : Core) (kern : Nat) (f : Ctx → Ctx) : Core :=
  { c with ctxs := AMap.set c.ctxs kern (f (c.ctxAt kern)) }

/-- The current core. -/
def State.core (s : State) : Core := s.coreAt s.cur
/-- The current slot. -/
def State.slot (s : State) : Slot := s.core.slots[s.core.curSlot]
/-- Replaces the current core by f of it. -/
def State.modCore (s : State) (f : Core → Core) : State := s.modCoreAt s.cur f
/-- Replaces the current slot by f of it. -/
def State.modSlot (s : State) (f : Slot → Slot) : State :=
  s.modCore fun c => { c with slots := c.slots.set c.curSlot (f c.slots[c.curSlot]) }
/-- The bent of the current core. -/
def State.bent (s : State) : Bent := s.bentAt (bentOf s.cur)
/-- Replaces the bent of the current core by f of it. -/
def State.modBent (s : State) (f : Bent → Bent) : State := s.modBentAt (bentOf s.cur) f
/-- The package of the current core. -/
def State.pkg (s : State) : Pkg := s.pkgAt (pkgOf s.cur)

/-- Key of the current slot's context (a KERNID), or a number that no context has. -/
def State.kern (s : State) : Nat := s.slot.ctx.getD 65536
/-- The context of the current slot; a slot without one sees a Free context. -/
def State.ctx (s : State) : Ctx := s.core.ctxAt s.kern
/-- Replaces the context of the current slot by f of it, if the slot has one. -/
def State.modCtx (s : State) (f : Ctx → Ctx) : State :=
  match s.slot.ctx with
  | some k => s.modCore fun c => c.modCtxAt k f
  | none => s

/-- What stands in the place of a slot number for the ended tasks of a kernel's context (04 R94). -/
def endedSlot (kern : Nat) : Nat := 8 + kern

/-- What stands in the place of a slot number where no context is left to hear of an access. -/
def noSlot : Nat := endedSlot 65536

/-- A slot of any core. -/
def State.slotOf (s : State) (core slot : Nat) : Slot := (s.coreAt core).slotAt slot
/-- Replaces a slot of any core by f of it. -/
def State.modSlotOf (s : State) (core slot : Nat) (f : Slot → Slot) : State :=
  s.modCoreAt core fun c => c.modSlotAt slot f
/-- The context of a kernel on any core. -/
def State.ctxOf (s : State) (core kern : Nat) : Ctx := (s.coreAt core).ctxAt kern
/-- Whether a core holds a context of a kernel. -/
def State.hasCtx (s : State) (core kern : Nat) : Bool := AMap.has (s.coreAt core).ctxs kern
/-- Replaces the context of a kernel on a core by f of it; a core that holds none keeps none. -/
def State.modCtxOf (s : State) (core kern : Nat) (f : Ctx → Ctx) : State :=
  if s.hasCtx core kern then s.modCoreAt core fun c => c.modCtxAt kern f else s

/-- TIME in nanoseconds in a package: the 1.4 GHz clock (01 R18) counted since its cold reset (19 R350). -/
def State.time (s : State) (pkg : Nat) : Nat := (s.cycle - (s.pkgAt pkg).time0) * 5 / 7

/-- The next free value's number; the counter advances. -/
def State.bump (s : State) : State := { s with fresh := s.fresh + 1 }

/-- Adds n to performance counter c of a core (19 R365). -/
def Core.count (c : Core) (ctr n : Nat) : Core :=
  { c with perf := AMap.set c.perf ctr (AMap.getD c.perf ctr 0 + BitVec.ofNat 64 n) }

/-- Whether a feature bit is in the accepted set of a core's package (09 R191). -/
def State.accepted (s : State) (core feature : Nat) : Bool := (s.pkgAt (pkgOf core)).feat.getLsbD feature
/-- Whether a feature counts as accepted for the current slot: in firmware mode every offered feature does (09 R191). -/
def State.hasFeature (s : State) (feature : Nat) : Bool :=
  if s.slot.mode = .firmware then s.pkg.featoff.getLsbD feature else s.accepted s.cur feature

/-- The window of a local store by its code 1 A-store, 2 W-store, 3 C-store (06 R138). -/
def Ctx.window (c : Ctx) (code : Nat) : Window := if code = 1 then c.awin else if code = 2 then c.wwin else c.cwin

/-- Whether a context holds nothing of its core: it is in its save area, and not placed on a core that is waking. -/
def Ctx.away (c : Ctx) : Bool := c.state = .saved && c.entry.isNone

/-- Whether a package has a die of this key: four, or the one die of a DV880-KGD (00 R1). -/
def State.hasDie (s : State) (die : Nat) : Bool := (s.pkgAt (die / 4)).dies.contains (die % 4)

/-! ### Context states (19 tables 19.1 and 19.2) -/

/-- Whether a slot holds a task that can issue, or one that starts in it next. -/
def Run.issuing : Run → Bool
  | .ready => true
  | .resuming _ _ => true
  | _ => false

/-- Whether a slot holds no task that runs: free or force-stopped. -/
def Run.quiet : Run → Bool
  | .free => true
  | .stopped => true
  | _ => false

/-- The kernel of a continuation that a steal engine holds. -/
def StealPhase.carries : StealPhase → Option Nat
  | .taken _ k _ _ _ _ => some k
  | .counted _ k _ => some k
  | .landed k _ _ _ _ => some k
  | .idle => none
  | .probing _ _ => none
  | .empty => none

/-- The state that a context has by what its slots do: Ready without a task, Running while one can issue, else Parked;
a Draining context whose slots are free or force-stopped goes to Saving, once no stolen continuation is on its way to it. -/
def Core.settleCtx (c : Core) (kern : Nat) : Core :=
  match AMap.find? c.ctxs kern with
  | some x =>
    let runs := (c.slots.toList.filter fun sl => sl.ctx = some kern).map Slot.run
    let st : CtxState := match x.state with
      | .ready | .running | .parked =>
        if runs.all (· = .free) then .ready else if runs.any Run.issuing then .running else .parked
      | .draining => if runs.all Run.quiet && c.steal.phase.carries ≠ some kern then .saving else .draining
      | st => st
    { c with ctxs := AMap.set c.ctxs kern { x with state := st } }
  | none => c

/-- Whether a core holds tasks and every slot that holds one is parked. -/
def Core.allParked (c : Core) : Bool := c.slots.toList.any (fun sl => !sl.run.quiet) && c.slots.toList.all fun sl => !sl.run.issuing

/-- Counts the cycles in which every slot of a core is parked, up to a cycle in which one is not (19 table 19.14, counter 0x402). -/
def Core.countParked (c : Core) (now : Nat) : Core :=
  match c.parkedFrom with
  | some t => if c.allParked then c else { c.count 0x2 (now - t) with parkedFrom := none }
  | none => if c.allParked then { c with parkedFrom := some now } else c

/-- Settles the context of a slot after a change of the slot. -/
def State.settle (s : State) (core slot : Nat) : State :=
  match (s.slotOf core slot).ctx with
  | some k => s.modCoreAt core fun c => (c.settleCtx k).countParked s.cycle
  | none => s.modCoreAt core fun c => c.countParked s.cycle

end Sys2Proof.Machine
end

