-- ==== Sys2Proof/Machine/Routes.lean ====
section
/-!
DEFINITION. The paths between dies (22 R385) and the error replies of what cannot be served (22 R391).

Readings of the manual and choices that this file codes: assumption log 29, 33, 34, 71.
-/
namespace Sys2Proof.Machine

open Sys2Proof

/-! ### Trap causes (19 table 19.7) -/

/-- ILLEGAL. -/
def Cause.illegal : BitVec 8 := 0x01
/-- IMISALIGN. -/
def Cause.imisalign : BitVec 8 := 0x02
/-- DMISALIGN. -/
def Cause.dmisalign : BitVec 8 := 0x03
/-- DESCRIPTOR. -/
def Cause.descriptor : BitVec 8 := 0x07
/-- POINTER-OVERFLOW. -/
def Cause.pointerOverflow : BitVec 8 := 0x08
/-- SPACE-PERMISSION. -/
def Cause.spacePermission : BitVec 8 := 0x09
/-- STALLCOUNT. -/
def Cause.stallcount : BitVec 8 := 0x0A
/-- BADRET. -/
def Cause.badret : BitVec 8 := 0x0B
/-- BUDGET. -/
def Cause.budget : BitVec 8 := 0x0C
/-- SHAPE-MISALIGN. -/
def Cause.shapeMisalign : BitVec 8 := 0x0D
/-- ENGINE-FAULT. -/
def Cause.engineFault : BitVec 8 := 0x0E
/-- MCE. -/
def Cause.mce : BitVec 8 := 0x0F
/-- ATOMIC-UNSUPPORTED. -/
def Cause.atomicUnsupported : BitVec 8 := 0x10
/-- OUT-OF-PLUMB. -/
def Cause.outOfPlumb : BitVec 8 := 0x11
/-- BARRIER-OVERCOUNT. -/
def Cause.barrierOvercount : BitVec 8 := 0x12
/-- QUEUE-OVERFLOW. -/
def Cause.queueOverflow : BitVec 8 := 0x13
/-- FENCE-LINK. -/
def Cause.fenceLink : BitVec 8 := 0x14
/-- REMOTE-ERROR. -/
def Cause.remoteError : BitVec 8 := 0x15
/-- SOFTWARE. -/
def Cause.software : BitVec 8 := 0x16
/-- BREAK. -/
def Cause.break : BitVec 8 := 0x17

/-- Key of the home die of a physical address (21 R369). -/
def homeOf (pa : Nat) : Nat := pa / 2 ^ 40 % 256 * 4 + pa / 2 ^ 15 % 4

/-- A link of a package. -/
def State.link (s : State) (pkg id : Nat) : Link := AMap.getD (s.pkgAt pkg).links id {}

/-- Replaces a link. -/
def State.modLink (s : State) (pkg id : Nat) (f : Link → Link) : State :=
  s.modPkgAt pkg fun p => { p with links := AMap.set p.links id (f (AMap.getD p.links id {})) }

/-- LINKID of the UCIe link between two dies of a package (22 table 22.1). -/
def ucieLink (d e : Nat) : Nat :=
  let a := Nat.min d e
  let b := Nat.max d e
  if a = 0 then b else if a = 1 then b + 2 else 6

/-- LINKID of a Weavel plane. -/
def planeLink (plane : Nat) : Nat := 9 + plane

/-- What becomes of a request on its way to a die: it goes, it waits for a link, or it is answered with a reply code. -/
inductive Route where
  | go
  | wait
  | error (code : Nat)
deriving DecidableEq, Repr

/-- Whether a link carries packets. -/
def State.linkUp (s : State) (pkg id : Nat) : Bool := (s.link pkg id).st = .up

/-- Whether a link is out of every route. -/
def State.linkLost (s : State) (pkg id : Nat) : Bool := (s.link pkg id).st = .failed || (s.link pkg id).st = .isolated

/-- The path between two dies of one package: the direct link, or a third die whose links to both are Up. -/
def State.dieRoute (s : State) (pkg d e : Nat) : Route :=
  if d = e || s.linkUp pkg (ucieLink d e) then .go
  else if (List.range 4).any (fun m => m != d && m != e && s.linkUp pkg (ucieLink d m) && s.linkUp pkg (ucieLink m e)) then .go
  else if s.linkLost pkg (ucieLink d e) then .error 3
  else .wait

/-- Planes that are Up at both ends of two packages and in both plane masks. -/
def State.planesUp (s : State) (p q : Nat) : List Nat :=
  (List.range 36).filter fun n =>
    s.linkUp p (planeLink n) && s.linkUp q (planeLink n) && (s.pkgAt p).planeMask.getLsbD n && (s.pkgAt q).planeMask.getLsbD n

/-- The route of a request from a die to a die, by keys: a die in warm reset answers code 4 from step 4 on (22 R394), a
package outside the domain code 3. -/
def State.route (s : State) (src dst : Nat) : Route :=
  let p := src / 4
  let q := dst / 4
  let ph := (s.dieAt dst).phase
  if !s.domain.contains q then .error 3
  else if ph = .quiescing || ph = .held || ph = .retraining then .error 4
  else if p = q then s.dieRoute p (src % 4) (dst % 4)
  else
    let planes := s.planesUp p q
    let plane := match planes.find? fun n => n / 9 == src % 4 with
      | some n => some n
      | none => planes.head?
    match plane with
    | some n =>
      match s.dieRoute p (src % 4) (n / 9), s.dieRoute q (n / 9) (dst % 4) with
      | .go, .go => .go
      | .error c, _ => .error c
      | _, .error c => .error c
      | _, _ => .wait
    | none => if (List.range 36).all fun n => s.linkLost p (planeLink n) || s.linkLost q (planeLink n) then .error 3 else .wait

/-- The route of a bent to the home of a physical address; a frame that is not installed has code 5. -/
def State.homeRoute (s : State) (bent pa : Nat) : Route :=
  if pa % 2 ^ 40 < 0x861C460000 then s.route (dieOfBent bent) (homeOf pa) else .error 5

/-- Number of the link whose loss cuts the path between two dies: their UCIe link, or the first lost plane; 0, which names no
link (22 R381), for a package outside the domain. -/
def State.failedLink (s : State) (src dst : Nat) : Nat :=
  let p := src / 4
  let q := dst / 4
  if !s.domain.contains q then 0
  else if p = q then ucieLink (src % 4) (dst % 4)
  else planeLink (((List.range 36).find? fun n => s.linkLost p (planeLink n) || s.linkLost q (planeLink n)).getD 0)

/-- Enters an event in the link error log of a die (22 table 22.8). -/
def State.logLink (s : State) (die linkId event count lane : Nat) : State :=
  let time := BitVec.ofNat 64 (s.time (die / 4))
  s.modDieAt die fun d =>
    { d with
      log := AMap.set d.log d.logTail.toNat (time, BitVec.ofNat 64 (linkId * 2 ^ 56 + event * 2 ^ 48 + count % 2 ^ 32 * 2 ^ 16 + lane % 2 ^ 16))
      logTail := d.logTail + 1
      logOvf := d.logOvf || decide (128 ≤ d.logUnread)
      logUnread := Nat.min 128 (d.logUnread + 1) }

/-- The posted-error record of a task after one more error (04 R94). -/
def PostedError.add (p : PostedError) (cause : BitVec 8) (addr : Word) (code : Nat) : PostedError :=
  { p with
    cause := if p.count = 0 then cause else p.cause
    code := if p.count = 0 then code else p.code
    addr := if p.count = 0 then addr else p.addr
    count := p.count + 1 }

/-- A posted-error record with one more error, whose reply code is code (0 for none); a lost write counts as one only where a link is to
blame. -/
def PostedError.record (p : PostedError) (cause : BitVec 8) (addr : Word) (code : Nat) (lost : Bool) (linkId : Nat) : PostedError :=
  let q := p.add cause addr code
  if lost && linkId ≠ 0 then { q with lost := q.lost + 1, link := if q.lost = 0 then BitVec.ofNat 8 linkId else q.link } else q

/-- Records a posted error of a slot of a core, or of the ended tasks of a context, whose errors pass to its fault record. -/
def State.postedError (s : State) (core slot : Nat) (cause : BitVec 8) (addr : Word) (code : Nat := 0) (lost : Bool := false) (linkId : Nat := 0) :
    State :=
  if slot < 8 then s.modSlotOf core slot fun sl => { sl with perr := sl.perr.record cause addr code lost linkId }
  else s.modCtxOf core (slot - 8) fun c => { c with late := c.late.record cause addr code lost linkId }

end Sys2Proof.Machine
end

