-- ==== Sys2Proof/Machine/Homes.lean ====
section
/-!
DEFINITION. The homes of memory and the store ports: where a write is performed, with what goes with it in the same
step: monitor taps (18 R336), pushes to subscribers (08 R183), the marks of a rehoming (21 R379), and the holding back of
writes to page-table lines (08 R186) and to pages in their final block.

Readings of the manual and choices that this file codes: assumption log 32, 52.
-/
namespace Sys2Proof.Machine

open Sys2Proof

/-- Whether a physical address names installed memory (21 R369). -/
def installed (pa : Nat) : Bool := decide (pa % 2 ^ 40 < 0x861C460000)

/-- Bytes of memory at the home. -/
def State.memRead (s : State) (pa n : Nat) : Nat := Memory.readNat s.mem pa n

/-- A local store of a core by its code (06 R138): 1 A-store, 2 W-store, 3 C-store. -/
def Core.store (c : Core) (code : Nat) : Memory :=
  if code = 1 then c.astore else if code = 2 then c.wstore else c.cstore

/-- Replaces a local store. -/
def Core.setStore (c : Core) (code : Nat) (m : Memory) : Core :=
  if code = 1 then { c with astore := m } else if code = 2 then { c with wstore := m } else { c with cstore := m }

/-- Bytes of a local store at a physical offset. -/
def State.storeRead (s : State) (core code off n : Nat) : Nat := Memory.readNat ((s.coreAt core).store code) off n

/-! ### Monitor taps -/

/-- Field sizes of the monitor formats (18 R335). -/
def Monitor.fieldSize (m : Monitor) : Nat := if m.fmt = 1 then 2 else 4

/-- The byte at an offset of a monitor's window. -/
def Monitor.byteAt (m : Monitor) (s : State) (o : Nat) : Nat :=
  match m.ranges.find? fun r => decide (r.woff ≤ o) && decide (o < r.woff + r.len) with
  | some r => if r.store = 0 then s.memRead (r.base + (o - r.woff)) 1 else s.storeRead r.core r.store (r.base + (o - r.woff)) 1
  | none => 0

/-- The value of a field of a monitor's window in units of 2^-160, or none if it is NaN or infinite. -/
def Monitor.fieldValue (m : Monitor) (s : State) (rec : Nat) : Option Int :=
  let o := rec * m.stride.toNat + m.foff.toNat
  let w := packLanes 8 ((List.range m.fieldSize).map fun i => m.byteAt s (o + i))
  if m.fmt = 2 then some (toSigned 32 w * (2 ^ 160 : Nat))
  else
    match decodeF (if m.fmt = 1 then .bf16 else .fp32) w with
    | .fin neg x e => some (signedInt neg (x * 2 ^ (e + 160).toNat))
    | _ => none

/-- Wraps a sum to 320 bits. -/
def wrap320 (x : Int) : Int := (x + (2 ^ 319 : Nat)) % (2 ^ 320 : Nat) - (2 ^ 319 : Nat)

/-- One tap (18 R336). -/
def Monitor.tapField (m : Monitor) (before after : State) (rec : Nat) : Monitor :=
  match m.fieldValue before rec, m.fieldValue after rec with
  | some a, some b =>
    let t := m.acc + (if m.sign = 1 then -(b - a) else b - a)
    if (2 ^ 319 : Nat) ≤ t ∨ t < -((2 ^ 319 : Nat) : Int) then { m with acc := wrap320 t, ovf := true } else { m with acc := t }
  | _, _ => { m with nan := true }

/-- The records of a window that bytes o to o + n - 1 can touch. -/
def Monitor.recordsAt (m : Monitor) (o n : Nat) : List Nat :=
  let st := Nat.max 1 m.stride.toNat
  let first := o / st
  ((List.range ((o + n - 1) / st - first + 1)).map (first + ·)).filter fun r =>
    let f := r * st + m.foff.toNat
    decide (f < o + n) && decide (o < f + m.fieldSize) && decide (r * st + st ≤ m.len.toNat)

/-- The taps that a write of n bytes at base of a store takes on one monitor. -/
def Monitor.tapWrite (m : Monitor) (before after : State) (store core base n : Nat) : Monitor :=
  if m.st = .armed then
    m.ranges.foldl (fun m r =>
      if r.store = store && (store = 0 || r.core = core) && decide (base < r.base + r.len) && decide (r.base < base + n) then
        let lo := Nat.max base r.base
        let hi := Nat.min (base + n) (r.base + r.len)
        (m.recordsAt (r.woff + (lo - r.base)) (hi - lo)).foldl
          (fun m rec =>
            if m.fieldValue before rec = m.fieldValue after rec ∧ m.fieldValue after rec ≠ none then m
            else if (List.range m.fieldSize).all (fun i =>
              m.byteAt before (rec * m.stride.toNat + m.foff.toNat + i) = m.byteAt after (rec * m.stride.toNat + m.foff.toNat + i))
              then m
            else m.tapField before after rec) m
      else m) m
  else m

/-- Takes the taps of a write on every monitor (18 R336). -/
def State.tap (after before : State) (store core base n : Nat) : State :=
  { after with bents := AMap.mapVals after.bents fun b =>
      if b.monitors.isEmpty then b
      else { b with monitors := AMap.mapVals b.monitors fun m => m.tapWrite before after store core base n } }

/-- Writes the masked bytes of v at a physical offset of a local store: one step at the store port with its taps. -/
def State.storeWrite (s : State) (core code off n v mask : Nat) : State :=
  (s.modCoreAt core fun c => c.setStore code (Memory.writeMasked (c.store code) off n v mask)).tap s code core off n

/-- A mask of n enabled bytes. -/
def fullMask (n : Nat) : Nat := 2 ^ n - 1

/-! ### Writes at the home -/

/-- The stack of the home die on which the line of a physical address is homed (06 R146). -/
def stackOf (pa : Nat) : Nat := pa / 256 % 3

/-- The subscription directory of the home agent of a stack (06 R146). -/
def Die.subDir (d : Die) (stack : Nat) : AMap (List Nat) := d.subDirs[stack % 3]'(Nat.mod_lt _ (by decide))

/-- Changes the subscription directories of a die's three home agents: a page has lines on every stack, so each agent holds an
entry for it (06 R146, 08 R183). -/
def Die.modSubDirs (d : Die) (f : AMap (List Nat) → AMap (List Nat)) : Die := { d with subDirs := d.subDirs.map f }

/-- The subscriber bents of the page of a physical address, as the home agent of its line holds them. -/
def State.subscribers (s : State) (pa : Nat) : List Nat := AMap.getD ((s.dieAt (homeOf pa)).subDir (stackOf pa)) (pa / 2 ^ 15) []

/-- The requests that wait at the home agent of a stack. -/
def Die.homeQueue (d : Die) (stack : Nat) : List (Nat × Nat) := d.homeQueues[stack % 3]'(Nat.mod_lt _ (by decide))

/-- Replaces the requests that wait at the home agent of a stack. -/
def Die.setHomeQueue (d : Die) (stack : Nat) (q : List (Nat × Nat)) : Die :=
  { d with homeQueues := d.homeQueues.set (stack % 3) q (Nat.mod_lt _ (by decide)) }

/-- Sends a push of masked bytes within one 256-byte line to every subscriber bent (08 R183). -/
def State.pushWrite (s : State) (pa n v mask : Nat) : State :=
  let line := pa / 256
  let o := pa % 256
  (s.subscribers pa).foldl (fun s b =>
    s.modBentAt b fun bt => { bt with pushes := bt.pushes ++
      [⟨line, BitVec.ofNat 2048 (v % 2 ^ (8 * n) * 2 ^ (8 * o)), BitVec.ofNat 256 (mask % 2 ^ n * 2 ^ o)⟩] }) s

/-- Changes the rehomings that move a page away; they stand at the home of their entry (21 R378). -/
def State.modRehomes (s : State) (page : Nat) (f : Rehome → Rehome) : State :=
  { s with dies := AMap.mapVals s.dies fun d =>
      if d.rehomes.isEmpty then d else { d with rehomes := d.rehomes.map fun r => if r.old = page then f r else r } }

/-- Marks a line in the rehomings that copy its page away (21 R379). -/
def State.markRehome (s : State) (pa : Nat) : State :=
  s.modRehomes (pa / 2 ^ 15) fun r => if r.marked.contains (pa / 256 % 128) then r else { r with marked := r.marked ++ [pa / 256 % 128] }

/-- The rehoming that moves a page away. -/
def State.rehomeOf (s : State) (page : Nat) : Option Rehome := s.dies.findSome? fun d => d.2.rehomes.find? fun r => r.old = page

/-- Whether the phase of a rehoming holds new writes. -/
def RehomePhase.isFinal : RehomePhase → Bool
  | .final _ => true
  | _ => false

/-- Performs a write of at most 256 bytes of one line at its home: memory, cleared poison of whole granules, taps,
pushes and rehoming marks. -/
def State.homePerform (s : State) (pa n v mask : Nat) : State :=
  let s1 := { s with
    mem := Memory.writeMasked s.mem pa n v mask
    poison := s.poison.filter fun g => !(decide (pa ≤ 8 * g) && decide (8 * g + 8 ≤ pa + n) && mask / 2 ^ (8 * g - pa) % 256 == 255) }
  let s2 := s1.tap s 0 0 pa n
  let s3 := if (s.subscribers pa).isEmpty then s2 else s2.pushWrite pa n v mask
  if (s.rehomeOf (pa / 2 ^ 15)).isSome then s3.markRehome pa else s3

/-- The value of an 8-byte entry after a masked write of n bytes at pa. -/
def State.entryAfter (s : State) (pa n v mask : Nat) : Nat :=
  Memory.readNat (Memory.writeMasked s.mem pa n v mask) (pa / 8 * 8) 8

/-- Whether a write asks for a rehome (21 R378): to a valid level-3 leaf, RH = 1, an installed frame of another die. -/
def State.isRehomeRequest (s : State) (pa n v mask : Nat) : Bool :=
  let old := s.memRead (pa / 8 * 8) 8
  let new := s.entryAfter pa n v mask
  match AMap.find? (s.dieAt (homeOf pa)).ptSharers (pa / 256) with
  | some l =>
    l.level == 3 && old / 2 ^ 62 == 3 && new / 2 ^ 62 == 3 && new / 2 ^ 55 % 4 == 1 && new / 2 ^ 48 % 128 == 0 && new % 2 ^ 15 == 0
      && installed (new % 2 ^ 48) && homeOf (new % 2 ^ 48) != homeOf (old % 2 ^ 48)
  | none => false

/-- Starts a rehoming if one of the 64 slots is free, else holds the request in arrival order (21 R378). -/
def State.startRehome (s : State) (pa n v mask : Nat) (source : Option (Nat × Nat)) : State :=
  let r : Rehome := { entry := pa / 8 * 8, value := BitVec.ofNat 64 (s.entryAfter pa n v mask),
                      old := s.memRead (pa / 8 * 8) 8 % 2 ^ 48 / 2 ^ 15, new := s.entryAfter pa n v mask % 2 ^ 48 / 2 ^ 15, source := source }
  s.modDieAt (homeOf pa) fun d =>
    if d.rehomes.length < 64 then { d with rehomes := d.rehomes ++ [r] } else { d with rehomeQueue := d.rehomeQueue ++ [r] }

/-- Whether a rehoming of an entry is under way: other stores to it wait. -/
def State.entryRehoming (s : State) (pa : Nat) : Bool :=
  let d := s.dieAt (homeOf pa)
  (d.rehomes ++ d.rehomeQueue).any fun r => r.entry = pa / 8 * 8

/-- Whether the home knows a line as a page-table line (08 R186). -/
def State.ptMarked (s : State) (pa : Nat) : Bool :=
  AMap.has (s.dieAt (homeOf pa)).ptSharers (pa / 256)

/-- A write that reaches its home (08 R186, 21 R376, R378, R379): a rehome request takes a slot, a write to a page-table
line waits until its sharers have dropped their translations, a write to a page in its final block is held, and any
other write is performed. -/
def State.homeWrite (s : State) (pa n v mask : Nat) (source : Option (Nat × Nat) := none) : State :=
  if s.isRehomeRequest pa n v mask && !s.entryRehoming pa then s.startRehome pa n v mask source
  else
    match AMap.find? (s.dieAt (homeOf pa)).ptSharers (pa / 256) with
    | some l =>
      let s1 := s.modDieAt (homeOf pa) fun d =>
        { d with ptWrites := d.ptWrites ++ [⟨pa, n, v, mask, l.sharers, source⟩] }
      l.sharers.foldl (fun s b => s.modBentAt b fun bt => { bt with ptInv := bt.ptInv ++ [pa / 256] }) s1
    | none =>
      match s.rehomeOf (pa / 2 ^ 15) with
      | some r =>
        if r.phase.isFinal then
          s.modRehomes (pa / 2 ^ 15) fun r => { r with held := r.held ++ [⟨pa, n, v, mask, [], source⟩] }
        else s.homePerform pa n v mask
      | none => s.homePerform pa n v mask

/-- Writes n bytes at a physical address, line by line. -/
def State.homeWriteLines (s : State) (pa : Nat) : Nat → Nat → Nat → State
  | 0, _, _ => s
  | k + 1, n, v =>
    if n = 0 then s
    else
      let m := Nat.min n (256 - pa % 256)
      State.homeWriteLines (s.homeWrite pa m v (fullMask m)) (pa + m) k (n - m) (v / 2 ^ (8 * m))

/-- Whether any 8-byte granule of a physical range is poisoned. -/
def State.poisoned (s : State) (pa n : Nat) : Bool :=
  s.poison.any fun g => decide (8 * g < pa + n) && decide (pa < 8 * g + 8)

/-- Whether a page is watched by an armed monitor (18 R336). -/
def State.watched (s : State) (page : Nat) : Bool :=
  s.bents.any fun b => b.2.monitors.any fun m => m.2.st = .armed &&
    m.2.ranges.any fun r => r.store = 0 && decide (r.base < (page + 1) * 2 ^ 15) && decide (page * 2 ^ 15 < r.base + r.len)

end Sys2Proof.Machine
end

