-- ==== Sys2Proof/Machine/Translate.lean ====
section
/-!
DEFINITION. Address translation (21 R368 to R377): table walks, their faults, the translation caches and the marks that
make a bent a sharer of page-table lines (08 R186).

Readings of the manual and choices that this file codes: assumption log 8, 50, 51.
-/
namespace Sys2Proof.Machine

open Sys2Proof

/-- How an access uses a page (21 table 21.2). -/
inductive PageUse where
  | load | store | fetch
deriving DecidableEq, Repr

/-- The number of a use in a miss-table entry. -/
def PageUse.code : PageUse → Nat
  | .load => 0 | .store => 1 | .fetch => 2

/-- The use of a number. -/
def PageUse.ofCode (n : Nat) : PageUse := if n = 0 then .load else if n = 1 then .store else .fetch

/-- The trap cause of a translation fault (21 R371). -/
def PageUse.cause : PageUse → BitVec 8
  | .load => 0x04 | .store => 0x05 | .fetch => 0x06

/-- The end of a walk: a leaf with its level, or the TINFO of the failing condition; the lines read with their levels, and the pointer entries on
the way to the leaf with theirs. -/
inductive WalkResult where
  | leaf (level : Nat) (pte : Word) (lines : List (Nat × Nat)) (ptrs : List (Nat × Word))
  | fault (tinfo : Nat) (lines : List (Nat × Nat))
deriving DecidableEq, Repr

/-- Index bits of a level (21 R368). -/
def levelShift (level : Nat) : Nat := if level = 1 then 39 else if level = 2 then 27 else 15

/-- The index of a virtual address at a level. -/
def levelIndex (level va : Nat) : Nat := if level = 1 then va / 2 ^ 39 % 512 else va / 2 ^ levelShift level % 4096

/-- Whether a valid entry is malformed (21 R370).  A request to rehome that stands in a table is one that R378 had performed as written. -/
def pteMalformed (level : Nat) (e : Nat) : Bool :=
  let leaf := e / 2 ^ 62 % 2 == 1
  (e / 2 ^ 48 % 128 != 0) || (e % 2 ^ 15 != 0) ||
  (if leaf then
     (e / 2 ^ 60 % 2 == 1 && e / 2 ^ 61 % 2 == 0) || e / 2 ^ 55 % 4 != 0 ||
     (level == 2 && e / 2 ^ 15 % 2 ^ 12 != 0) || (level == 1 && e / 2 ^ 15 % 2 ^ 24 != 0)
   else (e / 2 ^ 55 % 128 != 0) || level == 3)

/-- A frame or table that an access of a package can use: installed, in a package of the domain, and in another package
only with feature 9 (21 R369, 09 table 9.2). -/
def State.frameOk (s : State) (pkg pa : Nat) : Bool :=
  installed pa && (pa / 2 ^ 40 % 256 == pkg || (s.pkgAt pkg).feat.getLsbD 9)

/-- The physical address that a leaf of a level gives. -/
def leafPA (level : Nat) (pte : Word) (va : Nat) : Nat :=
  let sh := levelShift level
  pte.toNat % 2 ^ 48 / 2 ^ sh * 2 ^ sh + va % 2 ^ sh

/-- The fault of a leaf for a use, or 0 (21 table 21.2, kinds 3 to 6 and 8); engines check R and W only. -/
def State.leafFault (s : State) (pkg : Nat) (engine sup : Bool) (use : PageUse) (level : Nat) (pte : Word) (va : Nat) : Nat :=
  let bit (n : Nat) := pte.getLsbD n
  let k :=
    if use = .load && !bit 61 then 3
    else if use = .store && !bit 60 then 4
    else if use = .fetch && !engine && !bit 59 then 5
    else if !engine && !sup && bit 58 then 6
    else if !s.frameOk pkg (leafPA level pte va) then 8
    else 0
  if k = 0 then 0 else level * 16 + k

/-- A table walk: reads an entry at each level through the reader (none stands for an error reply or poison). -/
def State.walkFrom (s : State) (pkg : Nat) (read : Nat → Option Nat) (va : Nat) :
    Nat → Nat → Nat → List (Nat × Nat) → List (Nat × Word) → WalkResult
  | 0, level, _, lines, _ => .fault (level * 16 + 2) lines
  | k + 1, level, table, lines, ptrs =>
    if !s.frameOk pkg table then .fault (level * 16 + 8) lines
    else
      let a := table + 8 * levelIndex level va
      let lines' := lines ++ [(a / 256, level)]
      match read a with
      | none => .fault (level * 16 + 7) lines'
      | some e =>
        if e / 2 ^ 63 % 2 = 0 then .fault (level * 16 + 1) lines'
        else if pteMalformed level e then .fault (level * 16 + 2) lines'
        else if e / 2 ^ 62 % 2 = 1 then .leaf level (BitVec.ofNat 64 e) lines' ptrs
        else State.walkFrom s pkg read va k (level + 1) (e % 2 ^ 48 / 2 ^ 15 * 2 ^ 15) lines' (ptrs ++ [(level, BitVec.ofNat 64 e)])

/-- The L1 sector of a bent that holds dirty bytes of an address. -/
def State.dirtySector (s : State) (bent pa : Nat) : Option Sector :=
  (coresOfBent bent).findSome? fun k =>
    if (s.coreAt k).l1.isEmpty then none
    else
      (AMap.find? (s.coreAt k).l1 (pa / 256)).bind fun l =>
        let x := l.sec.toList.getD (pa / 64 % 4) {}
        if x.st = .m || x.st = .o || x.st = .omA || x.st = .miA then some x else none

/-- A byte that a bent holds dirty, in an L1D or in its L2. -/
def State.dirtyByte (s : State) (bent pa : Nat) : Option Nat :=
  match (s.dirtySector bent pa).filter fun x => x.dirty.getLsbD (pa % 64) with
  | some x => some (x.data.toNat / 2 ^ (8 * (pa % 64)) % 256)
  | none =>
    match (AMap.find? (s.bentAt bent).l2 (pa / 256)).filter fun l => l.dirty.getLsbD (pa % 256) with
    | some l => some (l.data.toNat / 2 ^ (8 * (pa % 256)) % 256)
    | none => none

/-- An entry as a bent's walker reads it: the home's bytes, so that a walk after a write to the entry sees it (08 R186), under the
bytes that the bent itself holds dirty; none stands for poison or an error reply. -/
def State.readEntry (s : State) (bent : Nat) (pa : Nat) : Option Nat :=
  let own := (List.range 8).map fun i => s.dirtyByte bent (pa + i)
  if s.poisoned pa 8 then none
  else
    match own.all Option.isSome, s.homeRoute bent pa with
    | false, .error _ => none
    | _, _ => some (packLanes 8 ((List.range 8).map fun i => (own.getD i none).getD (s.memRead (pa + i) 1)))

/-- Records a bent as sharer of the lines that a walk read (08 R186).  A write to such a line that waits for acknowledgements waits
for this bent too: it is sent the invalidation, so that no translation read before the write outlives it. -/
def State.markPt (s : State) (bent : Nat) (lines : List (Nat × Nat)) : State :=
  lines.foldl (fun s l =>
    let s1 := s.modDieAt (homeOf (l.1 * 256)) fun d =>
      let p := AMap.getD d.ptSharers l.1 ⟨l.2, []⟩
      { d with
        ptSharers := AMap.set d.ptSharers l.1 { level := l.2, sharers := if p.sharers.contains bent then p.sharers else p.sharers ++ [bent] }
        ptWrites := d.ptWrites.map fun w =>
          if w.addr / 256 = l.1 && !w.waiting.contains bent then { w with waiting := w.waiting ++ [bent] } else w }
    let again := (s.dieAt (homeOf (l.1 * 256))).ptWrites.any fun w => w.addr / 256 = l.1 && !w.waiting.contains bent
    s1.modBentAt bent fun b =>
      let b1 := match AMap.find? b.l2 l.1 with
        | some x => { b with l2 := AMap.set b.l2 l.1 { x with pt := true } }
        | none => b
      if again then { b1 with ptInv := b1.ptInv ++ [l.1] } else b1) s

/-- Looks a translation up in a list of leaves. -/
def tlbFind (l : List TlbEntry) (asid : BitVec 12) (va : Nat) : Option TlbEntry :=
  l.find? fun e => e.asid = asid && e.vtag == va / 2 ^ levelShift e.level

/-- Makes an entry the most recent of a cache of so many sets and ways, in which the entry of its set used least recently gives way (21 R374);
the set is taken from the page number (assumption log 50). -/
def tlbUse (l : List TlbEntry) (sets ways : Nat) (e : TlbEntry) : List TlbEntry :=
  let rest := l.filter (· != e)
  let mine (x : TlbEntry) : Bool := x.vtag % sets == e.vtag % sets
  e :: (rest.filter mine).take (ways - 1) ++ rest.filter fun x => !mine x

/-- Installs a leaf in a bent's L2 translation cache: 512 sets of 8 leaves (21 table 21.5). -/
def State.tlbInstall (s : State) (bent : Nat) (e : TlbEntry) : State :=
  s.modBentAt bent fun b => { b with tlb := tlbUse b.tlb 512 8 e }

/-- The cache entry for an entry that a walk read. -/
def mkTlb (asid : BitVec 12) (level : Nat) (pte : Word) (va : Nat) (lines : List (Nat × Nat)) : TlbEntry :=
  ⟨asid, level, va / 2 ^ levelShift level, pte, lines.map Prod.fst⟩

/-- The pointer entry of the highest level number that a bent's pointer cache holds for an address (21 R375). -/
def ptrFind (l : List TlbEntry) (asid : BitVec 12) (va : Nat) : Option TlbEntry :=
  tlbFind (l.filter fun e => e.level == 2) asid va <|> tlbFind (l.filter fun e => e.level == 1) asid va

/-- Installs the pointer entries of a walk in a bent's pointer cache of 256 entries, each with the lines that led to it (21 table 21.5). -/
def State.ptrInstall (s : State) (bent : Nat) (asid : BitVec 12) (va : Nat) (lines : List (Nat × Nat)) (ptrs : List (Nat × Word)) : State :=
  ptrs.foldl (fun s p => s.modBentAt bent fun b =>
    { b with ptrs := tlbUse b.ptrs 1 256 (mkTlb asid p.1 p.2 va (lines.filter fun l => decide (l.2 ≤ p.1))) }) s

/-- The walk of a bent from a root, or from the table that a cached pointer entry names (21 R370, R375). -/
def State.walk (s : State) (bent : Nat) (asid : BitVec 12) (root : Word) (va : Nat) : WalkResult :=
  match ptrFind (s.bentAt bent).ptrs asid va with
  | some e =>
    s.walkFrom (pkgOfBent bent) (s.readEntry bent) va (3 - e.level) (e.level + 1) (e.pte.toNat % 2 ^ 48 / 2 ^ 15 * 2 ^ 15) (e.lines.zip [1, 2])
      [(e.level, e.pte)]
  | none => s.walkFrom (pkgOfBent bent) (s.readEntry bent) va 3 1 (root.toNat % 2 ^ 48 / 2 ^ 12 * 2 ^ 12) [] []

/-- An answer of a translation for an engine: a physical address, or a TINFO. -/
inductive EngineXlat where
  | ok (pa : Nat)
  | fault (tinfo : Nat)
deriving DecidableEq, Repr

/-- Translation for an engine through the L2 translation cache of a bent (21 R374): a hit, or a walk within the step. -/
def State.engineXlat (s : State) (bent : Nat) (asid : BitVec 12) (root : Word) (use : PageUse) (va : Nat) : State × EngineXlat :=
  let pkg := pkgOfBent bent
  let hit := match tlbFind (s.bentAt bent).tlb asid va with
    | some e => if s.leafFault pkg true true use e.level e.pte va = 0 then some e else none
    | none => none
  match hit with
  | some e => (s.tlbInstall bent e, .ok (leafPA e.level e.pte va))
  | none =>
    match s.walk bent asid root va with
    | .leaf level pte lines ptrs =>
      let s1 := (s.markPt bent lines).ptrInstall bent asid va lines ptrs
      let k := s.leafFault pkg true true use level pte va
      if k = 0 then (s1.tlbInstall bent (mkTlb asid level pte va lines), .ok (leafPA level pte va)) else (s1, .fault k)
    | .fault t lines => (s.markPt bent lines, .fault t)

/-- Puts a translation into the load-pipe TLB of the truss of a quad: 32 sets of 4 (14 R267, 21 table 21.5). -/
def State.pipeInstall (s : State) (bent quad : Nat) (e : TlbEntry) : State :=
  s.modBentAt bent fun b => { b with trussTlb := b.trussTlb.mapIdx fun i l => if i = quad then tlbUse l 32 4 e else l }

/-- Translation of a read by the load pipes of a core's truss: a hit in their TLB, else through the L2 translation cache of the bent (14 R267). -/
def State.pipeXlat (s : State) (core : Nat) (asid : BitVec 12) (root : Word) (va : Nat) : State × EngineXlat :=
  let bent := bentOf core
  let quad := core % 16 / 4
  let hit := match tlbFind (((s.bentAt bent).trussTlb.toList)[quad]?.getD []) asid va with
    | some e => if s.leafFault (pkgOfBent bent) true true .load e.level e.pte va = 0 then some e else none
    | none => none
  match hit with
  | some e => (s.pipeInstall bent quad e, .ok (leafPA e.level e.pte va))
  | none =>
    match s.engineXlat bent asid root .load va with
    | (s1, .ok pa) =>
      (match tlbFind (s1.bentAt bent).tlb asid va with
       | some e => s1.pipeInstall bent quad e
       | none => s1, .ok pa)
    | r => r

/-- An answer of a translation for an instruction: a physical address and whether the leaf marks a table page, a fault, or
a wait for a walk. -/
inductive Xlat where
  | ok (pa : Nat) (tablePage : Bool)
  | fault (tinfo : Nat)
  | wait
deriving DecidableEq, Repr

/-- Attaches the current slot to the miss-table entry of a page, or takes a new one (21 R375). -/
def State.attachWalk (s : State) (use : PageUse) (va : Nat) : State :=
  let page := va / 2 ^ 15
  let u : WalkUser := ⟨s.cur, s.core.curSlot.val, use.code, s.slot.mode ≠ .task⟩
  s.modBent fun b =>
    if b.walks.any fun w => w.asid = s.ctx.asid && w.page == page then
      { b with walks := b.walks.map fun w =>
          if w.asid = s.ctx.asid && w.page == page && !(w.users.contains u) then { w with users := w.users ++ [u] } else w }
    else if b.walks.length < 1024 then { b with walks := b.walks ++ [{ asid := s.ctx.asid, root := s.ctx.ptroot, page := page, users := [u] }] }
    else { b with missRetry := b.missRetry ++ [(s.cur, s.core.curSlot.val, s.cycle + 16)] }

/-- Translation for the current slot (check 5 of 04 table 4.5).  Firmware without a context runs on physical addresses
(assumption log 8). -/
def State.translate (s : State) (use : PageUse) (va : Nat) : State × Xlat :=
  let page := va / 2 ^ 15
  let pkg := pkgOf s.cur
  if s.slot.ctx = none then (s, .ok (va % 2 ^ 48) false)
  else
    let asid := s.ctx.asid
    let sup := s.slot.mode ≠ .task
    let good (e : TlbEntry) := s.leafFault pkg false sup use e.level e.pte va = 0
    match s.slot.walkFault.filter (fun f => f.1 = page) with
    | some f => (s.modSlot fun sl => { sl with walkFault := none }, .fault f.2.toNat)
    | none =>
      match (tlbFind s.core.utlb asid va).filter good with
      | some e => (s.modCore fun c => { c with utlb := tlbUse c.utlb 1 32 e }, .ok (leafPA e.level e.pte va) (e.pte.getLsbD 57))
      | none =>
        let s1 := s.modCore fun c => c.count 0xF 1
        match (tlbFind s.bent.tlb asid va).filter good with
        | some e =>
          ((s1.tlbInstall (bentOf s.cur) e).modCore fun c => { c with utlb := tlbUse c.utlb 1 32 e },
           .ok (leafPA e.level e.pte va) (e.pte.getLsbD 57))
        | none => (s1.attachWalk use va, .wait)

/-- A slot without the words that it has fetched ahead, but for the word of an instruction that it is parked in. -/
def Slot.dropAhead (sl : Slot) : Slot :=
  { sl with ahead := if sl.parked then sl.ahead.map fun a => { a with pc := sl.pc, n := 1 } else none }

/-- A core without the translations that p selects and without words fetched ahead, which went through a translation. -/
def Core.dropXlat (c : Core) (p : TlbEntry → Bool) : Core :=
  { c with
    utlb := c.utlb.filter fun e => !p e
    slots := if c.slots.toList.all fun sl => sl.ahead.isNone then c.slots else c.slots.map Slot.dropAhead }

/-- Drops the translations that p selects from every cache of a bent. -/
def State.tlbDrop (s : State) (bent : Nat) (p : TlbEntry → Bool) : State :=
  let s1 := s.modBentAt bent fun b =>
    { b with
      tlb := b.tlb.filter (fun e => !p e)
      ptrs := b.ptrs.filter (fun e => !p e)
      trussTlb := if b.trussTlb.toList.all List.isEmpty then b.trussTlb else b.trussTlb.map fun t => t.filter fun e => !p e }
  (coresOfBent bent).foldl (fun s k =>
    if AMap.has s.cores k then s.modCoreAt k fun c => c.dropXlat p else s) s1

end Sys2Proof.Machine
end

