-- ==== Sys2Proof/Machine/Lines.lean ====
section
/-!
DEFINITION. Lines of the L1Ds and of the bent L2 (08), and the maintenance that fences, engines, atomics and evictions
perform on them in one step: recall, merge of updates, write-back, epoch (07 R157 to R159, 06 R147, R148).

Such a step takes place when the line is settled: no answer about it is under way and no directory entry of it is busy
(assumption log 9).

Readings of the manual and choices that this file codes: assumption log 9, 31, 35, 36, 42, 55, 121.
-/
namespace Sys2Proof.Machine

open Sys2Proof

/-- Replaces a sector of a line in a core's L1D. -/
def Core.setSector (c : Core) (sector : Nat) (x : Sector) : Core :=
  let l : L1Line := AMap.getD c.l1 (sector / 4) {}
  { c with l1 := AMap.set c.l1 (sector / 4) { l with sec := l.sec.set (sector % 4) x (Nat.mod_lt _ (by decide)) } }

/-- A sector of a core's L1D; a sector of an absent line is in I. -/
def Core.sector (c : Core) (sector : Nat) : Sector :=
  (AMap.getD c.l1 (sector / 4) {}).sec[sector % 4]'(Nat.mod_lt _ (by decide))

/-- Whether a sector state is one of table 8.1. -/
def SectorState.stable : SectorState → Bool
  | .i | .s | .e | .o | .m | .u => true
  | _ => false

/-- The sector of a message. -/
def UpMsg.sector : UpMsg → Nat
  | .rd x | .rdx x | .upg x | .wb x _ _ | .wt x _ _ _ | .ureg x | .umrg x _ _ _ | .frsp x _ _ _ | .iack x => x

/-- The sector of a message. -/
def DownMsg.sector : DownMsg → Nat
  | .dataS x _ _ | .dataE x _ _ | .dataM x _ _ | .grant x | .inv x | .urcl x | .fwdS x _ | .fwdX x _ | .wback x _ | .peer x _ _ _ => x

/-- Whether an upward message carries an answer or data that a recall of its line must wait for. -/
def UpMsg.pending : UpMsg → Bool
  | .wb _ _ _ | .wt _ _ _ _ | .umrg _ _ _ _ | .frsp _ _ _ _ | .iack _ => true
  | _ => false

/-- Whether a line is settled in a bent: no answer or data of it is on its way and no directory entry of it is busy.
Requests that the directory has not taken yet may stand. -/
def State.settled (s : State) (bent line : Nat) : Bool :=
  (coresOfBent bent).all (fun k =>
    let c := s.coreAt k
    c.toL2.all (fun m => m.2.sector / 4 != line || !m.2.pending) && (c.toL1 ++ c.heldL1).all (fun m => m.sector / 4 != line)) &&
  (match AMap.find? (s.bentAt bent).l2 line with
   | some l => l.dir.toList.all fun d => d.busy.isNone
   | none => true)

/-- Whether a line is settled and its directory entries hold no request. -/
def State.quiet (s : State) (bent line : Nat) : Bool :=
  s.settled bent line &&
  (match AMap.find? (s.bentAt bent).l2 line with
   | some l => l.dir.toList.all fun d => d.queue.isEmpty
   | none => true)

/-- Whether a line of the bent L2 is of the present epoch, or kept current by pushes (07 R159). -/
def Bent.current (b : Bent) (l : L2Line) : Bool := l.sub || (!l.old && l.epoch = b.epoch)

/-- Whether a bent L2 holds a line that an acquire has aged: an access to it misses (07 R159). -/
def State.aged (s : State) (bent line : Nat) : Bool :=
  match AMap.find? (s.bentAt bent).l2 line with
  | some l => !(s.bentAt bent).current l
  | none => false

/-- Whether a page is subscribed by a bent. -/
def State.subscribed (s : State) (bent page : Nat) : Bool := AMap.has (s.bentAt bent).subs page

/-- A line as the home supplies it, with the epoch of the fill. -/
def State.freshLine (s : State) (bent line : Nat) : L2Line :=
  { data := BitVec.ofNat 2048 (s.memRead (line * 256) 256)
    epoch := (s.bentAt bent).epoch
    sub := s.subscribed bent (line / 128)
    pt := ((AMap.getD (s.dieAt (homeOf (line * 256))).ptSharers line ⟨0, []⟩).sharers).contains bent
    watch := s.watched (line / 128) }

/-- Replaces a line of a bent L2. -/
def State.setL2 (s : State) (bent line : Nat) (l : L2Line) : State :=
  s.modBentAt bent fun b => { b with l2 := AMap.set b.l2 line l }

/-- Merges masked bytes into a number of n bytes. -/
def mergeBytes (old new mask : Nat) : Nat → Nat
  | 0 => 0
  | n + 1 => (if mask % 2 = 1 then new % 256 else old % 256) + 256 * mergeBytes (old / 256) (new / 256) (mask / 2) n

/-- Writes masked bytes into a line and marks them dirty. -/
def L2Line.put (l : L2Line) (o n v mask : Nat) : L2Line :=
  { l with
    data := BitVec.ofNat 2048 (mergeBytes l.data.toNat (v % 2 ^ (8 * n) * 2 ^ (8 * o)) (mask % 2 ^ n * 2 ^ o) 256)
    dirty := l.dirty ||| BitVec.ofNat 256 (mask % 2 ^ n * 2 ^ o) }

/-- Lists a line in the dirty-line list of 512 entries, or sets the overflow flag (07 R158). -/
def Bent.listDirty (b : Bent) (line : Nat) : Bent :=
  if b.dirtyList.contains line then b
  else if b.dirtyList.length < 512 then { b with dirtyList := b.dirtyList ++ [line] } else { b with dirtyOverflow := true }

/-- Writes masked bytes into a line that the bent L2 holds, lists it and marks the bytes dirty; the bytes of a line that has
left the L2 go to its home, as its eviction would send them. -/
def State.l2Put (s : State) (bent line o n v mask : Nat) : State :=
  match AMap.find? (s.bentAt bent).l2 line with
  | some l => s.modBentAt bent fun b => { b with l2 := AMap.set b.l2 line (l.put o n v mask) }.listDirty line
  | none => s.homeWrite (line * 256 + o) n v mask

/-- An update on a value (04 R100): size 8 or 4 bytes, FADD in FP64 or FP32. -/
def updValue (op : UpdOp) (dbl : Bool) (old x : Nat) : Nat :=
  let w := if dbl then 64 else 32
  let f := if dbl then Fmt.fp64 else .fp32
  match op with
  | .add => (old + x) % 2 ^ w
  | .fadd => roundF f .rne (addF .rne (decodeF f (old % 2 ^ w)) (decodeF f (x % 2 ^ w)))
  | .min => intLane .min w (old % 2 ^ w) (x % 2 ^ w)
  | .max => intLane .max w (old % 2 ^ w) (x % 2 ^ w)
  | .or => Nat.lor (old % 2 ^ w) (x % 2 ^ w)
  | .and => Nat.land (old % 2 ^ w) (x % 2 ^ w)

/-- Bytes of a line as the bent L2 holds them, or as its home does. -/
def State.l2Read (s : State) (bent pa n : Nat) : Nat :=
  match AMap.find? (s.bentAt bent).l2 (pa / 256) with
  | some l => l.data.toNat / 2 ^ (8 * (pa % 256)) % 2 ^ (8 * n)
  | none => s.memRead pa n

/-- Whether n bytes of memory are poisoned and the bent does not hold them dirty, so that a read of them through it takes the poison. -/
def State.poisonedIn (s : State) (bent pa n : Nat) : Bool :=
  s.poisoned pa n && !(List.range n).all fun i => (s.dirtyByte bent (pa + i)).isSome

/-- Applies partial results of a core to a line of the bent L2, each as one step, and marks the bytes dirty (08 R181).  A line that the
home keeps current takes them at the home (08 R174).  An update of poisoned data has no effect and leaves a posted error (04 R102). -/
def State.applyParts (s : State) (bent core line base : Nat) (op : UpdOp) (dbl : Bool) (parts : List Partial) : State :=
  let n := if dbl then 8 else 4
  let sub := match AMap.find? (s.bentAt bent).l2 line with
    | some l => l.sub
    | none => false
  parts.foldl (fun s p =>
    let pa := line * 256 + base + p.off
    if s.poisonedIn bent pa n then p.slots.foldl (fun s k => s.postedError core k Cause.mce (BitVec.ofNat 64 pa)) s
    else if sub then s.homeWrite pa n (updValue op dbl (s.memRead pa n) p.value.toNat) (fullMask n)
    else s.l2Put bent line (base + p.off) n (updValue op dbl (s.l2Read bent pa n) p.value.toNat) (fullMask n)) s

/-- The cores of a bent in increasing COREID.PHYS (08 R177). -/
def State.byPhys (s : State) (bent : Nat) : List Nat :=
  (List.range 17).filterMap fun p => (coresOfBent bent).find? fun k => (s.coreAt k).phys.toNat == p

/-- Whether a sector holds dirty bytes. -/
def SectorState.dirty : SectorState → Bool
  | .m | .o | .omA | .miA => true
  | _ => false

/-- The state of a sector after a recall: what it held is gone, and a request on its way goes on as after an
invalidation (08 tables 8.3 and 8.4); answered tells that the data of a read is on its way. -/
def Sector.recalled (x : Sector) (answered : Bool) : Sector :=
  match x.st with
  | .s | .e | .o | .m | .u => { st := .i }
  | .smA | .omA => { x with st := .imAD, data := 0, dirty := 0 }
  | .miA => { x with st := .iiA, dirty := 0 }
  | .isD => { x with invalidated := x.invalidated || answered }
  | .i | .imAD | .iiA | .uiA => x

/-- Drops a line of an L1D whose sectors are all in I. -/
def Core.tidy (c : Core) (line : Nat) : Core :=
  match AMap.find? c.l1 line with
  | some l => if l.sec.toList.all fun x => x.st = .i && x.held.isEmpty then { c with l1 := AMap.erase c.l1 line } else c
  | none => c

/-- Applies a recall to a sector of an L1D that lists its line. -/
def Core.recallL1 (c : Core) (sector : Nat) : Core :=
  if AMap.has c.l1 (sector / 4) then
    (c.setSector sector ((c.sector sector).recalled (c.toL1.any fun m => m.sector == sector))).tidy (sector / 4)
  else c

/-- Replaces the directory entry of a sector of a held line. -/
def State.setDir (s : State) (bent sector : Nat) (d : DirEntry) : State :=
  s.modBentAt bent fun b =>
    match AMap.find? b.l2 (sector / 4) with
    | some l => { b with l2 := AMap.set b.l2 (sector / 4) { l with dir := l.dir.set (sector % 4) d (Nat.mod_lt _ (by decide)) } }
    | none => b

/-- The directory entry of a sector; a line that the L2 does not hold has an empty one. -/
def State.dirOf (s : State) (bent sector : Nat) : DirEntry :=
  match AMap.find? (s.bentAt bent).l2 (sector / 4) with
  | some l => l.dir[sector % 4]'(Nat.mod_lt _ (by decide))
  | none => {}

/-- Whether a message registers a U holder of a sector. -/
def UpMsg.registers (sector : Nat) : UpMsg → Bool
  | .ureg x => x == sector
  | _ => false

/-- Takes back the registration of a U holder whose partials have been taken before the directory saw it. -/
def State.dropUreg (s : State) (core sector : Nat) : State :=
  let bent := bentOf core
  let d := s.dirOf bent sector
  ((s.modCoreAt core fun c => { c with toL2 := c.toL2.filter fun m => !m.2.registers sector }).modBentAt bent fun b =>
    { b with missq := b.missq.filter fun q => !(q.1 == core && q.2.registers sector) }).setDir bent sector
      { d with queue := d.queue.filter fun q => !(q.1 == core && q.2.registers sector) }

/-- Recalls every L1 copy of a sector of a settled line into the bent L2: dirty bytes first, then the updates in increasing
position, each as one step (06 R145, R148, 08 R181); afterwards no L1 of the bent holds a value of the sector. -/
def State.recallSector (s : State) (bent sector : Nat) : State :=
  let line := sector / 4
  let holders := (coresOfBent bent).filter fun k => AMap.has (s.coreAt k).l1 line
  let s1 := holders.foldl (fun s k =>
    let x := (s.coreAt k).sector sector
    if x.st.dirty then s.l2Put bent line (64 * (sector % 4)) 64 x.data.toNat x.dirty.toNat else s) s
  let s2 := ((s.byPhys bent).filter fun k => ((s.coreAt k).sector sector).st = .u).foldl (fun s k =>
    let x := (s.coreAt k).sector sector
    (s.applyParts bent k line (64 * (sector % 4)) x.op x.dbl x.parts).dropUreg k sector) s1
  let s3 := holders.foldl (fun s k => s.modCoreAt k fun c => c.recallL1 sector) s2
  s3.setDir bent sector { queue := (s3.dirOf bent sector).queue, takenAt := (s3.dirOf bent sector).takenAt }

/-- Recalls every L1 sector of a settled line into the bent L2 and merges its updates (06 R145, R147). -/
def State.recallLine (s : State) (bent line : Nat) : State :=
  if (coresOfBent bent).all fun k => !(AMap.has (s.coreAt k).l1 line) then s
  else (List.range 4).foldl (fun s i => s.recallSector bent (line * 4 + i)) s

/-- Writes the dirty sectors of a line in one core's L1D into the bent L2; the sectors stay valid, and clean (07 R165). -/
def State.cleanFrom (s : State) (bent core line : Nat) : State :=
  (List.range 4).foldl (fun s i =>
    let sector := line * 4 + i
    let x := (s.coreAt core).sector sector
    let put (st : SectorState) := (s.l2Put bent line (64 * i) 64 x.data.toNat x.dirty.toNat).modCoreAt core fun c =>
      c.setSector sector { x with st := st, dirty := 0 }
    let share (s : State) : State :=
      let d := s.dirOf bent sector
      s.setDir bent sector { d with st := .shared, sharers := (d.sharers ++ [core]).eraseDups }
    match x.st with
    | .m => put .e
    | .o => share (put .s)
    | .omA => share (put .smA)
    | _ => s) s

/-- Invalidates a line in one core's L1D; a dirty sector goes to the bent L2 first, and updates are merged (07 R165). -/
def State.dropFrom (s : State) (bent core line : Nat) : State :=
  (List.range 4).foldl (fun s i =>
    let sector := line * 4 + i
    let x := (s.coreAt core).sector sector
    let gone (s : State) : State := s.modCoreAt core fun c => c.recallL1 sector
    let forget (s : State) : State :=
      let d := s.dirOf bent sector
      let rest := d.sharers.filter (· != core)
      s.setDir bent sector { d with st := if rest.isEmpty then .none else .shared, sharers := rest }
    match x.st with
    | .m | .o | .omA => forget (gone (s.l2Put bent line (64 * i) 64 x.data.toNat x.dirty.toNat))
    | .smA => forget (gone s)
    | .s | .e | .isD => gone s
    | .u => s.recallSector bent sector
    | _ => s) s

/-- Writes the dirty bytes of a line of the bent L2 to its home and takes it off the list (07 R158).  Bytes whose home has
no path are lost and logged (22 R390, R391).  A clean line of a watched page carries WATCH from then on (18 R336, R337). -/
def State.writeBack (s : State) (bent line : Nat) : State :=
  match AMap.find? (s.bentAt bent).l2 line with
  | some l =>
    let s1 := if l.dirty = 0 then s
      else
        match s.homeRoute bent (line * 256) with
        | .error _ => s.logLink (dieOfBent bent) (s.failedLink (dieOfBent bent) (homeOf (line * 256))) 6 1 0
        | _ => s.homeWrite (line * 256) 256 l.data.toNat l.dirty.toNat
    s1.modBentAt bent fun b =>
      { b with
        l2 := AMap.set b.l2 line { l with dirty := 0, watch := l.watch || s.watched (line / 128) }
        dirtyList := b.dirtyList.filter (· != line) }
  | none => s

/-- Cleans a line: recalls it and writes its dirty bytes to the home; the line stays in the bent L2. -/
def State.cleanLine (s : State) (bent line : Nat) : State := (s.recallLine bent line).writeBack bent line

/-- Invalidates a line in a bent: dirty bytes go to the home first. -/
def State.dropLine (s : State) (bent line : Nat) : State :=
  (s.cleanLine bent line).modBentAt bent fun b => { b with l2 := AMap.erase b.l2 line }

/-! ### Fills -/

/-- A push reaches a bent L2 (08 R183): it updates a line of a subscribed page that the L2 holds, after every L1 copy of its
sectors is invalidated, as one step; otherwise it is dropped. -/
def State.applyPush (s : State) (bent : Nat) (p : Push) : State :=
  match AMap.find? (s.bentAt bent).l2 p.line with
  | some l =>
    if s.subscribed bent (p.line / 128) then
      let s1 := (coresOfBent bent).foldl (fun s k =>
        if AMap.has (s.coreAt k).l1 p.line then
          s.modCoreAt k fun c => (List.range 4).foldl (fun c i =>
            let x := c.sector (p.line * 4 + i)
            if x.st = .s || x.st = .isD then c.recallL1 (p.line * 4 + i) else c) c
        else s) s
      s1.setL2 bent p.line { l.put 0 256 p.data.toNat (p.mask &&& ~~~l.dirty).toNat with dirty := l.dirty }
    else s
  | none => s

/-- The pushes of a home that are on their way to a bent arrive before a fill reply of that home (08 R183: one ordered channel). -/
def State.drainPushes (s : State) (bent home : Nat) : State :=
  let here (p : Push) : Bool := homeOf (p.line * 256) == home
  if (s.bentAt bent).pushes.any here then
    ((s.bentAt bent).pushes.filter here).foldl (fun s p => s.applyPush bent p)
      (s.modBentAt bent fun b => { b with pushes := b.pushes.filter fun p => !here p })
  else s

/-- Fills a line of a bent L2 from its home. -/
def State.fillLine (s : State) (bent line : Nat) : State :=
  let s1 := s.drainPushes bent (homeOf (line * 256))
  s1.setL2 bent line (s1.freshLine bent line)

/-- Whether a line can leave the bent L2 now: it is quiet, and its home can be written. -/
def State.evictable (s : State) (bent line : Nat) : Bool := s.quiet bent line && s.homeRoute bent (line * 256) ≠ .wait

/-- The lines of the set of a line that the bent L2 holds: 16 ways of 1,024 sets (06 R145). -/
def State.l2Set (s : State) (bent line : Nat) : List Nat := AMap.keys ((s.bentAt bent).l2.filter fun p => p.1 % 1024 == line % 1024)

/-- Makes a free way for a line in its set of the bent L2 by evicting a line (06 R145, 08 R182); which one the manual leaves open
(assumption log 31).  None while no line of the set can be evicted. -/
def State.l2Room (s : State) (bent line : Nat) : Option State :=
  let set := s.l2Set bent line
  if set.length < 16 then some s
  else
    match set.filter (s.evictable bent) with
    | [] => none
    | v :: vs => some ((s.dropLine bent ((v :: vs).getD ((Config.freeValue s.fresh).toNat % (vs.length + 1)) v)).bump)

/-- Makes sure that the bent L2 holds a line, if a way of its set is free or can be freed. -/
def State.l2Ensure (s : State) (bent line : Nat) : State :=
  match AMap.find? (s.bentAt bent).l2 line with
  | some _ => s
  | none =>
    match s.l2Room bent line with
    | some s1 => s1.fillLine bent line
    | none => s

/-- Makes the bent L2 hold a current copy of a line with no L1 copies: a non-subscribed line of an older epoch is
written back and filled again (07 R159). -/
def State.l2Current (s : State) (bent line : Nat) : State :=
  let s1 := s.recallLine bent line
  if s1.aged bent line then (s1.dropLine bent line).l2Ensure bent line else s1.l2Ensure bent line

/-- Whether a sector of an L1D holds dirty bytes or can be about to receive some from another L1. -/
def SectorState.mayDirty : SectorState → Bool
  | .m | .o | .omA | .miA | .imAD => true
  | _ => false

/-- The lines with dirty bytes in a core's L1D, or that can be about to receive some. -/
def Core.dirtyL1 (c : Core) : List Nat := AMap.keys (c.l1.filter fun p => p.2.sec.toList.any fun x => x.st.mayDirty)

/-- The lines of a bent that hold dirty bytes: the listed ones (all, after an overflow) and those dirty in an L1, in a write-back
buffer or on their way between two L1s. -/
def State.dirtyLines (s : State) (bent : Nat) : List Nat :=
  let b := s.bentAt bent
  let listed := if b.dirtyOverflow then b.l2.keys else b.dirtyList
  let inL1 := (coresOfBent bent).flatMap fun k => (s.coreAt k).dirtyL1
  (listed ++ inL1).eraseDups

/-- The lines with update-only sectors in a core's L1D, those whose partials are on their way to the L2 among them. -/
def Core.updLines (c : Core) : List Nat :=
  AMap.keys (c.l1.filter fun p => p.2.sec.toList.any fun x => x.st = .u || x.st = .uiA)

/-- Whether a release at die scope or wider by a core can clean its bent now. -/
def State.cleanReady (s : State) (core : Nat) : Bool :=
  (s.dirtyLines (bentOf core) ++ (s.coreAt core).updLines).all fun l =>
    s.quiet (bentOf core) l && s.homeRoute (bentOf core) (l * 256) ≠ .wait

/-- The cache part of a release at die scope or wider (07 table 7.2): the core's updates are merged, then every dirty line
of the bent is written to its home. -/
def State.cleanBent (s : State) (core : Nat) : State :=
  let bent := bentOf core
  let s1 := ((s.coreAt core).updLines).foldl (fun s l => s.recallLine bent l) s
  let s2 := (s1.dirtyLines bent).foldl (fun s l => s.cleanLine bent l) s1
  s2.modBentAt bent fun b => { b with dirtyOverflow := false }

/-- The lines that a release by a core cleans and whose homes have no path: it loses their bytes (07 R161). -/
def State.lostLines (s : State) (core : Nat) : List Nat :=
  ((s.coreAt core).updLines ++ s.dirtyLines (bentOf core)).eraseDups.filter fun l => s.homeRoute (bentOf core) (l * 256) = .error 3

/-- The update part of a release at bent scope: the core's U sectors are merged (08 R181). -/
def State.mergeUpdates (s : State) (core : Nat) : State :=
  ((s.coreAt core).updLines).foldl (fun s l => s.recallLine (bentOf core) l) s

/-- Writes the dirty sectors of a core's L1D into the bent L2 (07 R169). -/
def State.cleanOwn (s : State) (core : Nat) : State := (s.coreAt core).dirtyL1.foldl (fun s l => s.cleanFrom (bentOf core) core l) s

/-- Invalidates the clean sectors of non-subscribed lines of a core's L1D (07 table 7.2); the data of a read that is under way
serves the load that waits for it and is not kept. -/
def State.dropClean (s : State) (core : Nat) : State :=
  let kept (n : Nat) (l : L1Line) := l.sub && s.subscribed (bentOf core) (n / 128)
  let clean (x : Sector) : Sector :=
    if x.st = .s || x.st = .e then { x with st := .i } else if x.st = .isD then { x with invalidated := true } else x
  s.modCoreAt core fun c => { c with l1 := AMap.mapKeyed c.l1 fun n l => if kept n l then l else { l with sec := l.sec.map clean } }

/-- Whether a line of the bent L2 can be invalidated at the wrap of the epoch: clean, without a dirty sector in an L1, and
quiet. -/
def State.cleanAtWrap (s : State) (bent line : Nat) (l : L2Line) : Bool :=
  l.dirty = 0 && s.quiet bent line &&
    (coresOfBent bent).all fun k => match AMap.find? (s.coreAt k).l1 line with
      | some x => x.sec.toList.all fun y => !y.st.mayDirty
      | none => true

/-- Advances the epoch of a bent L2 (07 R159): at the wrap every clean non-subscribed line is invalidated first, with its L1
copies and its updates merged; a line that stays, because it is dirty or under way, is marked as older than every epoch to
come. -/
def State.advanceEpoch (s : State) (bent : Nat) : State :=
  let b := s.bentAt bent
  if b.epoch = 0xFF then
    let s1 := (b.l2.filter fun p => !p.2.sub && s.cleanAtWrap bent p.1 p.2).foldl (fun s p => s.dropLine bent p.1) s
    s1.modBentAt bent fun b => { b with epoch := 0, l2 := AMap.mapVals b.l2 fun l => if l.sub then l else { l with old := true } }
  else s.modBentAt bent fun b => { b with epoch := b.epoch + 1 }

/-- The cache part of an acquire at die scope or wider. -/
def State.ageBent (s : State) (core : Nat) : State := (s.dropClean core).advanceEpoch (bentOf core)

/-- Bytes as an engine of a bent reads them (06 R147): from the bent L2 if it holds the line or its L1s do, else from the
home. -/
def State.engineRead (s : State) (bent pa : Nat) : Nat → Nat
  | 0 => 0
  | n + 1 =>
    (match AMap.find? (s.bentAt bent).l2 (pa / 256) with
     | some l => l.data.toNat / 2 ^ (8 * (pa % 256)) % 256
     | none => s.memRead pa 1) + 256 * State.engineRead s bent (pa + 1) n

/-- The lines that n bytes at pa touch. -/
def linesOf (pa n : Nat) : List Nat :=
  if n = 0 then [] else (List.range ((pa + n - 1) / 256 - pa / 256 + 1)).map (pa / 256 + ·)

/-- Whether the lines of a range are quiet in a bent. -/
def State.quietRange (s : State) (bent pa n : Nat) : Bool := (linesOf pa n).all fun l => s.quiet bent l

end Sys2Proof.Machine
end

