-- ==== Sys2Proof/Machine/Cache.lean ====
section
/-!
DEFINITION. The L1D of a core (08 R173, R174, tables 8.1, 8.3, 8.4): hits, requests, held accesses and evictions.

Readings of the manual and choices that this file codes: assumption log 31, 37.
-/
namespace Sys2Proof.Machine

open Sys2Proof

/-- Ways of the L1D that the spill yard leaves (06 R144). -/
def Core.ways (c : Core) : Nat := 8 - (if c.yard = 0 then 0 else 2 ^ (c.yard.toNat - 1))

/-- A sector that takes up its line's way: not in I, and not in a write-back buffer. -/
def Sector.occupies (x : Sector) : Bool :=
  match x.st with
  | .i | .miA | .iiA => !x.held.isEmpty
  | .uiA => !x.held.isEmpty
  | _ => true

/-- Whether a line takes up a way. -/
def L1Line.occupies (l : L1Line) : Bool := l.sec.toList.any Sector.occupies

/-- Sends a message to the directory in a cycle. -/
def Core.sendUp (c : Core) (t : Nat) (m : UpMsg) : Core := { c with toL2 := c.toL2 ++ [(t, m)] }

/-- Split-phase accesses of a core that are outstanding (06 R141): requests that left it, and L1D misses. -/
def Core.outstanding (c : Core) : Nat :=
  c.requests.length + ((c.l1.flatMap fun p => p.2.sec.toList).filter fun x => x.st = .isD || x.st = .imAD).length

/-- Whether a core can send n more requests (06 R141). -/
def Core.roomFor (c : Core) (n : Nat) : Bool := n == 0 || decide (c.outstanding + n ≤ 64)

/-- Evicts one sector (08 table 8.3). -/
def Core.evictSector (c : Core) (t sector : Nat) : Core :=
  let x := c.sector sector
  match x.st with
  | .s | .e => c.setSector sector {}
  | .m | .o => (c.setSector sector { x with st := .miA }).sendUp t (.wb sector x.data x.dirty)
  | .u => (c.setSector sector { x with st := .uiA }).sendUp t (.umrg sector x.op x.dbl x.parts)
  | _ => c

/-- Evicts a line: all four of its sectors (08 R173). -/
def Core.evictLine (c : Core) (t line : Nat) : Core :=
  ((List.range 4).foldl (fun c i => c.evictSector t (line * 4 + i)) c).tidy line

/-- The lines of a set that take up ways. -/
def Core.setLines (c : Core) (set : Nat) : List Nat :=
  AMap.keys (c.l1.filter fun p => p.1 % 32 == set && p.2.occupies)

/-- The least recently used line of a set whose sectors are all stable (06 R143). -/
def Core.l1Victim (c : Core) (set : Nat) : Option Nat :=
  ((c.setLines set).filter fun n => (AMap.getD c.l1 n {}).sec.toList.all fun x => x.st.stable && x.held.isEmpty).foldl
    (fun best n => match best with
      | some m => if (AMap.getD c.l1 n {}).used < (AMap.getD c.l1 m {}).used then some n else best
      | none => some n) none

/-- The lowest way of a set that no line takes up, outside the spill yard (06 R144: the yard takes the highest ways). -/
def Core.freeWay (c : Core) (set : Nat) : Option Nat :=
  (List.range c.ways).find? fun w => !(c.setLines set).any fun n => (AMap.getD c.l1 n {}).way == w

/-- Lists a line in a way. -/
def Core.placeLine (c : Core) (line way : Nat) : Core :=
  { c with l1 := AMap.set c.l1 line { AMap.getD c.l1 line {} with way := way } }

/-- Makes room for a line; none if every way of its set is in use by a request. -/
def Core.allocate (c : Core) (t line : Nat) : Option Core :=
  if (AMap.getD c.l1 line {}).occupies then some c
  else
    match c.freeWay (line % 32), c.l1Victim (line % 32) with
    | some w, _ => some (c.placeLine line w)
    | none, some v => some ((c.evictLine t v).placeLine line (AMap.getD c.l1 v {}).way)
    | none, none => none

/-- Marks a line as the most recently used. -/
def Core.touch (c : Core) (line : Nat) : Core :=
  match AMap.find? c.l1 line with
  | some l => { c with l1 := AMap.set c.l1 line { l with used := c.l1clock + 1 }, l1clock := c.l1clock + 1 }
  | none => c

/-- Merges masked bytes into a sector's data. -/
def mergeVec (old new : Vec) (mask : BitVec 64) : Vec := BitVec.ofNat 512 (mergeBytes old.toNat new.toNat mask.toNat 64)

/-- Bytes of a sector. -/
def vecBytes (v : Vec) (off n : Nat) : Nat := v.toNat / 2 ^ (8 * off) % 2 ^ (8 * n)

/-- Adds a partial result of a slot to a U sector, combining with one at the same offset (04 R101). -/
def addPartial (op : UpdOp) (dbl : Bool) (off : Nat) (v : Word) (slot : Nat) : List Partial → List Partial
  | [] => [⟨off, v, [slot]⟩]
  | p :: r =>
    if p.off = off then ⟨off, BitVec.ofNat 64 (updValue op dbl p.value.toNat v.toNat), (p.slots ++ [slot]).eraseDups⟩ :: r
    else p :: addPartial op dbl off v slot r

/-- A store of masked bytes to a sector by a slot in cycle t (08 table 8.3): done, or held by a request; none if the sector is in a
transient state, no way is free or 64 requests are outstanding. -/
def Core.storeSector (c : Core) (t sector slot : Nat) (data : Vec) (mask : BitVec 64) : Option Core :=
  let x := c.sector sector
  let line := sector / 4
  let sub := (AMap.getD c.l1 line {}).sub
  let hold (st : SectorState) (m : UpMsg) : Option Core :=
    some (((c.setSector sector { x with st := st, held := [.store slot data mask] }).sendUp t m).touch line)
  match x.st with
  | .m => some ((c.setSector sector { x with data := mergeVec x.data data mask, dirty := x.dirty ||| mask }).touch line)
  | .e => some ((c.setSector sector { x with st := .m, data := mergeVec x.data data mask, dirty := mask }).touch line)
  | .s =>
    if sub then some (((c.setSector sector { x with data := mergeVec x.data data mask }).sendUp t (.wt sector slot data mask)).touch line)
    else hold .smA (.upg sector)
  | .o => hold .omA (.upg sector)
  | .u => hold .uiA (.umrg sector x.op x.dbl x.parts)
  | .i =>
    if sub then some (c.sendUp t (.wt sector slot data mask))
    else if !c.roomFor 1 then none
    else (c.allocate t line).map fun c =>
      (((c.setSector sector { st := .imAD, held := [.store slot data mask] }).sendUp t (.rdx sector)).touch line).count 0x3 1
  | _ => none

/-- Sends an E, M or O sector whose line an acquire has aged back to the bent L2, so that the access that met it misses (07 R159). -/
def Core.sendBack (c : Core) (t sector : Nat) (held : List HeldOp) : Core :=
  let x := c.sector sector
  if x.st = .e then (c.setSector sector { held := held }).tidy (sector / 4)
  else (c.setSector sector { x with st := .miA, held := held }).sendUp t (.wb sector x.data x.dirty)

/-- An update on a sector by a slot in cycle t (08 table 8.3); aged tells that the bent L2 holds its line in an older epoch. -/
def Core.updSector (c : Core) (t sector slot : Nat) (aged : Bool) (op : UpdOp) (dbl : Bool) (off : Nat) (v : Word) : Option Core :=
  let x := c.sector sector
  let line := sector / 4
  let n := if dbl then 8 else 4
  let inPlace : Core :=
    let r := updValue op dbl (vecBytes x.data off n) v.toNat
    let mask := BitVec.ofNat 64 (fullMask n * 2 ^ off)
    c.setSector sector { x with st := .m, data := mergeVec x.data (BitVec.ofNat 512 (r * 2 ^ (8 * off))) mask, dirty := x.dirty ||| mask }
  let register (c : Core) : Core :=
    ((c.setSector sector { st := .u, op := op, dbl := dbl, parts := [⟨off, v, [slot]⟩] }).sendUp t (.ureg sector)).touch line
  match x.st with
  | .m => some (if aged then c.sendBack t sector [.upd slot op dbl off v] else inPlace.touch line)
  | .e => if aged then some (register c) else some (inPlace.touch line)
  | .i => (c.allocate t line).map register
  | .s => some (register c)
  | .o => some (c.sendBack t sector [.upd slot op dbl off v])
  | .u =>
    if x.op = op ∧ x.dbl = dbl then some ((c.setSector sector { x with parts := addPartial op dbl off v slot x.parts }).touch line)
    else some (((c.setSector sector { x with st := .uiA, held := [.upd slot op dbl off v] }).sendUp t (.umrg sector x.op x.dbl x.parts)).touch line)
  | _ => none

/-- Performs the access that a sector held until it left its transient. -/
def Core.runHeld (c : Core) (t sector : Nat) : Core :=
  let x := c.sector sector
  let c0 := c.setSector sector { x with held := [] }
  match x.held with
  | .store slot data mask :: _ => ((c0.storeSector t sector slot data mask).getD c).tidy (sector / 4)
  | .upd slot op dbl off v :: _ => ((c0.updSector t sector slot false op dbl off v).getD c).tidy (sector / 4)
  | [] => c0.tidy (sector / 4)

/-- The slot of a held access. -/
def HeldOp.slot : HeldOp → Nat
  | .store n _ _ => n
  | .upd n _ _ _ _ => n

/-- Whether a slot of a core has a store in the L1D that is not yet in the coherence order of the bent. -/
def Core.storesHeld (c : Core) (slot : Nat) : Bool :=
  c.l1.any fun p => p.2.sec.toList.any fun x => x.held.any fun h => h.slot == slot

/-- Whether a slot of a core has write-throughs on their way to the bent L2. -/
def Core.writeThroughs (c : Core) (slot : Nat) : Bool :=
  c.toL2.any fun m => match m.2 with
    | .wt _ n _ _ => n == slot
    | _ => false

/-- Whether write-throughs of a slot wait at the directory of its bent. -/
def State.throughWaits (s : State) (core slot : Nat) : Bool :=
  let mine (q : Nat × UpMsg) : Bool := q.1 == core && match q.2 with
    | .wt _ n _ _ => n == slot
    | _ => false
  (s.bentAt (bentOf core)).missq.any mine ||
    (s.bentAt (bentOf core)).l2.any fun l => l.2.dir.toList.any fun d => d.queue.any mine

/-- Whether a slot of a core waits for the data of a load that its L1D has asked for (06 R142). -/
def Core.fillOpen (c : Core) (slot : Nat) : Bool :=
  c.l1.any fun p => p.2.sec.toList.any fun x => x.st = .isD && x.loaders.contains slot

/-- Whether a line of a core's L1D has a held access. -/
def Core.lineHeld (c : Core) (line : Nat) : Bool :=
  match AMap.find? c.l1 line with
  | some l => l.sec.toList.any fun x => !x.held.isEmpty
  | none => false

/-- A load of n bytes of one sector by the current slot (08 table 8.3): the bytes, or none while it waits.  A copy whose line an
acquire has aged in the bent L2 is sent back, and the load misses (07 R159). -/
def State.l1Load (s : State) (pa n : Nat) : State × Option Nat :=
  let sector := pa / 64
  let x := s.core.sector sector
  let slot := s.core.curSlot.val
  match AMap.find? s.slot.fill sector with
  | some d => (s, some (vecBytes d (pa % 64) n))
  | none =>
    match x.st with
    | .s => (s.modCore fun c => c.touch (sector / 4), some (vecBytes x.data (pa % 64) n))
    | .e | .o | .m =>
      if s.aged (bentOf s.cur) (sector / 4) then (s.modCore fun c => c.sendBack s.cycle sector [], none)
      else (s.modCore fun c => c.touch (sector / 4), some (vecBytes x.data (pa % 64) n))
    | .i =>
      if !s.core.roomFor 1 then (s, none)
      else
        match s.core.allocate s.cycle (sector / 4) with
        | some c =>
          (s.modCore fun _ =>
            (((c.setSector sector { st := .isD, loaders := [slot] }).sendUp s.cycle (.rd sector)).touch (sector / 4)).count 0x3 1, none)
        | none => (s, none)
    | .isD =>
      if x.loaders.contains slot then (s, none)
      else (s.modCore fun c => c.setSector sector { x with loaders := x.loaders ++ [slot] }, none)
    | .u =>
      (s.modCore fun c => (c.setSector sector { x with st := .uiA }).sendUp s.cycle (.umrg sector x.op x.dbl x.parts), none)
    | _ => (s, none)

/-- What a fill brings. -/
inductive FillKind where
  | shared | excl | modified
deriving DecidableEq, Repr

/-- A fill that reaches an L1 (08 table 8.4): in IS_D and IM_AD only; none holds it.  DATA-S of a subscribed line answers an RDX
whose line has become subscribed meanwhile, and the held store is then written through (R174). -/
def State.fillArrives (s : State) (core sector : Nat) (k : FillKind) (data : Vec) (dirty : BitVec 64) (sub : Bool) : Option State :=
  let x := (s.coreAt core).sector sector
  let mark (c : Core) : Core :=
    match AMap.find? c.l1 (sector / 4) with
    | some l => { c with l1 := AMap.set c.l1 (sector / 4) { l with sub := sub } }
    | none => c
  match x.st with
  | .isD =>
    if x.invalidated then
      let s1 := s.modCoreAt core fun c => (c.setSector sector {}).tidy (sector / 4)
      some (match x.loaders with
        | n :: _ => s1.modSlotOf core n fun sl => { sl with fill := AMap.set sl.fill sector data }
        | [] => s1)
    else
      let st : SectorState := match k with
        | .shared => .s
        | .excl => .e
        | .modified => .m
      some (s.modCoreAt core fun c => (mark (c.setSector sector { st := st, data := data, dirty := dirty })).touch (sector / 4))
  | .imAD =>
    if k = .shared && !sub then none
    else
      some (s.modCoreAt core fun c =>
        ((mark (c.setSector sector { x with st := if k = .shared then .s else .m, data := data, dirty := dirty })).runHeld s.cycle sector).touch (sector / 4))
  | _ => none

/-- An ownership grant without data (08 table 8.4). -/
def State.grantArrives (s : State) (core sector : Nat) : Option State :=
  let x := (s.coreAt core).sector sector
  match x.st with
  | .smA => some (s.modCoreAt core fun c => (c.setSector sector { x with st := .m, dirty := 0 }).runHeld s.cycle sector)
  | .omA => some (s.modCoreAt core fun c => (c.setSector sector { x with st := .m }).runHeld s.cycle sector)
  | _ => none

/-- An invalidation in the states that tables 8.3 and 8.4 list it for; none holds it. -/
def State.invArrives (s : State) (core sector : Nat) : Option State :=
  let x := (s.coreAt core).sector sector
  let ack (f : Core → Core) : Option State := some (s.modCoreAt core fun c => ((f c).sendUp s.cycle (.iack sector)).tidy (sector / 4))
  match x.st with
  | .i => ack id
  | .s => ack fun c => c.setSector sector {}
  | .isD => ack fun c => c.setSector sector { x with invalidated := true }
  | .smA => ack fun c => c.setSector sector { x with st := .imAD }
  | _ => none

/-- A recall of update partials (08 R181).  In a transient it is held; a sector in another stable state has given its partials
already. -/
def State.urclArrives (s : State) (core sector : Nat) : Option State :=
  let x := (s.coreAt core).sector sector
  match x.st with
  | .u => some (s.modCoreAt core fun c => (c.setSector sector { x with st := .uiA }).sendUp s.cycle (.umrg sector x.op x.dbl x.parts))
  | st => if st.stable then some s else none

/-- A forward in the states that tables 8.3 and 8.4 list it for (08 R180); none holds it.  excl tells FWD-X from FWD-S; with no
requester the data goes to the directory. -/
def State.fwdArrives (s : State) (core sector : Nat) (excl : Bool) (requester : Option Nat) : Option State :=
  let x := (s.coreAt core).sector sector
  let answer (kept : SectorState) (toDir : Option (Vec × BitVec 64)) (peer : Bool) (mask : BitVec 64) (f : Core → Core) : Option State :=
    let dirData := match requester with
      | some _ => toDir
      | none => if peer then some (x.data, x.dirty) else none
    let s1 := s.modCoreAt core fun c => ((f c).sendUp s.cycle (.frsp sector dirData kept peer)).tidy (sector / 4)
    some (match requester with
      | some r => if peer then s1.modCoreAt r fun c => { c with toL1 := c.toL1 ++ [.peer sector x.data mask excl] } else s1
      | none => s1)
  match x.st with
  | .i => answer .i none false 0 id
  | .e =>
    if excl then answer .i none true 0 fun c => c.setSector sector {}
    else answer .s none true 0 fun c => c.setSector sector { x with st := .s }
  | .m | .o =>
    if excl then answer .i none true x.dirty fun c => c.setSector sector {}
    else answer .o none true 0 fun c => c.setSector sector { x with st := .o }
  | .omA => if excl then answer .i none true x.dirty fun c => c.setSector sector { x with st := .imAD, data := 0, dirty := 0 } else none
  | .miA => answer .i (some (x.data, x.dirty)) true 0 fun c => c.setSector sector { x with st := .iiA, dirty := 0 }
  | _ => none

/-- The answer to a write-back or a merge (08 table 8.4). -/
def State.wbackArrives (s : State) (core sector : Nat) : Option State :=
  let x := (s.coreAt core).sector sector
  match x.st with
  | .miA | .iiA | .uiA => some (s.modCoreAt core fun c => (c.setSector sector { held := x.held }).runHeld s.cycle sector)
  | _ => none

end Sys2Proof.Machine
end

