-- ==== Sys2Proof/Machine/Directory.lean ====
section
/-!
DEFINITION. The directory of a bent L2 (08 R175 to R181): taking requests, waiting for answers, merging updates; and the
meanings of the coherence messages of 08 table 8.2.

Readings of the manual and choices that this file codes: assumption log 37.
-/
namespace Sys2Proof.Machine

open Sys2Proof

/-- Sends a message to an L1. -/
def State.sendDown (s : State) (core : Nat) (m : DownMsg) : State := s.modCoreAt core fun c => { c with toL1 := c.toL1 ++ [m] }

/-- A line whose copies the home keeps current, or that a monitor watches, is held in I or S only (08 R174, 18 R336). -/
def State.lineShared (s : State) (bent line : Nat) : Bool :=
  match AMap.find? (s.bentAt bent).l2 line with
  | some l => l.sub || l.watch
  | none => false

/-- The data of a sector in the L2. -/
def State.l2Sector (s : State) (bent sector : Nat) : Vec := BitVec.ofNat 512 (s.l2Read bent (sector * 64) 64)

/-- Sends a message to each core of a list. -/
def State.sendAll (s : State) (cores : List Nat) (m : DownMsg) : State := cores.foldl (fun s k => s.sendDown k m) s

/-- Starts a merge of the U sectors (08 R181) on behalf of a message: the owner's sector is recalled, every holder gives
its partials, every S copy is invalidated. -/
def State.startMerge (s : State) (bent core : Nat) (m : UpMsg) (holders : List Nat) (collected : AMap UpMsg) : State :=
  let sector := m.sector
  let d := s.dirOf bent sector
  let owned := d.st = .excl || d.st = .owned
  let s1 := s.setDir bent sector
    { d with busy := some { requester := core, msg := m, acks := d.sharers.length, frsp := owned, merges := holders, collected := collected } }
  let s2 := s1.sendAll holders (.urcl sector)
  let s3 := s2.sendAll d.sharers (.inv sector)
  if owned then s3.sendDown d.owner (.fwdX sector none) else s3

/-- Makes a core the owner of a sector, with its data from the L2. -/
def State.fillOwner (s : State) (bent core sector : Nat) (m : DownMsg) : State :=
  (s.setDir bent sector { s.dirOf bent sector with st := .excl, owner := core, sharers := [], busy := none }).sendDown core m

/-- Takes a read-for-ownership request (08 R177, R178). -/
def State.takeRdx (s : State) (bent core sector : Nat) (m : UpMsg) : State :=
  let d := s.dirOf bent sector
  if !d.uholders.isEmpty then s.startMerge bent core m d.uholders []
  else
    let others := d.sharers.filter (· != core)
    let owner := (d.st = .excl || d.st = .owned) && d.owner != core
    if others.isEmpty && !owner then s.fillOwner bent core sector (.dataM sector (s.l2Sector bent sector) false)
    else
      let s1 := s.setDir bent sector { d with busy := some { requester := core, msg := m, acks := others.length, frsp := owner } }
      let s2 := s1.sendAll others (.inv sector)
      if owner then s2.sendDown d.owner (.fwdX sector (some core)) else s2

/-- Takes a message at an entry that is not busy, in a line that the L2 holds current. -/
def State.take (s : State) (bent core : Nat) (m : UpMsg) : State :=
  let sector := m.sector
  let d := s.dirOf bent sector
  let line := sector / 4
  let data := s.l2Sector bent sector
  match m with
  | .rd _ =>
    if s.lineShared bent line then
      (s.setDir bent sector { d with st := .shared, sharers := (d.sharers ++ [core]).eraseDups }).sendDown core (.dataS sector data true)
    else if !d.uholders.isEmpty then s.startMerge bent core m d.uholders []
    else
      match d.st with
      | .none => s.fillOwner bent core sector (.dataE sector data false)
      | .shared =>
        if d.sharers.all (· == core) then s.fillOwner bent core sector (.dataE sector data false)
        else (s.setDir bent sector { d with sharers := (d.sharers ++ [core]).eraseDups }).sendDown core (.dataS sector data false)
      | .excl | .owned =>
        if d.owner = core then
          if d.sharers.all (· == core) then s.fillOwner bent core sector (.dataE sector data false)
          else (s.setDir bent sector { d with st := .shared, sharers := (d.sharers ++ [core]).eraseDups }).sendDown core (.dataS sector data false)
        else
          (s.setDir bent sector { d with busy := some { requester := core, msg := m, frsp := true } }).sendDown d.owner (.fwdS sector core)
  | .rdx _ =>
    if s.lineShared bent line then
      (s.setDir bent sector { d with st := .shared, sharers := (d.sharers ++ [core]).eraseDups }).sendDown core (.dataS sector data true)
    else s.takeRdx bent core sector m
  | .upg _ =>
    -- R178 grants it to any sharer, and table 8.3 gives an O sector no INV: beside another owner it is served as an RDX (assumption log 37).
    if (d.st = .shared && d.sharers.contains core) || (d.st = .owned && d.owner = core) then
      let others := d.sharers.filter (· != core)
      if others.isEmpty then s.fillOwner bent core sector (.grant sector)
      else (s.setDir bent sector { d with busy := some { requester := core, msg := m, acks := others.length } }).sendAll others (.inv sector)
    else s.takeRdx bent core sector m
  | .wb _ bytes mask =>
    if (d.st = .excl || d.st = .owned) && d.owner = core then
      let s1 := s.l2Put bent line (64 * (sector % 4)) 64 bytes.toNat mask.toNat
      (s1.setDir bent sector { d with st := if d.sharers.isEmpty then .none else .shared }).sendDown core (.wback sector false)
    else s.sendDown core (.wback sector true)
  | .wt _ slot bytes mask =>
    let others := d.sharers.filter (· != core)
    let s1 := s.modBentAt bent fun b =>
      match AMap.find? b.l2 line with
      | some l => { b with l2 := AMap.set b.l2 line { l.put (64 * (sector % 4)) 64 bytes.toNat mask.toNat with dirty := l.dirty } }
      | none => b
    let s2 := (s1.setDir bent sector
      { d with sharers := d.sharers.filter (· == core), busy := if others.isEmpty then none else some { requester := core, msg := m, acks := others.length } }).sendAll
        others (.inv sector)
    match s.homeRoute bent (sector * 64) with
    | .error c =>
      s2.postedError core slot Cause.remoteError (BitVec.ofNat 64 (sector * 64)) c (c = 3) (s.failedLink (dieOf core) (homeOf (sector * 64)))
    | _ => s2.homeWrite (sector * 64) 64 bytes.toNat mask.toNat (some (core, slot))
  | .ureg _ =>
    let rest := d.sharers.filter (· != core)
    let silent := d.st = .excl && d.owner = core
    let d1 := { d with
      st := if silent || (d.st = .shared && rest.isEmpty) then .none else d.st
      uholders := (d.uholders ++ [core]).eraseDups
      sharers := rest }
    -- A line that has become subscribed holds no U sector (R174): its partials are recalled and go to the home.
    if s.lineShared bent line then (s.setDir bent sector { d1 with busy := some { requester := core, msg := m, merges := d1.uholders } }).sendAll d1.uholders (.urcl sector)
    else s.setDir bent sector d1
  | .umrg _ _ _ _ => s.startMerge bent core m (d.uholders.filter (· != core)) [(core, m)]
  | .frsp _ _ _ _ | .iack _ => s

/-- Applies the collected partials in increasing position (08 R181). -/
def State.applyMerges (s : State) (bent sector : Nat) (collected : AMap UpMsg) : State :=
  (s.byPhys bent).foldl (fun s k =>
    match AMap.find? collected k with
    | some (.umrg _ op dbl parts) => s.applyParts bent k (sector / 4) (64 * (sector % 4)) op dbl parts
    | _ => s) s

/-- Ends what a busy entry waited for, once nothing is missing (08 R177): the request is answered. -/
def State.finish (s : State) (bent sector : Nat) : State :=
  let d := s.dirOf bent sector
  match d.busy with
  | some w =>
    if w.acks ≠ 0 || w.frsp || !w.merges.isEmpty then s
    else if !w.collected.isEmpty then
      let s1 := s.applyMerges bent sector w.collected
      let s2 := s1.setDir bent sector { (s1.dirOf bent sector) with st := .none, sharers := [], uholders := [], busy := none }
      let s3 := s2.sendAll w.collected.keys (.wback sector false)
      match w.msg with
      | .rd _ | .rdx _ | .upg _ => s3.take bent w.requester w.msg
      | _ => s3
    else
      match w.msg with
      | .rd _ =>
        if w.supplied then
          let keep : DirEntry :=
            if w.kept = .o then { d with st := .owned, sharers := (d.sharers ++ [w.requester]).eraseDups, busy := none }
            else if w.kept = .s then { d with st := .shared, sharers := (d.sharers ++ [d.owner, w.requester]).eraseDups, busy := none }
            else { d with st := .shared, sharers := (d.sharers ++ [w.requester]).eraseDups, busy := none }
          s.setDir bent sector keep
        else
          (s.setDir bent sector { d with st := if d.sharers.isEmpty then .none else .shared, busy := none }).take bent w.requester w.msg
      | .rdx _ | .upg _ =>
        let owner := d.st = .excl || d.st = .owned
        if owner && w.supplied then s.setDir bent sector { d with st := .excl, owner := w.requester, sharers := [], busy := none }
        else
          (match w.msg with
           | .upg _ =>
             if d.st = .shared && d.sharers.contains w.requester || d.st = .owned && d.owner = w.requester then
               s.fillOwner bent w.requester sector (.grant sector)
             else s.fillOwner bent w.requester sector (.dataM sector (s.l2Sector bent sector) false)
           | _ => s.fillOwner bent w.requester sector (.dataM sector (s.l2Sector bent sector) false))
      | _ => s.setDir bent sector { d with busy := none }
  | none => s

/-- Makes a line current in the bent L2 for a request of a core: held and of this epoch, filled again after an acquire
(07 R159), or filled into a free way or one that the eviction of a named line frees (06 R145, 08 R182). -/
def State.l2Ready (s : State) (bent core line : Nat) (evict : List Nat) : Option State :=
  let miss (s : State) : State := s.modCoreAt core fun c => c.count 0x4 1
  let reach := s.homeRoute bent (line * 256) ≠ .wait
  match AMap.find? (s.bentAt bent).l2 line with
  | some l =>
    if (s.bentAt bent).current l then some s
    else if s.settled bent line && reach then
      let s1 := (s.cleanLine bent line).drainPushes bent (homeOf (line * 256))
      let dir := match AMap.find? (s1.bentAt bent).l2 line with
        | some l => l.dir
        | none => l.dir
      some (miss (s1.setL2 bent line { s1.freshLine bent line with dir := dir.map fun d => { queue := d.queue, takenAt := d.takenAt } }))
    else none
  | none =>
    let set := s.l2Set bent line
    if !reach then none
    else if set.length < 16 then some (miss (s.fillLine bent line))
    else
      match evict with
      | v :: _ => if set.contains v && s.evictable bent v then some (miss ((s.dropLine bent v).fillLine bent line)) else none
      | [] => none

/-- Whether a message needs its line in the L2. -/
def UpMsg.needsLine : UpMsg → Bool
  | .rd _ | .rdx _ | .upg _ | .ureg _ => true
  | _ => false

/-- Whether a message is a request, of which the directory takes at most one for each sector in a cycle (08 R177). -/
def UpMsg.isRequest : UpMsg → Bool
  | .frsp _ _ _ _ | .iack _ => false
  | _ => true

/-- Whether a request must go beyond the bent, because its line is absent or of an older epoch. -/
def State.goesHome (s : State) (bent : Nat) (m : UpMsg) : Bool :=
  (m.needsLine || !AMap.has (s.bentAt bent).l2 (m.sector / 4)) && match AMap.find? (s.bentAt bent).l2 (m.sector / 4) with
    | some l => !(s.bentAt bent).current l
    | none => true

/-- Posted errors for updates that are lost, one for each slot of each partial result. -/
def State.lostParts (s : State) (core sector code : Nat) (parts : List Partial) : State :=
  parts.foldl (fun s p => p.slots.foldl (fun s n =>
    s.postedError core n Cause.remoteError (BitVec.ofNat 64 (sector * 64 + p.off)) code (code = 3) (s.failedLink (dieOf core) (homeOf (sector * 64)))) s) s

/-- An error reply to a request of a core for a line whose home has no path (22 R391): a load's slots learn the code and
take it when they execute again; a store or an update is lost and recorded as a posted error.  The partials of a sector that
has sent them meanwhile are answered when they arrive. -/
def State.fillFails (s : State) (core : Nat) (m : UpMsg) (code : Nat) : State :=
  let sector := m.sector
  let x := (s.coreAt core).sector sector
  let addr := BitVec.ofNat 64 (sector * 64)
  let clear (s : State) (held : List HeldOp) : State :=
    s.modCoreAt core fun c => (c.setSector sector { held := held }).runHeld s.cycle sector
  match m with
  | .umrg _ _ _ parts => clear (s.lostParts core sector code parts) x.held
  | .ureg _ => if x.st = .u then clear (s.lostParts core sector code x.parts) [] else s
  | _ =>
    let s1 := clear s []
    if x.st = .isD then x.loaders.foldl (fun s n => s.modSlotOf core n fun sl => { sl with fillErr := AMap.set sl.fillErr sector code }) s1
    else x.held.foldl (fun s h => s.postedError core h.slot Cause.remoteError addr code (code = 3) (s.failedLink (dieOf core) (homeOf (sector * 64)))) s1

/-- Takes a request of a core whose turn it is, once its line is in the L2: it is answered or begins to wait; none while the line
is not there. -/
def State.serve (s : State) (core : Nat) (m : UpMsg) (evict : List Nat) : Option State :=
  let bent := bentOf core
  let sector := m.sector
  let ready : Option State :=
    match s.goesHome bent m, s.homeRoute bent (sector * 64) with
    | true, .error code => some (s.fillFails core m code)
    | _, _ =>
      let s1 : Option State := match m with
        | .wt _ _ _ _ => if s.homeRoute bent (sector * 64) = Route.wait then none else some s
        | .umrg _ _ _ _ => if AMap.has (s.bentAt bent).l2 (sector / 4) then some s else s.l2Ready bent core (sector / 4) evict
        | _ => if m.needsLine then s.l2Ready bent core (sector / 4) evict else some s
      s1.map fun s => (s.take bent core m).finish bent sector
  ready.map fun s => s.setDir bent sector { s.dirOf bent sector with takenAt := some s.cycle }

/-- Whether an entry can take a request in this cycle. -/
def State.entryFree (s : State) (bent sector : Nat) : Bool :=
  let d := s.dirOf bent sector
  d.busy.isNone && d.takenAt ≠ some s.cycle

/-- Takes the first request that an entry holds, if it can take one (08 R177). -/
def State.drainEntry (s : State) (bent sector : Nat) : State :=
  let d := s.dirOf bent sector
  match d.queue with
  | (core, m) :: r =>
    if s.entryFree bent sector then ((s.setDir bent sector { d with queue := r }).serve core m []).getD s else s
  | [] => s

/-- Takes what can be taken at the entries of a line. -/
def State.drainLine (s : State) (bent line : Nat) : State :=
  (List.range 4).foldl (fun s i => s.drainEntry bent (line * 4 + i)) s

/-- Puts a request into the queue of its entry, or among those that wait for their line, in arrival order. -/
def State.holdRequest (s : State) (core : Nat) (m : UpMsg) : State :=
  let bent := bentOf core
  let d := s.dirOf bent m.sector
  if AMap.has (s.bentAt bent).l2 (m.sector / 4) && !(s.bentAt bent).missq.any fun q => q.2.sector == m.sector then
    s.setDir bent m.sector { d with queue := d.queue ++ [(core, m)] }
  else s.modBentAt bent fun b => { b with missq := b.missq ++ [(core, m)] }

/-- A request that reaches the directory: taken at once, or held while its entry is busy, has taken another in this cycle or holds
earlier ones, or while its line is not in the L2 (08 R177). -/
def State.requestUp (s : State) (core : Nat) (m : UpMsg) (evict : List Nat) : State :=
  let bent := bentOf core
  if s.entryFree bent m.sector && (s.dirOf bent m.sector).queue.isEmpty && !(s.bentAt bent).missq.any fun q => q.2.sector == m.sector then
    (s.serve core m evict).getD (s.holdRequest core m)
  else s.holdRequest core m

/-- A message of a core that reaches the directory. -/
def State.upArrives (s : State) (core : Nat) (m : UpMsg) (evict : List Nat) : State :=
  let bent := bentOf core
  let sector := m.sector
  let d := s.dirOf bent sector
  match m, d.busy with
  | .iack _, some w => (s.setDir bent sector { d with busy := some { w with acks := w.acks - 1 } }).finish bent sector
  | .frsp _ data kept had, some w =>
    let s1 := match data with
      | some (bytes, mask) => s.l2Put bent (sector / 4) (64 * (sector % 4)) 64 bytes.toNat mask.toNat
      | none => s
    (s1.setDir bent sector { s1.dirOf bent sector with busy := some { w with frsp := false, supplied := had, kept := kept } }).finish bent sector
  | .umrg _ _ _ _, some w =>
    if w.merges.contains core then
      (s.setDir bent sector { d with busy := some { w with merges := w.merges.filter (· != core), collected := AMap.set w.collected core m } }).finish bent sector
    else s.requestUp core m evict
  | .iack _, none => s
  | .frsp _ _ _ _, none => s
  | _, _ => s.requestUp core m evict

/-- The L2 bank of a sector: line address[12:8] (06 R145). -/
def bankOf (sector : Nat) : Nat := sector / 4 % 32

/-- The first message of a kind in a channel that no earlier message to its bank precedes, with the rest: messages between an L1
and a bank keep their order (08 R176). -/
def pickUp (p : UpMsg → Bool) (seen : List Nat) : List (Nat × UpMsg) → Option ((Nat × UpMsg) × List (Nat × UpMsg))
  | [] => none
  | m :: r =>
    if p m.2 && !seen.contains (bankOf m.2.sector) then some (m, r)
    else (pickUp p (bankOf m.2.sector :: seen) r).map fun q => (q.1, m :: q.2)

/-- The first message of a kind to an L1 that no earlier message of its bank precedes.  A response of another L1 has a channel of
its own. -/
def pickDown (p : DownMsg → Bool) (seen : List Nat) : List DownMsg → Option (DownMsg × List DownMsg)
  | [] => none
  | m :: r =>
    let peer := match m with
      | .peer _ _ _ _ => true
      | _ => false
    if p m && (peer || !seen.contains (bankOf m.sector)) then some (m, r)
    else (pickDown p (if peer then seen else bankOf m.sector :: seen) r).map fun q => (q.1, m :: q.2)

/-- Whether a request of another L1 for the sector, sent in an earlier cycle or in the same one from a lower position, has not
reached the directory yet: it is taken first (08 R177). -/
def State.outranked (s : State) (core : Nat) (m : Nat × UpMsg) : Bool :=
  m.2.isRequest && (coresOfBent (bentOf core)).any fun k => k != core &&
    (s.coreAt k).toL2.any fun q => q.2.isRequest && q.2.sector == m.2.sector &&
      (decide (q.1 < m.1) || (q.1 == m.1 && decide ((s.coreAt k).phys.toNat < (s.coreAt core).phys.toNat)))

/-- A request of a core and a kind that waits at the directory and can be taken now: one that waits for its line, with the sector
that it stands first for, or one at the head of the queue of an entry. -/
def State.retryRequest (s : State) (core : Nat) (evict : List Nat) (p : UpMsg → Bool) : Option State :=
  let bent := bentOf core
  let b := s.bentAt bent
  match b.missq.findIdx? fun q => q.1 == core && p q.2 with
  | some i =>
    let m := (b.missq.getD i (core, .rd 0)).2
    if (b.missq.take i).any (fun q => q.2.sector == m.sector) || !s.entryFree bent m.sector then none
    else (s.modBentAt bent fun b => { b with missq := b.missq.eraseIdx i }).serve core m evict
  | none =>
    match List.find? (fun l : Nat × L2Line => l.2.dir.toList.any fun d => match d.queue with
      | q :: _ => q.1 == core && p q.2 && d.busy.isNone && d.takenAt ≠ some s.cycle
      | [] => false) b.l2 with
    | some l => some (s.drainLine bent l.1)
    | none => none

/-- An event in which a message of a core reaches the directory, or in which a request that waits there is taken. -/
def State.upEvent (s : State) (core : Nat) (evict : List Nat) (p : UpMsg → Bool) : State :=
  match s.retryRequest core evict p with
  | some s1 => s1
  | none =>
    match pickUp p [] (s.coreAt core).toL2 with
    | some (m, rest) =>
      if s.outranked core m then s
      else (((s.modCoreAt core fun c => { c with toL2 := rest }).upArrives core m.2 evict)).drainLine (bentOf core) (m.2.sector / 4)
    | none => s

/-- A message to an L1. -/
def State.downArrives (s : State) (core : Nat) (m : DownMsg) : Option State :=
  match m with
  | .dataS x d sub => s.fillArrives core x .shared d 0 sub
  | .dataE x d sub => s.fillArrives core x .excl d 0 sub
  | .dataM x d sub => s.fillArrives core x .modified d 0 sub
  | .grant x => s.grantArrives core x
  | .inv x => s.invArrives core x
  | .urcl x => s.urclArrives core x
  | .fwdS x r => s.fwdArrives core x false (some r)
  | .fwdX x r => s.fwdArrives core x true r
  | .wback x _ => s.wbackArrives core x
  | .peer x d mask own => s.fillArrives core x (if own then .modified else .shared) d mask false

/-- Delivers the messages about a sector that its L1 holds, as far as its state takes them. -/
def State.retryHeld (s : State) (core sector : Nat) : Nat → State
  | 0 => s
  | n + 1 =>
    let l := (s.coreAt core).heldL1
    match (List.range l.length).findSome? fun i =>
        match l[i]? with
        | some m =>
          if m.sector == sector then
            (s.modCoreAt core fun c => { c with heldL1 := c.heldL1.eraseIdx i }).downArrives core m
          else none
        | none => none with
    | some s1 => s1.retryHeld core sector n
    | none => s

/-- An event in which a message reaches an L1; a message that the tables do not list for the sector's state is held until the
sector changes (08 R179). -/
def State.downEvent (s : State) (core : Nat) (p : DownMsg → Bool) : State :=
  let after (s : State) (sector : Nat) : State :=
    (s.retryHeld core sector ((s.coreAt core).heldL1.length)).drainLine (bentOf core) (sector / 4)
  match pickDown p [] (s.coreAt core).toL1 with
  | some (m, rest) =>
    let s0 := s.modCoreAt core fun c => { c with toL1 := rest }
    match s0.downArrives core m with
    | some s1 => after s1 m.sector
    | none => s0.modCoreAt core fun c => { c with heldL1 := c.heldL1 ++ [m] }
  | none =>
    match (s.coreAt core).heldL1.find? p with
    | some m => after s m.sector
    | none => s

/-- RD: a read request reaches the directory (08 table 8.2). -/
def execRd (core : Nat) (evict : List Nat) (s : State) : Host.Outcome State Fault Refusal :=
  .next (s.upEvent core evict fun m => match m with | .rd _ => true | _ => false)

/-- RDX: a read for ownership reaches the directory. -/
def execRdx (core : Nat) (evict : List Nat) (s : State) : Host.Outcome State Fault Refusal :=
  .next (s.upEvent core evict fun m => match m with | .rdx _ => true | _ => false)

/-- UPG: a request for ownership without data reaches the directory. -/
def execUpg (core : Nat) (s : State) : Host.Outcome State Fault Refusal :=
  .next (s.upEvent core [] fun m => match m with | .upg _ => true | _ => false)

/-- WB: a write-back reaches the directory. -/
def execWb (core : Nat) (s : State) : Host.Outcome State Fault Refusal :=
  .next (s.upEvent core [] fun m => match m with | .wb _ _ _ => true | _ => false)

/-- WT: a write-through reaches the directory. -/
def execWt (core : Nat) (s : State) : Host.Outcome State Fault Refusal :=
  .next (s.upEvent core [] fun m => match m with | .wt _ _ _ _ => true | _ => false)

/-- UREG: the registration of a U holder reaches the directory. -/
def execUreg (core : Nat) (s : State) : Host.Outcome State Fault Refusal :=
  .next (s.upEvent core [] fun m => match m with | .ureg _ => true | _ => false)

/-- UMRG: update partials reach the directory. -/
def execUmrg (core : Nat) (s : State) : Host.Outcome State Fault Refusal :=
  .next (s.upEvent core [] fun m => match m with | .umrg _ _ _ _ => true | _ => false)

/-- FRSP: a response to a forward reaches the directory, or the L1 that asked. -/
def execFrsp (core : Nat) (toDir : Bool) (s : State) : Host.Outcome State Fault Refusal :=
  .next (if toDir then s.upEvent core [] fun m => match m with | .frsp _ _ _ _ => true | _ => false
    else s.downEvent core fun m => match m with | .peer _ _ _ _ => true | _ => false)

/-- IACK: the acknowledgement of an invalidation reaches the directory. -/
def execIack (core : Nat) (s : State) : Host.Outcome State Fault Refusal :=
  .next (s.upEvent core [] fun m => match m with | .iack _ => true | _ => false)

/-- DATA-S reaches an L1. -/
def execDataS (core : Nat) (_evict : List Nat) (s : State) : Host.Outcome State Fault Refusal :=
  .next (s.downEvent core fun m => match m with | .dataS _ _ _ => true | _ => false)

/-- DATA-E reaches an L1. -/
def execDataE (core : Nat) (_evict : List Nat) (s : State) : Host.Outcome State Fault Refusal :=
  .next (s.downEvent core fun m => match m with | .dataE _ _ _ => true | _ => false)

/-- DATA-M reaches an L1. -/
def execDataM (core : Nat) (_evict : List Nat) (s : State) : Host.Outcome State Fault Refusal :=
  .next (s.downEvent core fun m => match m with | .dataM _ _ _ => true | _ => false)

/-- GRANT reaches an L1. -/
def execGrant (core : Nat) (s : State) : Host.Outcome State Fault Refusal :=
  .next (s.downEvent core fun m => match m with | .grant _ => true | _ => false)

/-- INV reaches an L1. -/
def execInv (core : Nat) (s : State) : Host.Outcome State Fault Refusal :=
  .next (s.downEvent core fun m => match m with | .inv _ => true | _ => false)

/-- URCL reaches an L1. -/
def execUrcl (core : Nat) (s : State) : Host.Outcome State Fault Refusal :=
  .next (s.downEvent core fun m => match m with | .urcl _ => true | _ => false)

/-- FWD-S reaches an L1. -/
def execFwdS (core : Nat) (s : State) : Host.Outcome State Fault Refusal :=
  .next (s.downEvent core fun m => match m with | .fwdS _ _ => true | _ => false)

/-- FWD-X reaches an L1. -/
def execFwdX (core : Nat) (s : State) : Host.Outcome State Fault Refusal :=
  .next (s.downEvent core fun m => match m with | .fwdX _ _ => true | _ => false)

/-- WBACK reaches an L1. -/
def execWback (core : Nat) (s : State) : Host.Outcome State Fault Refusal :=
  .next (s.downEvent core fun m => match m with | .wback _ _ => true | _ => false)

end Sys2Proof.Machine
end

