-- ==== Sys2Proof/Machine/Settle.lean ====
section
/-!
DEFINITION. Lines that an engine reads or writes while messages about them are under way: the messages are delivered first,
within the step (06 R147, 08 R176 to R180; assumption log 9).

Readings of the manual and choices that this file codes: assumption log 9.
-/
namespace Sys2Proof.Machine

open Sys2Proof

/-- Whether a message is a response of another L1, which has a channel of its own. -/
def DownMsg.fromPeer : DownMsg → Bool
  | .peer _ _ _ _ => true
  | _ => false

/-- Delivers the first message of each channel of a core with the bank of a line, and what waits there for the line. -/
def State.deliverBank (s : State) (core line : Nat) : State :=
  let up (m : UpMsg) : Bool := bankOf m.sector == line % 32
  let down (m : DownMsg) : Bool := bankOf m.sector == line % 32
  let s1 := s.upEvent core [] up
  let s2 := s1.downEvent core fun m => down m && m.fromPeer
  s2.downEvent core fun m => down m && !m.fromPeer

/-- One round of deliveries of the messages about a line; a cycle passes. -/
def State.deliverLine (s : State) (bent line : Nat) : State :=
  let s1 := (coresOfBent bent).foldl (fun s k => s.deliverBank k line) s
  { s1 with cycle := s1.cycle + 1 }

/-- Delivers the messages about a line until the line is quiet, in at most n rounds. -/
def State.settleLine (s : State) (bent line : Nat) : Nat → State
  | 0 => s
  | n + 1 => if s.quiet bent line then s else (s.deliverLine bent line).settleLine bent line n

/-- Recalls the lines of a range for an engine's read. -/
def State.recallRange (s : State) (bent pa n : Nat) : State :=
  (linesOf pa n).foldl (fun s l => (s.settleLine bent l 256).recallLine bent l) s

/-- An engine's write of n bytes at the home, after the issuing bent has written back and dropped its copy (06 R147). -/
def State.engineWrite (s : State) (bent pa n v : Nat) : State :=
  let s1 := (linesOf pa n).foldl (fun s l => (s.settleLine bent l 256).dropLine bent l) s
  s1.homeWriteLines pa (n + 1) n v

end Sys2Proof.Machine
end

