-- ==== Sys2Proof/Machine/Retire.lean ====
section
/-!
DEFINITION. The end of kernels: what a kernel that retires or is aborted gives back, its completion record (09 R200), and the
abort that follows when a context becomes Faulted (09 R201).

Readings of the manual and choices that this file codes: assumption log 62, 119.
-/
namespace Sys2Proof.Machine

open Sys2Proof

/-! ### Kernels -/

/-- A kernel that holds a KERNID. -/
def State.kernelAt (s : State) (pkg kern : Nat) : Option Kernel := AMap.find? (s.pkgAt pkg).kernels kern

/-- Replaces a kernel that holds a KERNID. -/
def State.modKernel (s : State) (pkg kern : Nat) (f : Kernel → Kernel) : State :=
  match s.kernelAt pkg kern with
  | some k => s.modPkgAt pkg fun p => { p with kernels := AMap.set p.kernels kern (f k) }
  | none => s

/-- A field of n bytes of a launch record (09 table 9.1). -/
def recordField (record : BitVec 2048) (off n : Nat) : Nat := record.toNat / 2 ^ (8 * off) % 2 ^ (8 * n)

/-- The address space of a kernel: ASID and PTROOT of its record, or of its context on a core. -/
def State.kernelSpace (s : State) (pkg kern core : Nat) : BitVec 12 × Word :=
  match s.kernelAt pkg kern with
  | some k => (k.asid, k.ptroot)
  | none => ((s.ctxOf core kern).asid, (s.ctxOf core kern).ptroot)

/-! ### What a kernel gives back -/

/-- Whether granule g of n bytes lies outside a window. -/
def Window.excludes (w : Window) (g n : Nat) : Bool := decide (n * (g + 1) ≤ w.base) || decide (w.base + w.size ≤ n * g)

/-- The core with the poison of a context's windows cleared: no window shows what another context left (06 R135, 14 R279). -/
def Core.unpoison (c : Core) (x : Ctx) : Core :=
  { c with
    poisonC := c.poisonC.filter fun g => x.cwin.excludes g 256
    poisonW := c.poisonW.filter fun g => x.wwin.excludes g 8
    poisonA := c.poisonA.filter fun g => x.awin.excludes g 8 }

/-- A slot number, or what stands for it, renamed. -/
def renamed (old new n : Nat) : Nat := if n = old then new else n

/-- A held access of a renamed slot. -/
def HeldOp.rename (old new : Nat) : HeldOp → HeldOp
  | .store n d m => .store (renamed old new n) d m
  | .upd n op dbl o v => .upd (renamed old new n) op dbl o v

/-- A partial result with a renamed slot. -/
def Partial.rename (old new : Nat) (p : Partial) : Partial := { p with slots := p.slots.map (renamed old new) }

/-- A message with a renamed slot. -/
def UpMsg.rename (old new : Nat) : UpMsg → UpMsg
  | .wt x n d m => .wt x (renamed old new n) d m
  | .umrg x op dbl parts => .umrg x op dbl (parts.map (Partial.rename old new))
  | m => m

/-- A core whose posted accesses of a slot are those of another name. -/
def Core.renameSlot (c : Core) (old new : Nat) : Core :=
  let sector (x : Sector) : Sector := { x with held := x.held.map (HeldOp.rename old new), parts := x.parts.map (Partial.rename old new) }
  { c with
    requests := c.requests.map fun r => if r.dest = .posted then { r with slot := renamed old new r.slot } else r
    l1 := AMap.mapVals c.l1 fun l => { l with sec := l.sec.map sector }
    inject := c.inject.map fun p => if p.slot = old then { p with slot := 8 } else p
    toL2 := c.toL2.map fun m => (m.1, m.2.rename old new) }

/-- The requests of a core at the directory of its bent under another name of a slot. -/
def Bent.renameSlot (b : Bent) (core old new : Nat) : Bent :=
  let msg (q : Nat × UpMsg) : Nat × UpMsg := if q.1 = core then (q.1, q.2.rename old new) else q
  let busy (w : DirBusy) : DirBusy := { w with
    msg := if w.requester = core then w.msg.rename old new else w.msg
    collected := AMap.mapKeyed w.collected fun k m => if k = core then m.rename old new else m }
  { b with
    missq := b.missq.map msg
    l2 := AMap.mapVals b.l2 fun l => { l with dir := l.dir.map fun d => { d with queue := d.queue.map msg, busy := d.busy.map busy } } }

/-- A held write of a slot of a core under another name of the slot. -/
def renameSource (core old new : Nat) (p : Option (Nat × Nat)) : Option (Nat × Nat) :=
  p.map fun x => if x.1 = core then (x.1, renamed old new x.2) else x

/-- The posted accesses of a slot that are still under way pass to another name (04 R94): no later task of the slot waits for them or
hears of their errors. -/
def State.renameSlot (s : State) (core old new : Nat) : State :=
  let write (w : PtWrite) : PtWrite := { w with source := renameSource core old new w.source }
  let rehome (r : Rehome) : Rehome := { r with source := renameSource core old new r.source, held := r.held.map write }
  let event (m : BarMsg) : BarMsg := { m with task := renameSource core old new m.task }
  let s1 := (s.modCoreAt core fun c => c.renameSlot old new).modBentAt (bentOf core) fun b => b.renameSlot core old new
  { s1 with
    dies := AMap.mapVals s1.dies fun d =>
      { d with ptWrites := d.ptWrites.map write, rehomes := d.rehomes.map rehome, rehomeQueue := d.rehomeQueue.map rehome }
    bents := AMap.mapVals s1.bents fun b => { b with barIn := b.barIn.map event } }

/-- The posted accesses of a kernel on a core, which no context hears of any longer. -/
def State.orphan (s : State) (core kern : Nat) : State :=
  ((List.range 8).filter fun n => (s.slotOf core n).ctx = some kern).foldl (fun s n => s.renameSlot core n noSlot) (s.renameSlot core (endedSlot kern) noSlot)

/-- The core after a kernel has left it: its slots are free, its context, commands and deque are gone; requests already
sent still reach their targets. -/
def Core.freeKernel (k : Core) (kern cycle : Nat) : Core :=
  let c : Core := match AMap.find? k.ctxs kern with
    | some x => if x.state = CtxState.saved then k else k.unpoison x
    | none => k
  let mine (n : Nat) := (c.slotAt n).ctx = some kern
  let ctxs := AMap.erase c.ctxs kern
  Core.countParked (now := cycle) { c with
    slots := c.slots.map fun sl => if sl.ctx = some kern then {} else sl
    ctxs := ctxs
    copyq := AMap.mapVals c.copyq fun q => q.filter fun t => t.1 != kern
    truss := c.truss.filter fun t => t.kern != kern
    inject := c.inject.filter fun p => p.kern != kern
    sendErrors := c.sendErrors.filter fun p => p.1 != kern
    donations := c.donations.filter fun d => !decide (mine d.slot)
    ending := c.ending.filter fun e => e.1 != kern
    requests := c.requests.filterMap fun r =>
      if mine r.slot then (if r.done then none else some { r with slot := noSlot, dest := .posted }) else some r
    deque := match c.deque.owner with
      | some n => if mine n then {} else c.deque
      | none => if c.deque.record.map Prod.fst = some kern then { c.deque with record := none } else c.deque
    steal := match c.steal.phase with
      | .probing _ k => if k = kern then {} else c.steal
      | .taken _ k _ _ _ _ => if k = kern then {} else c.steal
      | .counted _ k _ => if k = kern then {} else c.steal
      | .landed k _ _ _ _ => if k = kern then {} else c.steal
      | .idle => c.steal
      | .empty => c.steal
    idleSince := if ctxs.all (fun p => p.2.state = .saved) && !c.ctxs.all (fun p => p.2.state = .saved) then cycle else c.idleSince }

/-- The SRAM of a bent with zeros in the join entries of a kernel and its barrier entries back in Free (11 R233, 16 R316). -/
def Bent.freeSram (b : Bent) (kern : Nat) : Memory :=
  let m := b.joinOwner.foldl (fun m e => if e.2 = kern then Memory.writeNat m (8 * e.1) 8 0 else m) b.sram
  b.bars.foldl (fun m e =>
    if e.2.kern = kern then
      let a := 0xC000 + 16 * e.1 + 8
      Memory.writeNat m a 1 (Nat.land (Memory.readNat m a 1) 0xE7)
    else m) m

/-- The bent after a kernel has left it: its tables hold nothing of the kernel. -/
def Bent.freeKernel (b : Bent) (kern : Nat) : Bent :=
  { b with
    sram := b.freeSram kern
    joinOwner := b.joinOwner.filter fun e => e.2 != kern
    joinReserved := b.joinReserved.filter fun e => e.2 != kern
    seqOwner := AMap.erase b.seqOwner kern
    binOwner := AMap.erase b.binOwner kern
    bars := b.bars.filter fun e => e.2.kern != kern
    bins := b.bins.filter fun e => e.2.kern != kern
    queues := b.queues.filter fun e => e.2.kern != kern
    waits := b.waits.filter fun w => w.kern != kern
    barIn := b.barIn.filter fun m => m.kern != kern
    monitors := b.monitors.filter fun m => !decide (m.2.st ≠ .free) || m.2.kern != kern }

/-- Ends the subscription of a bent to a page (08 R185): the home forgets the bent, and the page's lines lose SUB and are
invalidated, their dirty bytes going to the home first. -/
def State.deregister (s : State) (bent page : Nat) : State :=
  let home := homeOf (page * 2 ^ 15)
  let s1 := s.modDieAt home fun d => d.modSubDirs fun m =>
    let l := (AMap.getD m page []).filter (· != bent)
    if l.isEmpty then AMap.erase m page else AMap.set m page l
  let s2 := s1.modBentAt bent fun b =>
    { b with
      subs := AMap.erase b.subs page
      pushes := b.pushes.filter fun p => p.line / 128 != page }
  (List.range 128).foldl (fun s i =>
    let line := page * 128 + i
    if AMap.has (s.bentAt bent).l2 line || (coresOfBent bent).any (fun k => AMap.has (s.coreAt k).l1 line) then (s.settleLine bent line 256).dropLine bent line else s) s2

/-- Drops the leases that p selects in a bent; a page without leases is deregistered. -/
def State.dropLeases (s : State) (bent : Nat) (p : Nat → Lease → Bool) : State :=
  (s.bentAt bent).subs.foldl (fun s e =>
    let rest := e.2.filter fun l => !p e.1 l
    if rest.isEmpty then s.deregister bent e.1
    else s.modBentAt bent fun b => { b with subs := AMap.set b.subs e.1 rest }) s

/-- Writes ENQCNT, DONECNT and HANDLE := 0 of an open queue to its descriptor (13 R246, R259). -/
def State.closeQueue (s : State) (bent : Nat) (asid : BitVec 12) (root : Word) (q : OpenQueue) : State :=
  match s.engineXlat bent asid root .store (q.desc.toNat % 2 ^ 48 + 0x18) with
  | (s1, .ok pa) => s1.engineWrite bent pa 24 (q.enqcnt % 2 ^ 64 + 2 ^ 64 * (q.donecnt % 2 ^ 64))
  | (s1, .fault _) => s1

/-- Closes the open queues of a kernel in a package. -/
def State.closeQueues (s : State) (pkg kern : Nat) (asid : BitVec 12) (root : Word) : State :=
  s.bents.foldl (fun s b =>
    if pkgOfBent b.1 = pkg then
      let s1 := b.2.queues.foldl (fun s q => if q.2.kern = kern then s.closeQueue b.1 asid root q.2 else s) s
      s1.modBentAt b.1 fun x => { x with queues := x.queues.filter fun q => q.2.kern != kern }
    else s) s

/-- Frees everything that a kernel holds in its package, and then its KERNID, which no kernel that it launched names any longer.
When no kernel of its ASID is left in the package, the ASID's translations are dropped (21 R373), and when none is left anywhere
its unexpected messages (17 R327). -/
def State.freeKernel (s : State) (pkg kern : Nat) (k : Kernel) : State :=
  let s1 := s.closeQueues pkg kern k.asid k.ptroot
  let s2 := s1.bents.foldl (fun s b =>
    if pkgOfBent b.1 = pkg then s.dropLeases b.1 fun _ l => l.kern = kern && pkgOf l.core = pkg else s) s1
  let s2 := s2.cores.foldl (fun s c => if pkgOf c.1 = pkg && AMap.has c.2.ctxs kern then s.orphan c.1 kern else s) s2
  let s3 := { s2 with
    cores := AMap.mapKeyed s2.cores fun n c => if pkgOf n = pkg then c.freeKernel kern s2.cycle else c
    bents := AMap.mapKeyed s2.bents fun n b => if pkgOfBent n = pkg then b.freeKernel kern else b
    dies := AMap.mapKeyed s2.dies fun n d => if n / 4 = pkg then
        { d with
          posts := d.posts.filter fun p => p.kern != kern
          landings := d.landings.filter fun l => l.post.kern != kern }
      else d }
  let s4 := s3.modPkgAt pkg fun p =>
    { p with kernels := AMap.mapVals (AMap.erase p.kernels kern) fun x => if x.parent = some kern then { x with parent := none } else x }
  let held (p : Pkg) : Bool := p.kernels.any fun x => x.2.asid = k.asid
  if held (s4.pkgAt pkg) then s4
  else
    let s5 := if s4.pkgs.any fun p => held p.2 then s4
      else { s4 with dies := AMap.mapVals s4.dies fun d => { d with umq := d.umq.filter fun m => m.asid != k.asid } }
    s5.bents.foldl (fun s b => if pkgOfBent b.1 = pkg then s.tlbDrop b.1 fun e => e.asid = k.asid else s) s5

/-! ### Lost cores (01 R24) -/

/-- Cores of a bent that are lost or replaced: it has one spare. -/
def State.lostCores (s : State) (bent : Nat) : Nat :=
  ((coresOfBent bent).filter fun k => (s.coreAt k).health.state = 2 || (s.coreAt k).phys = 16).length

/-- Marks a bent that has lost more cores than it has spares. -/
def State.checkBent (s : State) (bent : Nat) : State :=
  if 1 < s.lostCores bent then s.modBentAt bent fun b => { b with degraded := true, health := { b.health with state := 1 } } else s

/-! ### The completion record -/

/-- Writes 16 bytes at DONE of a kernel: to host memory for space 6, else through its page tables; dropped where they do
not translate. -/
def State.writeDone (s : State) (pkg : Nat) (k : Kernel) (v : Nat) : State :=
  let done := recordField k.record 0x58 8
  if done / 2 ^ 61 = 6 then
    s.modPkgAt pkg fun p => { p with hostWrites :=
      (BitVec.ofNat 64 (done % 2 ^ 48), (List.range 16).map fun i => BitVec.ofNat 8 (v / 2 ^ (8 * i))) :: p.hostWrites }
  else
    let bent := bentOf (k.cores.headD (pkg * 2048))
    match s.engineXlat bent k.asid k.ptroot .store (done % 2 ^ 48) with
    | (s1, .ok pa) => s1.engineWrite bent pa 16 v
    | (s1, .fault _) => s1

/-- Writes the completion record of a kernel (09 R200) with its final state, status, and the trap cause and core number of a
Faulted context, and raises the MSI-X vector of its queue. -/
def State.completion (s : State) (pkg : Nat) (k : Kernel) (state status cause core : Nat) : State :=
  let v := k.kernid.toNat + 2 ^ 16 * state + 2 ^ 24 * status + 2 ^ 32 * (cause % 2 ^ 16) + 2 ^ 48 * (core % 2 ^ 16) + 2 ^ 64 * (s.time pkg % 2 ^ 64)
  let s1 := s.writeDone pkg k v
  match k.queue with
  | some q =>
    let h := AMap.getD (s1.pkgAt pkg).hostq q {}
    if h.ctl.getLsbD 0 then s1.modPkgAt pkg fun p => { p with msix := (h.ctl >>> 8).setWidth 8 :: p.msix } else s1
  | none => s1

/-! ### Abort -/

/-- Aborts a kernel (09 R201) and, with status 0x13, the kernels that it launched, down to a depth. -/
def State.abortDepth (s : State) (pkg kern status cause core : Nat) : Nat → State
  | 0 => s
  | n + 1 =>
    match s.kernelAt pkg kern with
    | some k =>
      let children := (s.pkgAt pkg).kernels.filter fun x => x.2.parent = some kern
      children.foldl (fun s x => State.abortDepth s pkg x.1 0x13 0 0 n) ((s.completion pkg k 2 status cause core).freeKernel pkg kern k)
    | none => s

/-- Aborts a kernel and its descendants. -/
def State.abortKernel (s : State) (pkg kern status cause core : Nat) : State :=
  s.abortDepth pkg kern status cause core ((s.pkgAt pkg).kernels.length + 1)

/-- What follows when contexts of kernels on a core have become Faulted: their kernels are aborted with status 0x12. -/
def State.abortFaulted (s : State) (core : Nat) (kerns : List Nat) (cause : Nat) : State :=
  kerns.foldl (fun s k => s.abortKernel (pkgOf core) k 0x12 cause (numOf core)) s

end Sys2Proof.Machine
end

