-- ==== Sys2Proof/Machine/Ops.lean ====
section
/-!
DEFINITION. The named operations on registers and slots that instructions share: reading and writing registers with
results in flight (02 R34 to R39), the issue and the retirement of an instruction, and taking a trap (19 R351 to R354).

Readings of the manual and choices that this file codes: assumption log 12, 13, 14, 20, 46, 87, 114, 159.
-/
namespace Sys2Proof.Machine

open Sys2Proof

/-! ### Registers and results in flight -/

/-- A general register; g0 reads zero (01 R11). -/
def Slot.readG (sl : Slot) (r : BitVec 5) : Word := if r = 0 then 0 else sl.g[r.toNat]'r.isLt

/-- The consume taint bit of a general register (02 R53). -/
def Slot.readTaint (sl : Slot) (r : BitVec 5) : Bool := if r = 0 then false else sl.taint.getLsbD r.toNat

/-- A vector register. -/
def Slot.readV (sl : Slot) (r : BitVec 5) : Vec := if h : r.toNat < 24 then sl.v[r.toNat] else 0

/-- Writes a general register at once; a write to g0 is discarded (04 R82).  With taint disabled every write clears the
taint bit (04 R83). -/
def Slot.setG (sl : Slot) (r : BitVec 5) (x : Word) (taint : Bool) : Slot :=
  if r = 0 then sl
  else
    { sl with
      g := sl.g.set r.toNat x r.isLt
      taint := if taint && sl.te then sl.taint ||| (1#32 <<< r.toNat) else sl.taint &&& ~~~(1#32 <<< r.toNat) }

/-- Writes the masked bits of a vector register at once. -/
def Slot.setV (sl : Slot) (r : BitVec 5) (x mask : Vec) : Slot :=
  if h : r.toNat < 24 then { sl with v := sl.v.set r.toNat ((sl.v[r.toNat] &&& ~~~mask) ||| (x &&& mask)) } else sl

/-- Lands a result (02 R36). -/
def Slot.apply (sl : Slot) (p : Pending) : Slot :=
  match p.reg with
  | .g r => sl.setG r (p.value.setWidth 64) p.taint
  | .v r => sl.setV r p.value p.mask

/-- Lands every result due at cycle t, in issue order. -/
def Slot.landUpTo (sl : Slot) (t : Nat) : Slot :=
  { (sl.pend.filter (·.land ≤ t)).foldl Slot.apply sl with pend := sl.pend.filter fun p => !decide (p.land ≤ t) }

/-- Lands every result in flight (02 R39). -/
def Slot.landAll (sl : Slot) : Slot := { sl.pend.foldl Slot.apply sl with pend := [] }

/-- The cycle by which every result in flight has landed. -/
def Slot.lastLanding (sl : Slot) (t : Nat) : Nat := sl.pend.foldl (fun t p => Nat.max t p.land) t

/-- The cycle by which the interlocked results of the named registers have landed (02 R38). -/
def Slot.interlock (sl : Slot) (regs : List Reg) (t : Nat) : Nat :=
  sl.pend.foldl (fun t p => if !p.fixed && regs.contains p.reg then Nat.max t p.land else t) t

/-- The first of the named registers that has a fixed-latency result pending (02 R37). -/
def Slot.pendingReg (sl : Slot) (regs : List Reg) : Option Reg :=
  regs.find? fun r => sl.pend.any fun p => p.fixed && p.reg = r

/-- The code of a register in TINFO of STALLCOUNT (02 R37). -/
def Reg.code : Reg → Nat
  | .g r => r.toNat
  | .v r => 32 + r.toNat

/-- Delivers a result of latency lat issued at cycle t (02 R35, R36): at once if the latency is one cycle and no earlier
result for the register is in flight, else when it lands, not before any earlier result for the register. -/
def Slot.deliver (sl : Slot) (t lat : Nat) (fixed : Bool) (r : Reg) (x mask : Vec) (taint : Bool) : Slot :=
  if lat ≤ 1 && sl.pend.all (fun p => p.reg ≠ r) then sl.apply ⟨r, x, mask, taint, t, fixed⟩
  else
    let land := sl.pend.foldl (fun l p => if p.reg = r then Nat.max l p.land else l) (t + lat)
    { sl with pend := sl.pend ++ [⟨r, x, mask, taint, land, fixed⟩] }

/-- A mask of all bits of a register. -/
def allBits : Vec := BitVec.allOnes 512

/-- Delivers a general-register result of the current slot; a destination of g0 discards it (02 R29). -/
def State.putG (s : State) (r : BitVec 5) (x : Word) (lat : Nat := 1) (fixed : Bool := true) (taint : Bool := false) : State :=
  if r = 0 then s else s.modSlot fun sl => sl.deliver s.cycle lat fixed (.g r) (x.setWidth 512) allBits taint

/-- Delivers a vector-register result of the current slot under a bit mask. -/
def State.putV (s : State) (r : BitVec 5) (x mask : Vec) (lat : Nat) (fixed : Bool := true) : State :=
  s.modSlot fun sl => sl.deliver s.cycle lat fixed (.v r) x mask false

/-- A general register of the current slot. -/
def State.readG (s : State) (r : BitVec 5) : Word := s.slot.readG r

/-- A vector register of the current slot. -/
def State.readV (s : State) (r : BitVec 5) : Vec := s.slot.readV r

/-- The taint of a general register of the current slot. -/
def State.taintOf (s : State) (r : BitVec 5) : Bool := s.slot.readTaint r

/-! ### Physical registers (19 R347, R348) -/

/-- Number of one bits of a word below position k. -/
def onesBelow (n : Nat) : Nat → Nat
  | 0 => 0
  | k + 1 => n / 2 ^ k % 2 + onesBelow n k

/-- The bound registers of a slot that are not spilled, as out numbers them. -/
def Slot.resident (sl : Slot) : BitVec 56 := (sl.boundV ++ sl.boundG) &&& ~~~sl.out

/-- The registers of a slot with a result in flight. -/
def Slot.pendMask (sl : Slot) : BitVec 56 := sl.pend.foldl (fun m p => m ||| (1#56 <<< p.reg.code)) 0

/-- The general registers of a mask, or its vector registers, counted. -/
def maskCount (m : BitVec 56) (vec : Bool) : Nat := if vec then onesBelow (m.toNat / 2 ^ 32) 24 else onesBelow m.toNat 32

/-- Physical registers of a kind that the slots of a core hold bound. -/
def Core.boundCount (c : Core) (vec : Bool) : Nat := c.slots.toList.foldl (fun n sl => n + maskCount sl.resident vec) 0

/-- The registers of a kind that a slot can spill: the bound ones with no result in flight. -/
def Slot.spillable (sl : Slot) (vec : Bool) : BitVec 56 :=
  sl.resident &&& (if vec then 0xFFFFFF00000000 else 0xFFFFFFFF) &&& ~~~sl.pendMask

/-- The slot whose registers of a kind are spilled when the pool is empty: the one whose last issue is oldest, other than the writer. -/
def Core.spillVictim (c : Core) (vec : Bool) : Option Nat :=
  (((List.range 8).filter fun n => n ≠ c.curSlot.val && (c.slotAt n).run ≠ .free && (c.slotAt n).spillable vec ≠ 0).foldl
    (fun best n => match best with
      | some m => if (c.slotAt n).lastIssue < (c.slotAt m).lastIssue then some n else best
      | none => some n) none)

/-- The registers of a mask. -/
def maskRegs (m : BitVec 56) : List Nat := (List.range 56).filter fun i => m.getLsbD i

/-- Bytes of a register of a mask. -/
def maskRegBytes (i : Nat) : Nat := if i < 32 then 8 else 64

/-- Bytes of the spill yard (06 R144). -/
def Core.yardBytes (c : Core) : Nat := (8 - c.ways) * 8192

/-- Bytes that spilled registers take in the yard. -/
def Core.yardUsed (c : Core) : Nat :=
  c.slots.toList.foldl (fun n sl => let m := sl.out &&& ~~~sl.inRecord; n + 8 * maskCount m false + 64 * maskCount m true) 0

/-- The registers of a list that find no room in the yard, in order. -/
def yardOverflow (room : Nat) : List Nat → BitVec 56
  | [] => 0
  | i :: r => if maskRegBytes i ≤ room then yardOverflow (room - maskRegBytes i) r else (1#56 <<< i) ||| yardOverflow room r

/-- Spills the registers of a kind of a slot: to the yard while it has room, else to the task record (19 R348). -/
def Core.spill (c : Core) (n : Nat) (vec : Bool) : Core :=
  let m := (c.slotAt n).spillable vec
  let past := yardOverflow (c.yardBytes - c.yardUsed) (maskRegs m)
  (c.modSlotAt n fun sl => { sl with out := sl.out ||| m, inRecord := sl.inRecord ||| past }).count 0x9 1

/-- Frees physical registers of a kind until n more can be bound (19 R347: 160 general and 48 vector registers, 01 table 1.1). -/
def Core.makeRoom (c : Core) (vec : Bool) (n : Nat) : Nat → Core
  | 0 => c
  | k + 1 =>
    if c.boundCount vec + n ≤ (if vec then 48 else 160) then c
    else
      match c.spillVictim vec with
      | some v => Core.makeRoom (c.spill v vec) vec n k
      | none => c

/-- Binds a register of the current slot to a physical register, spilling another slot if the pool is empty. -/
def Core.bind (c : Core) (r : Reg) : Core :=
  let sl := c.slots[c.curSlot]
  let isBound := match r with
    | .g n => n = 0 || sl.boundG.getLsbD n.toNat
    | .v n => sl.boundV.getLsbD n.toNat
  if isBound then c
  else
    (c.makeRoom (match r with
      | .g _ => false
      | .v _ => true) 1 8).modSlotAt c.curSlot.val fun sl => match r with
      | .g n => { sl with boundG := sl.boundG ||| (1#32 <<< n.toNat) }
      | .v n => { sl with boundV := sl.boundV ||| (1#24 <<< n.toNat) }

/-- Fills the spilled registers of the current slot back (19 R348). -/
def Core.fillBack (c : Core) : Core :=
  let m := c.slots[c.curSlot].out
  if m = 0 then c
  else
    (((c.makeRoom false (maskCount m false) 8).makeRoom true (maskCount m true) 8).modSlotAt c.curSlot.val fun sl =>
      { sl with out := 0, inRecord := 0 }).count 0xA 1

/-! ### STATUS -/

/-- The number of a mode (19 table 19.3). -/
def Mode.code : Mode → Nat
  | .task => 0 | .supervisor => 1 | .firmware => 2

/-- The mode of a number; 3 is reserved and never stored. -/
def Mode.ofCode (n : Nat) : Mode := if n = 1 then .supervisor else if n = 2 then .firmware else .task

/-- STATUS of a slot (19 table 19.4). -/
def Slot.status (sl : Slot) : Word :=
  BitVec.ofNat 64 (sl.mode.code + 4 * sl.td.val + 16 * sl.evt.toNat + 32 * sl.te.toNat)

/-- A trap bank by number. -/
def Slot.bank (sl : Slot) (b : Nat) : Bank := if b = 0 then sl.bank0 else sl.bank1

/-- Replaces a trap bank. -/
def Slot.setBank (sl : Slot) (b : Nat) (x : Bank) : Slot := if b = 0 then { sl with bank0 := x } else { sl with bank1 := x }

/-! ### The save area as the device writes it (19 R361, R419) -/

/-- Faults the context of a save-area access that failed, records cause and address in the core's health record and aborts
the kernel (19 R419, 09 R201). -/
def State.saveAreaFault (s : State) (core kern : Nat) (cause : BitVec 8) (addr : Word) : State :=
  ((s.modCtxOf core kern fun c => { c with state := .faulted }).modCoreAt core fun c =>
    { c with health := { c.health with cause := cause, addr := addr } }).abortFaulted core [kern] cause.toNat

/-- Whether the lines of n bytes of a save area are settled, or the access would fail. -/
def State.saveAreaQuiet (s : State) (core kern off n : Nat) : Bool :=
  let c := s.ctxOf core kern
  match s.engineXlat (bentOf core) c.asid c.ptroot .store (c.saveptr.toNat + off) with
  | (s1, .ok pa) =>
    match s1.homeRoute (bentOf core) pa with
    | .go => s.quietRange (bentOf core) pa n
    | .wait => false
    | .error _ => true
  | (_, .fault _) => true

/-- Writes n bytes at an offset of a context's save area. -/
def State.saveAreaWrite (s : State) (core kern off n v : Nat) : State :=
  let c := s.ctxOf core kern
  let va := c.saveptr.toNat + off
  match s.engineXlat (bentOf core) c.asid c.ptroot .store va with
  | (s1, .ok pa) =>
    match s1.homeRoute (bentOf core) pa with
    | .error _ => s1.saveAreaFault core kern Cause.remoteError (BitVec.ofNat 64 va)
    | _ => s1.engineWrite (bentOf core) pa n v
  | (s1, .fault _) => s1.saveAreaFault core kern 0x05 (BitVec.ofNat 64 va)

/-- Reads n bytes at an offset of a context's save area, or none where the access fails; then the context is Faulted. -/
def State.saveAreaRead (s : State) (core kern off n : Nat) : State × Option Nat :=
  let c := s.ctxOf core kern
  let va := c.saveptr.toNat + off
  match s.engineXlat (bentOf core) c.asid c.ptroot .load va with
  | (s1, .ok pa) =>
    match s1.homeRoute (bentOf core) pa with
    | .error _ => (s1.saveAreaFault core kern Cause.remoteError (BitVec.ofNat 64 va), none)
    | _ =>
      if s1.poisoned pa n then (s1.saveAreaFault core kern Cause.mce (BitVec.ofNat 64 va), none)
      else
        let s2 := s1.recallRange (bentOf core) pa n
        (s2, some (s2.engineRead (bentOf core) pa n))
  | (s1, .fault _) => (s1.saveAreaFault core kern 0x04 (BitVec.ofNat 64 va), none)

/-! ### Traps -/

/-- The eight words of a crash record (19 table 19.8). -/
def State.crashRecord (s : State) (core slot : Nat) (cause : BitVec 8) : List Word :=
  let sl := s.slotOf core slot
  let taskid := if sl.ctx.isSome then BitVec.ofNat 64 (sl.num.toNat + 256 * sl.seq.toNat) else 0
  let k := match sl.ctx with
    | some k => BitVec.ofNat 64 (k + 65536 * numOf core)
    | none => BitVec.ofNat 64 (65536 * numOf core)
  [BitVec.ofNat 64 (cause.toNat + 256 * sl.num.toNat), sl.pc, sl.bank0.tepc, sl.bank0.tcause, sl.bank1.tepc, sl.bank1.tcause, taskid, k]

/-- Writes the words of a list one after another through a writer of words. -/
def writeWords (w : State → Nat → Nat → State) (s : State) (off : Nat) : List Word → State
  | [] => s
  | x :: r => writeWords w (w s off x.toNat) (off + 8) r

/-- CrashReset (19 R354, 26 R412): every slot of the core stops, the crash record goes to CRASHPTR (dropped where it does
not translate) and to the core's health record, every context of the core goes to Faulted and its kernel is aborted, and
the core waits for its reset.  Firmware writes the record to its health record only and marks the core failed in it. -/
def State.crashReset (s : State) (core slot : Nat) (cause : BitVec 8) : State :=
  let record := s.crashRecord core slot cause
  let sl := s.slotOf core slot
  let s1 := match sl.ctx with
    | some k =>
      let c := s.ctxOf core k
      match s.engineXlat (bentOf core) c.asid c.ptroot .store c.crashptr.toNat with
      | (s1, .ok pa) =>
        match s1.homeRoute (bentOf core) pa with
        | .error _ => s1
        | _ => s1.engineWrite (bentOf core) pa 64 (packLanes 64 (record.map BitVec.toNat))
      | (s1, .fault _) => s1
    | none => s
  let s2 := s1.modCoreAt core fun c => Core.countParked (now := s1.cycle)
    { c with
      slots := (List.range 8).foldl (fun v n => if h : n < 8 then v.set n { v[n] with run := .free } else v) c.slots
      ctxs := AMap.mapVals c.ctxs fun x => if x.away then x else { x with state := .faulted, entry := none }
      resetting := true
      resetAt := s1.cycle
      health := { c.health with
        crash := record
        time := BitVec.ofNat 64 (s.time (pkgOf core))
        state := if sl.mode = .firmware then 2 else c.health.state } }
  (if sl.mode = .firmware then s2.checkBent (bentOf core) else s2).abortFaulted core (AMap.keys ((s1.coreAt core).ctxs.filter fun p => !p.2.away)) cause.toNat

/-- What a trap does to a handler task before the trap handler starts (17 R324): its buffered sends are discarded, and
before an MSGDONE the triggering entry goes back to the head of the mailbox with RET set and one more return counted,
and MSGID and cause go to the fault record. -/
def returnEntry (e : Vec) : Vec :=
  let n := e.toNat
  let count := n / 2 ^ 25 % 8
  let low := n % 2 ^ 25 + 2 ^ 25 * (if count < 7 then count + 1 else 7) + 2 ^ 28
  BitVec.ofNat 512 (low + n / 2 ^ 29 * 2 ^ 29)

/-- The handler part of a trap on a slot. -/
def State.abortHandler (s : State) (core slot : Nat) (cause : BitVec 8) : State :=
  let sl := s.slotOf core slot
  match sl.handler, sl.ctx with
  | some h, some k =>
    if h.aborted then s
    else
      let s1 := s.modSlotOf core slot fun sl => { sl with sends := [], handler := some { h with aborted := true } }
      if h.released then s1
      else
        let s2 := s1.modCtxOf core k fun c => { c with mailbox := returnEntry h.entry :: c.mailbox }
        s2.saveAreaWrite core k 0x618 8 (h.entry.toNat / 2 ^ 96 % 2 ^ 32 + 2 ^ 32 * cause.toNat)
  | _, _ => s

/-- Every result in flight of a slot lands, and an instruction that parked in it is left: executed again, it reads its
registers anew (02 R39). -/
def State.landSlot (s : State) (core slot : Nat) : State :=
  { s with cycle := (s.slotOf core slot).lastLanding s.cycle }.modSlotOf core slot fun sl => { sl.landAll with parked := false, half := none, mark := none }

/-- TakeTrap (19 R351) on a slot of a core: results in flight land, the bank of the current depth records the trap, the
mode becomes supervisor (firmware stays in firmware mode, 26 R410), the depth rises and the slot goes to the vector.  At
depth 2 it is the third level.  TEPC[1:0] read zero (02 R33). -/
def State.takeTrapAt (s : State) (core slot : Nat) (cause : BitVec 8) (tval tinfo tepc : Word) (async : Bool) : State :=
  let s1 := s.landSlot core slot
  let sl := s1.slotOf core slot
  if sl.td = 2 then (s1.modCoreAt core fun c => c.count 0xB 1).crashReset core slot cause
  else
    let b := sl.td.val
    let c := s1.coreAt core
    let vec : Word := if sl.mode = .firmware then c.fwvec + 0x200 else ((c.ctxAt (sl.ctx.getD 65536)).tvec)
    let s2 := s1.modSlotOf core slot fun sl =>
      { (sl.setBank b { tepc := tepc &&& ~~~3#64, tcause := BitVec.ofNat 64 (cause.toNat + 256 * sl.num.toNat + (if async then 2 ^ 63 else 0)),
                        tval := tval, tinfo := tinfo, tstat := sl.status }) with
        mode := if sl.mode = .firmware then .firmware else .supervisor
        td := if b = 0 then 1 else 2
        pc := vec + BitVec.ofNat 64 (0x100 * b)
        run := .ready
        nextIssue := s1.cycle + 1
        fill := []
        fillErr := []
        mark := none
        bwait := none
        walkFault := none }
    ((s2.modCoreAt core fun c => c.count 0xB 1).settle core slot).abortHandler core slot cause

/-- A precise trap of the current instruction. -/
def State.trap (s : State) (cause : BitVec 8) (tval : Word) (tinfo : Word := 0) : State :=
  s.takeTrapAt s.cur s.core.curSlot.val cause tval tinfo s.slot.pc false

/-- Whether a slot waits for a reply, or for the second of its instruction's two port accesses. -/
def Slot.awaits (sl : Slot) : Bool :=
  match sl.run with
  | .awaiting _ => true
  | _ => sl.half.isSome

/-- Whether a slot of a core waits for a reply or for the fill of a line; it lands before the slot leaves Parked (06 R142). -/
def Core.awaits (c : Core) (slot : Nat) : Bool := (c.slotAt slot).awaits || c.fillOpen slot

/-- An asynchronous trap that falls due for a slot: taken at once below depth 2, else held (19 R351). -/
def State.asyncTrap (s : State) (core slot : Nat) (cause : BitVec 8) (tval tinfo : Word) : State :=
  let sl := s.slotOf core slot
  if sl.td = 2 || (s.coreAt core).awaits slot then s.modSlotOf core slot fun sl => { sl with held := sl.held ++ [⟨cause, tval, tinfo⟩] }
  else s.takeTrapAt core slot cause tval tinfo sl.pc true

/-! ### Issue and retirement -/

/-- The feature that an instruction word belongs to (09 table 9.2). -/
def featureOf : Instr → Nat
  | .mset .. | .mget .. | .mma .. | .mmaco .. | .mwait .. | .mwaitT .. | .msave .. | .mload .. | .mzero => 1
  | .vqmx .. | .vdqmx .. => 2
  | .vxdec .. => 3
  | .subs .. | .unsubs .. => 5
  | .sendb .. | .rpost .. | .rcancel .. => 6
  | .monset .. | .monarm .. | .monref .. | .monread .. | .monclr .. => 7
  | _ => 0

/-- Whether the word holds a stochastic rounding code, which belongs to feature 4. -/
def stochasticCode : Instr → Bool
  | .vcvt _ _ _ _ _ r _ => r = 4
  | .vqmx _ _ p _ _ => p.toNat % 4 == 2
  | _ => false

/-- Which CSR numbers exist for a mode, and whether they can be written (02 table 2.11): none, read only, read-write. -/
inductive CsrAccess where
  | none | ro | rw
deriving DecidableEq, Repr

/-- Access to a CSR number in task mode and above (02 R54; firmware CSRs 26 R410; 19 R365). -/
def csrAccess (mode : Mode) (sealBits : BitVec 8) (n : Nat) : CsrAccess :=
  let sup := mode ≠ .task
  let roRw : CsrAccess := if sup then .rw else .ro
  let noneRw : CsrAccess := if sup then .rw else .none
  if n ≤ 3 || n = 6 || (8 ≤ n && n ≤ 0xB) || (0x10 ≤ n && n ≤ 0x12) then .ro
  else if n = 4 || n = 5 || n = 0x20 then roRw
  else if (0x100 ≤ n && n ≤ 0x104) || (0x108 ≤ n && n ≤ 0x10C) || n = 0x110 || n = 0x111 || n = 0x120 || n = 0x121 || n = 0x140 || n = 0x141
    then noneRw
  else if (0x180 ≤ n && n ≤ 0x18C) || (0x200 ≤ n && n ≤ 0x27F) || (0x300 ≤ n && n ≤ 0x33F) || n = 0x380 || (0x400 ≤ n && n ≤ 0x4FF)
    then roRw
  else if mode = .firmware then
    (if 0x700 ≤ n && n ≤ 0x7FF then
       (if (n = 0x700 && sealBits.getLsbD 0) || (n = 0x702 && sealBits.getLsbD 1) then .ro else .rw)
     else .none)
  else .none

/-- The CSR number of the fields h and l. -/
def csrNumber (h l : BitVec 6) : Nat := (h ++ l).toNat

/-- Whether another slot of the core holds a context in Running or Parked, which forbids HALT in supervisor mode
(04 R106). -/
def Core.othersRun (c : Core) : Bool :=
  (List.range 8).any fun n => n ≠ c.curSlot.val &&
    match (c.slotAt n).ctx with
    | some k => (c.ctxAt k).state = .running || (c.ctxAt k).state = .parked
    | none => false

/-- Whether the privilege mode permits the instruction (02 R31, R32, R54). -/
def State.privileged (s : State) (i : Instr) : Bool :=
  let m := s.slot.mode
  let acc (h l : BitVec 6) := csrAccess m s.core.sealBits (csrNumber h l)
  match i with
  | .tret => m ≠ .task
  | .halt => m ≠ .task && (m = .firmware || !s.core.othersRun)
  | .csrr h _ l => acc h l ≠ .none
  | .csrw h _ _ l => acc h l = .rw
  | .csrs h a _ l => acc h l = .rw || (acc h l = .ro && a = 0)
  | .csrc h a _ l => acc h l = .rw || (acc h l = .ro && a = 0)
  | .fdrop _ => m = .firmware
  | .fseal _ => m = .firmware
  | _ => true

/-- Whether an instruction takes its meaning: the accepted features and the mode permit it (02 R30, R31). -/
def State.permitted (s : State) (i : Instr) : Bool :=
  s.hasFeature (featureOf i) && (!stochasticCode i || s.hasFeature 4) && s.privileged i

/-- The stall count of an instruction word's S field lies in bits [2:0] of formats A and V (02 R34). -/
def stallOf (sc : BitVec 3) : Nat := sc.toNat

/-- Counts cycle t as one with an issue (19 table 19.14, counter 0x401): once for the two slots of a paired issue, and not again for an instruction
that has parked. -/
def Core.countIssue (c : Core) (t : Nat) : Core :=
  if c.slots[c.curSlot].parked || (List.range 8).any fun n => n ≠ c.curSlot.val && (c.slotAt n).lastIssue = t + 1 then c else c.count 0x1 1

/-- What happens before an instruction takes effect: spilled registers are filled back (19 R348), the issue waits for
interlocked results of its registers (02 R38), results due land, and its destinations are bound (19 R347).  An instruction that
parked reads its registers as they stood when it issued (02 R36), once everything in flight has landed (02 R39). -/
def State.prepare (s : State) (reads writes : List Reg) : State :=
  let t0 := Nat.max s.cycle s.slot.nextIssue
  let t := if s.slot.parked then s.slot.lastLanding t0 else s.slot.interlock (reads ++ writes) t0
  let s1 := { s with cycle := t }.modSlot fun sl => { (if sl.parked then sl else { sl.landUpTo t with lastIssue := t + 1 }) with stop := 0 }
  writes.foldl (fun s r => s.modCore fun c => c.bind r) ((s1.modCore fun c => c.countIssue t).modCore Core.fillBack)

/-- The current slot parks, and another slot of the core can issue two cycles later (06 R142). -/
def State.yield (s : State) : State :=
  ((s.modSlot fun sl => { sl with run := .waiting }).modCore fun c => { c with switchAt := s.cycle + 2, yielded := true }).settle s.cur s.core.curSlot.val

/-- An instruction that cannot complete yet parks with no effect (05 R110); it is executed again when the slot becomes
ready. -/
def State.wait (s : State) : State := (s.modSlot fun sl => { sl with parked := true }).yield

/-- The registers that the slots of a core have spilled to task records since it was before: slot and number in the mask. -/
def Core.recorded (before after : Core) : List (Nat × Nat) :=
  (List.range 8).flatMap fun n => (maskRegs ((after.slotAt n).inRecord &&& ~~~(before.slotAt n).inRecord)).map fun i => (n, i)

/-- Where a register stands in the task record of a slot (19 table 19.13): its offset in the save area. -/
def Slot.recordAt (sl : Slot) (i : Nat) : Nat := 0x10000 + 0x2000 * sl.num.toNat + (if i < 32 then 0x80 + 8 * i else 0x200 + 64 * (i - 32))

/-- Writes a spilled register of a slot, and the taint bits beside a general one, to the slot's task record (19 R348). -/
def State.spillRegister (s : State) (core : Nat) (p : Nat × Nat) : State :=
  let sl := (s.coreAt core).slotAt p.1
  match sl.ctx with
  | some k =>
    if p.2 < 32 then
      (s.saveAreaWrite core k (sl.recordAt p.2) 8 (sl.readG (BitVec.ofNat 5 p.2)).toNat).saveAreaWrite core k (0x10060 + 0x2000 * sl.num.toNat) 8
        sl.taint.toNat
    else s.saveAreaWrite core k (sl.recordAt p.2) 64 (sl.readV (BitVec.ofNat 5 (p.2 - 32))).toNat
  | none => s

/-- Whether the lines of a spilled register's place in the task record are settled. -/
def State.spillQuiet (s : State) (core : Nat) (p : Nat × Nat) : Bool :=
  let sl := (s.coreAt core).slotAt p.1
  match sl.ctx with
  | some k => s.saveAreaQuiet core k (sl.recordAt p.2) (maskRegBytes p.2) && s.saveAreaQuiet core k (0x10060 + 0x2000 * sl.num.toNat) 8
  | none => true

/-- Goes on with an instruction after the spills that its issue made to task records: it waits while a line of theirs is in use, and ends where its own
context becomes Faulted (19 R419). -/
def State.afterSpills (s before : State) (body : State → State) : State :=
  let l := Core.recorded before.core s.core
  if l.isEmpty then body s
  else if !(l.all (s.spillQuiet s.cur)) then before.wait
  else
    let s1 := l.foldl (fun s p => s.spillRegister s.cur p) s
    if s.ctx.state ≠ .faulted && s1.ctx.state = .faulted then s1 else body s1

/-- Whether an instruction has the V format (02 table 2.4). -/
def vectorFormat (i : Instr) : Bool := let m := (encode i >>> 26).toNat; decide (0x22 ≤ m) && decide (m ≤ 0x29)

/-- The issue of an instruction: ILLEGAL where it is not permitted (02 R30, R31), STALLCOUNT where the checking
scoreboard finds a register pending (02 R37), else its body.  A vector instruction that parked before any of its effect resumes with
everything landed (05 R110). -/
def issue (i : Instr) (reads writes : List Reg) (s : State) (body : State → State) : Host.Outcome State Fault Refusal :=
  if s.permitted i then
    let s1 := (if s.slot.parked && s.slot.half.isNone && vectorFormat i then s.landSlot s.cur s.core.curSlot.val else s).prepare reads writes
    match (if s.core.schk && !s1.slot.parked then s1.slot.pendingReg (reads ++ writes) else none) with
    | some r => .next (s1.afterSpills s fun s => s.trap Cause.stallcount ((encode i).setWidth 64) (BitVec.ofNat 64 r.code))
    | none => .next (s1.afterSpills s body)
  else .next (s.trap Cause.illegal ((encode i).setWidth 64))

/-- The retirement of an instruction at a next address: the next instruction of the task issues stall cycles later than
the next cycle (02 R34), or extra cycles later for a taken branch (04 R91), and the counters of 19 R365 advance.  After an
instruction that parked everything in flight has landed (02 R39). -/
def State.retireAt (s : State) (next : Word) (stall : Nat := 0) (extra : Nat := 0) : State :=
  (s.modSlot fun sl =>
    { (if sl.parked then sl.landAll else sl) with
      pc := next, nextIssue := s.cycle + 1 + stall + extra, run := .ready, fill := [], fillErr := [], mark := none, parked := false
      half := none, bwait := none, walkFault := none }).modCore fun c =>
    let c1 := c.count 0x0 1
    if stall = 0 then c1 else c1.count 0xE stall

/-- The retirement of an instruction that goes on at PC + 4. -/
def State.retire (s : State) (stall : Nat := 0) : State := s.retireAt (s.slot.pc + 4) stall

/-! ### Arrivals of one cycle -/

/-- An operation arrives at a port of a bent, with its rank among those of one cycle: one of a lower rank than the port's last in this cycle comes
in the next cycle (11 R229; 13 R249, R256, R258; assumption log 159). -/
def State.taking (s : State) (bent port rank : Nat) : State :=
  let t := match AMap.find? (s.bentAt bent).taken port with
    | some (cycle, k) => if cycle = s.cycle ∧ rank < k then s.cycle + 1 else s.cycle
    | none => s.cycle
  { s with cycle := t }.modBentAt bent fun b => { b with taken := AMap.set b.taken port (t, rank) }

/-- The owner's operation on the deque of the current core: in a cycle that has served a steal it comes in the next one (11 R218). -/
def State.ownerTurn (s : State) : State := if s.core.deque.probedAt = some s.cycle then { s with cycle := s.cycle + 1 } else s

/-- A steal is served at the deque of a core, one in each cycle (11 R218). -/
def State.probed (s : State) (victim : Nat) : State :=
  let t := if (s.coreAt victim).deque.probedAt = some s.cycle then s.cycle + 1 else s.cycle
  { s with cycle := t }.modCoreAt victim fun c => { c with deque := { c.deque with probedAt := some t } }

end Sys2Proof.Machine
end

