-- ==== Sys2Proof/Machine/Flags.lean ====
section
/-!
DEFINITION. Conditions and the bits computed from results: select, skip and branch conditions (04 R85, R86, R91), compare
conditions (04 R103, 05 R118), class masks, counts of bits, and the taint of a destination (04 table 4.1).
-/
namespace Sys2Proof.Machine

open Sys2Proof

/-- The conditions of CSEL and SKIP on a signed value. -/
inductive ZCond where
  | eqz | nez | ltz | gez | gtz | lez
deriving DecidableEq, Repr

/-- Whether a condition holds for a value (04 R85). -/
def ZCond.holds (c : ZCond) (x : Word) : Bool :=
  match c with
  | .eqz => x == 0
  | .nez => x != 0
  | .ltz => x.slt 0
  | .gez => !x.slt 0
  | .gtz => (0#64).slt x
  | .lez => !(0#64).slt x

/-- The branch conditions (04 R91). -/
inductive BCond where
  | eq | ne | lt | ge | ltz | gez
deriving DecidableEq, Repr

/-- Whether a branch condition holds. -/
def BCond.holds (c : BCond) (x y : Word) : Bool :=
  match c with
  | .eq => x == y
  | .ne => x != y
  | .lt => x.slt y
  | .ge => !x.slt y
  | .ltz => x.ult y
  | .gez => !x.ult y

/-- Floating compare conditions: 0 EQ, 1 LT, 2 LE, else UN (04 R103). -/
def fcond (f : Fmt) (c a b : Nat) : Bool :=
  let x := decodeF f a
  let y := decodeF f b
  if x.isNan || y.isNan then c == 3
  else if c = 0 then eqF x y
  else if c = 1 then ltF x y
  else if c = 2 then ltF x y || eqF x y
  else false

/-- Integer compare conditions of VCMP on w-bit lanes (05 R118): EQ, NE, LT, LE, LTZ, LEZ. -/
def vcond (c w a b : Nat) : Bool :=
  match c with
  | 0 => a == b
  | 1 => a != b
  | 2 => decide (toSigned w a < toSigned w b)
  | 3 => decide (toSigned w a ≤ toSigned w b)
  | 4 => decide (a < b)
  | _ => decide (a ≤ b)

/-- The bit of FCLASS (04 R103). -/
def fclassBit (f : Fmt) (w : Nat) : Nat :=
  let neg := w / 2 ^ (f.ebits + f.mbits) % 2 == 1
  let e := w / 2 ^ f.mbits % 2 ^ f.ebits
  let m := w % 2 ^ f.mbits
  if e = 2 ^ f.ebits - 1 then
    (if m = 0 then (if neg then 0 else 7) else if m / 2 ^ (f.mbits - 1) % 2 = 0 then 8 else 9)
  else if e = 0 then
    (if m = 0 then (if neg then 3 else 4) else if neg then 2 else 5)
  else if neg then 1 else 6

/-- Zero bits of the low k bits of x above its highest one bit. -/
def leadingZeros (x : Word) : Nat → Nat
  | 0 => 0
  | k + 1 => if x.getLsbD k then 0 else leadingZeros x k + 1

/-- Zero bits of x from bit 64 - k up to its lowest one bit from there. -/
def trailingZeros (x : Word) : Nat → Nat
  | 0 => 0
  | k + 1 => if x.getLsbD (63 - k) then 0 else trailingZeros x k + 1

/-- One bits among the low k bits of x. -/
def oneBits (x : Word) : Nat → Nat
  | 0 => 0
  | k + 1 => oneBits x k + (x.getLsbD k).toNat

/-- Significant bits of a number. -/
def significantBits (n : Nat) : Nat := if n = 0 then 0 else Nat.log2 n + 1

/-- A Boolean as a word. -/
def flagWord (b : Bool) : Word := if b then 1 else 0

/-- The taint of the destination of an instruction that computes from registers (04 table 4.1). -/
def State.taints (s : State) (rs : List (BitVec 5)) : Bool := rs.any s.taintOf

end Sys2Proof.Machine
end

