-- ==== Sys2Proof/Machine/Fetch.lean ====
section
/-!
DEFINITION. Fetching an instruction word through the L1I (02 R27, R49), choosing the slot that issues (06 R142), and
placing a word where the next fetch reads it.

Readings of the manual and choices that this file codes: assumption log 1, 6, 11, 12, 27, 28, 29, 30, 71.
-/
namespace Sys2Proof.Machine

open Sys2Proof

/-- What the fetch of the current slot gives. -/
inductive Fetched where
  | word (w : BitVec 32)
  /-- A precise trap: cause, TVAL, TINFO. -/
  | trap (cause : BitVec 8) (tval tinfo : Word)
  | wait
deriving DecidableEq, Repr

/-- Whether the core of a slot can issue at all: not halted, gated, waking or waiting for its reset. -/
def Core.active (c : Core) : Bool := !c.halted && !c.gated && !c.waking && !c.resetting

/-- Whether a slot may issue: it is ready, and its context is Running or takes its last instructions before a save; a slot
without a context runs firmware. -/
def Core.canIssue (c : Core) (n : Nat) : Bool :=
  c.active && (c.slotAt n).run = .ready &&
    match (c.slotAt n).ctx with
    | some k => (c.ctxAt k).state = .running || (c.ctxAt k).state = .parked || (c.ctxAt k).state = .draining
    | none => true

/-- The contents of a line for an instruction fill (02 R49): from the bent L2 if it holds a current copy, else from the home, under the
bytes that the bent L2 holds dirty. -/
def State.fetchLine (s : State) (core line : Nat) : BitVec 2048 :=
  let home := s.memRead (line * 256) 256
  match AMap.find? (s.bentAt (bentOf core)).l2 line with
  | some l => if (s.bentAt (bentOf core)).current l then l.data else BitVec.ofNat 2048 (mergeBytes home l.data.toNat l.dirty.toNat 256)
  | none => BitVec.ofNat 2048 home

/-- Puts a line into the L1I of the current core: where the four ways of its set are full, one of them, chosen freely, leaves
(06 R143). -/
def State.fillFetched (s : State) (line : Nat) (l : BitVec 2048) : State :=
  let inSet := s.core.l1i.keys.filter fun n => n % 32 = line % 32
  if inSet.length < 4 then s.modCore fun c => { c with l1i := AMap.set c.l1i line l }
  else
    let out := inSet.getD ((Config.freeValue s.fresh).toNat % inSet.length) 0
    (s.modCore fun c => { c with l1i := AMap.set (AMap.erase c.l1i out) line l }).bump

/-- The line of a physical address as the L1I of the current core holds it; an absent line is filled. -/
def State.fetchAt (s : State) (pa : Nat) : State × BitVec 2048 :=
  match AMap.find? s.core.l1i (pa / 256) with
  | some l => (s, l)
  | none =>
    let l := s.fetchLine s.cur (pa / 256)
    (s.fillFetched (pa / 256) l, l)

/-- The word that the current slot has already fetched at its PC (02 R49). -/
def State.fetchedAhead (s : State) : Option (BitVec 32) :=
  let pc := s.slot.pc
  match s.slot.ahead with
  | some a =>
    if a.mode = s.slot.mode && a.asid = s.ctx.asid && a.root = s.ctx.ptroot && decide (a.pc.toNat ≤ pc.toNat) &&
        decide (pc.toNat < a.pc.toNat + 4 * a.n) && decide (pc.toNat / 256 = a.pc.toNat / 256) then
      some (a.line.extractLsb' (8 * (pc.toNat % 256)) 32)
    else none
  | none => none

/-- The word at the PC of the current slot in a line just read.  The words that follow it are fetched with it, as many as the device
chooses, up to the end of the line. -/
def State.takeWord (s : State) (line : BitVec 2048) : State × BitVec 32 :=
  let sl := s.slot
  let n := 1 + (Config.freeValue s.fresh).toNat % 64
  ((s.modSlot fun x => { x with ahead := some ⟨sl.pc, n, line, sl.mode, s.ctx.asid, s.ctx.ptroot⟩ }).bump,
    line.extractLsb' (8 * (sl.pc.toNat % 256)) 32)

/-- The reply code of a line that neither the L1I of the current core nor its bent's L2 holds current and whose home it cannot reach; some none
while a path is awaited. -/
def State.fetchBlocked (s : State) (pa : Nat) : Option (Option Nat) :=
  if AMap.has s.core.l1i (pa / 256) || (match AMap.find? s.bent.l2 (pa / 256) with
      | some l => s.bent.current l
      | none => false) then none
  else
    match s.homeRoute (bentOf s.cur) pa with
    | .go => none
    | .wait => some none
    | .error c => some (some c)

/-- The fetch of the current slot at its PC from its L1I (02 R27; 21 R371 for PAGE-FETCH; 22 R391 for a home that cannot be reached; 26
R418 for poisoned words). -/
def State.fetchLineAt (s : State) : State × Fetched :=
  let pc := s.slot.pc
  match s.translate .fetch pc.toNat with
  | (s1, .ok pa _) =>
    match s1.fetchBlocked pa with
    | some none => (s1, .wait)
    | some (some c) => (s1, .trap Cause.remoteError pc (BitVec.ofNat 64 c))
    | none =>
      if s1.poisoned pa 4 then (s1, .trap Cause.mce pc 0)
      else
        let p := s1.fetchAt pa
        let q := p.1.takeWord p.2
        (q.1, .word q.2)
  | (s1, .fault t) => (s1, .trap PageUse.fetch.cause pc (BitVec.ofNat 64 t))
  | (s1, .wait) => (s1, .wait)

/-- The fetch of the current slot: the word that it has already fetched at its PC, or one read through its L1I. -/
def State.fetch (s : State) : State × Fetched :=
  match s.fetchedAhead with
  | some w => (s, .word w)
  | none => s.fetchLineAt

/-- A slot whose next instruction is not fetched yet parks: what it has in flight lands, and it fetches again when it becomes ready. -/
def State.waitFetch (s : State) : State := (s.landSlot s.cur s.core.curSlot.val).yield

/-- Makes a slot of a core the current one: the results in flight of the slot left land first, and another slot issues no
earlier than two cycles after its core parked (02 R39, 06 R142).  An instruction that the slot left is parked in has read its
registers already. -/
def State.switchTo (s : State) (core slot : Nat) : State :=
  let c := s.coreAt core
  if c.curSlot.val = slot then { s with cur := core }.modCoreAt core fun c => { c with yielded := false }
  else
    let left := c.slots[c.curSlot]
    let t := left.lastLanding (Nat.max s.cycle c.switchAt)
    { s with cur := core, cycle := t }.modCoreAt core fun c =>
      { c with slots := if left.parked then c.slots else c.slots.set c.curSlot left.landAll
               curSlot := if h : slot < 8 then ⟨slot, h⟩ else c.curSlot
               yielded := false }

/-- The slot of a core that issues next: the current one if it has not parked and can, else the first after it that can (06 R142). -/
def Core.nextSlot (c : Core) : Option Nat :=
  ((List.range 8).map fun i => (c.curSlot.val + i + c.yielded.toNat) % 8).find? c.canIssue

/-- Whether an instruction is of the two-pipe class (05 R109): VINT, the VFP operations that one FMA pipe performs, VFMA, VCVT with
fn[3] = 0, and VCMP. -/
def twoPipe (i : Instr) : Bool :=
  let w := encode i
  let major := (w >>> 26).toNat
  let fn := (w >>> 3).toNat % 16
  vectorFormat i && (major == 0x22 || (major == 0x23 && decide (fn ≤ 4)) || major == 0x24 || (major == 0x25 && decide (fn < 8)) || major == 0x29)

/-- Whether the next instruction of the current slot is of the two-pipe class. -/
def State.issuesTwoPipe (s : State) : Bool :=
  match s.fetch with
  | (_, .word w) => (decode w).any twoPipe
  | _ => false

/-- The state with another slot of the current core in the place of the current one, for an issue in the same cycle. -/
def State.besides (s : State) (slot : Nat) : State := s.modCore fun c => { c with curSlot := if h : slot < 8 then ⟨slot, h⟩ else c.curSlot }

/-- Whether a slot of the current core can issue in the cycle of an issue of the current slot (05 R109). -/
def State.canPair (s : State) (slot : Nat) : Bool :=
  slot ≠ s.core.curSlot.val && s.core.canIssue slot && !(s.core.slotAt slot).parked && decide ((s.core.slotAt slot).nextIssue ≤ s.cycle) &&
    (s.besides slot).issuesTwoPipe

/-- Whether a slot waits for a table walk of its bent, which will answer it (21 R375). -/
def State.awaitsWalk (s : State) (core slot : Nat) : Bool :=
  (s.bentAt (bentOf core)).walks.any fun w => w.users.any fun u => u.core == core && u.slot == slot

/-- Whether a parked slot waits for no reply, no fill and no table walk (06 R142). -/
def State.readyable (s : State) (core slot : Nat) : Bool :=
  (s.slotOf core slot).run = .waiting && !s.awaitsWalk core slot && !(s.coreAt core).fillOpen slot

/-- A slot of a core that waits and can be examined again. -/
def State.nextWaiting (s : State) (core : Nat) : Option Nat :=
  if (s.coreAt core).active then
    ((List.range 8).map fun i => ((s.coreAt core).curSlot.val + 1 + i) % 8).find? fun n => s.readyable core n
  else none

/-- Whether a slot of a core can take a held asynchronous trap (19 R351): below depth 2, and with no reply outstanding (06 R142). -/
def Core.canTrap (c : Core) (n : Nat) : Bool :=
  (c.slotAt n).td ≠ 2 && ((c.slotAt n).run = .ready || (c.slotAt n).run = .waiting) && !c.awaits n

/-- A slot of a core with a held asynchronous trap that it can take. -/
def Core.heldReady (c : Core) : Option Nat :=
  if c.active then (List.range 8).find? fun n => !(c.slotAt n).held.isEmpty && c.canTrap n else none

/-- The turn taken when the agenda is empty: the current core goes on, or a cycle passes. -/
def State.autoTurn (s : State) : Turn :=
  match s.core.heldReady with
  | some n => .event (.heldAsyncTrapDelivery s.cur n)
  | none =>
    match s.core.nextSlot with
    | some n => .issue s.cur n
    | none =>
      match s.nextWaiting s.cur with
      | some n => .event (.slotReady s.cur n)
      | none => .tick 1

/-- Takes the first turn of the agenda, or the turn that follows from the state. -/
def State.takeTurn (s : State) : Turn × State :=
  match s.agenda with
  | t :: r => (t, { s with agenda := r })
  | [] => (s.autoTurn, s)

/-- The state with the bytes of an instruction word placed where the next step of the current slot fetches it: at the
physical address of its PC, with no older copy of the line in the core's L1I or the bent L2 and no word fetched ahead. -/
def State.placeWord (s : State) (w : Nat) : State :=
  let s0 := { s with agenda := [] }
  match s0.translate .fetch s0.slot.pc.toNat with
  | (_, .ok pa _) =>
    let line := pa / 256
    (({ s0 with mem := Memory.writeNat s0.mem pa 4 w }.modCore fun c => { c with l1i := AMap.erase c.l1i line }).modBent fun b =>
      { b with l2 := AMap.erase b.l2 line }).modSlot fun sl => { sl with ahead := none }
  | _ => s0

end Sys2Proof.Machine
end

