-- ==== Sys2Proof/Machine/LinkBlock.lean ====
section
/-!
DEFINITION. The link blocks of BAR0 (22 R392, tables 22.6 to 22.8) and the path to the host.

Readings of the manual and choices that this file codes: assumption log 17, 106.
-/
namespace Sys2Proof.Machine

open Sys2Proof

/-! ### Links and their ends -/

/-- The dies, by number in the package, on which a link ends (22 table 22.1). -/
def linkEnds (id : Nat) : List Nat :=
  if id = 1 then [0, 1] else if id = 2 then [0, 2] else if id = 3 then [0, 3]
  else if id = 4 then [1, 2] else if id = 5 then [1, 3] else if id = 6 then [2, 3]
  else if id = 7 then [0] else if id = 8 then [1]
  else if 9 ≤ id ∧ id ≤ 44 then [(id - 9) / 9] else []

/-- LINKID of link i of a die: 0 to 2 UCIe, 3 to 11 Weavel ports, 12 the host link of die 0 or 1. -/
def linkOfDie (die i : Nat) : Nat :=
  if i < 3 then ((List.range 6).filter fun k => (linkEnds (k + 1)).contains die).getD i 0 + 1
  else if i < 12 then 9 + 9 * die + (i - 3)
  else if i = 12 ∧ die < 2 then 7 + die
  else 0

/-- The number of a link state (22 table 22.7). -/
def LinkState.code : LinkState → Nat
  | .down => 0 | .training => 1 | .up => 2 | .quiescing => 3 | .quiesced => 4 | .retraining => 5 | .failed => 6 | .isolated => 7

/-- LSTAT of a link. -/
def Link.lstat (l : Link) (id : Nat) : Nat :=
  id % 256 * 2 ^ 56 + l.st.code * 2 ^ 52 + l.width % 256 * 2 ^ 40 + Nat.min l.repaired 255 * 2 ^ 32 + Nat.min l.retrains 65535 * 2 ^ 16 +
    Nat.min l.replays 65535

/-- LTMO of a link in cycles: the lower value of its two ends (22 R389). -/
def State.ltmoCycles (s : State) (pkg id : Nat) : Nat :=
  1400 * ((linkEnds id).map fun d => (s.dieAt (pkg * 4 + d)).ltmo.toNat).foldl Nat.min (2 ^ 20)

/-! ### Registers -/

/-- Eight bytes of the link block of a die at a multiple of 8. -/
def State.linkBlockWord (s : State) (die off : Nat) : Nat :=
  let d := s.dieAt die
  if off = 0 then d.ltmo.toNat
  else if off = 8 then d.logHead.toNat + 2 ^ 32 * (d.logTail.toNat + 2 ^ 31 * d.logOvf.toNat)
  else if 0x100 ≤ off ∧ off < 0x168 then
    let id := linkOfDie (die % 4) ((off - 0x100) / 8)
    if id = 0 then 0 else (s.link (die / 4) id).lstat id
  else if 0x800 ≤ off ∧ off < 0x1000 then
    let e := AMap.getD d.log ((off - 0x800) / 16) (0, 0)
    if off % 16 = 0 then e.1.toNat else e.2.toNat
  else 0

/-- n bytes of the link block of a die. -/
def State.linkBlockRead (s : State) (die off n : Nat) : Nat :=
  packLanes 8 ((List.range n).map fun i => s.linkBlockWord die ((off + i) / 8 * 8) / 2 ^ (8 * ((off + i) % 8)) % 256)

/-- A write of LTMO: 0 and values above 1,000,000 leave it unchanged. -/
def Die.writeLtmo (d : Die) (v : Nat) : Die :=
  let x := v % 2 ^ 20
  if 1 ≤ x ∧ x ≤ 1000000 then { d with ltmo := BitVec.ofNat 20 x } else d

/-- A write of LOGHEAD clears OVF; the entries from the new head to the tail are those not read. -/
def Die.writeLogHead (d : Die) (v : Nat) : Die :=
  { d with logHead := BitVec.ofNat 7 v, logOvf := false, logUnread := (d.logTail - BitVec.ofNat 7 v).toNat }

/-- Whether bytes off to off + n - 1 touch bytes a to a + m - 1. -/
def touches (off n a m : Nat) : Bool := decide (off < a + m) && decide (a < off + n)

/-- The number at a register of m bytes at a after n bytes of v are written at off. -/
def overwritten (old a m off n v : Nat) : Nat :=
  packLanes 8 ((List.range m).map fun i =>
    if off ≤ a + i ∧ a + i < off + n then v / 2 ^ (8 * (a + i - off)) % 256 else old / 2 ^ (8 * i) % 256)

/-- A store of n bytes to the link block of a die. -/
def State.linkBlockWrite (s : State) (die off n v : Nat) : State :=
  s.modDieAt die fun d =>
    let d1 := if touches off n 0 8 then d.writeLtmo (overwritten d.ltmo.toNat 0 8 off n v) else d
    if touches off n 8 4 then d1.writeLogHead (overwritten d1.logHead.toNat 8 4 off n v) else d1

/-! ### Space 6 -/

/-- The BAR0 offset of a host bus address, where BAR0 stands in the package's own host window (22 R389). -/
def State.barOffset (s : State) (pkg o n : Nat) : Option Nat :=
  match (s.pkgAt pkg).bar0 with
  | some b => if b ≤ o ∧ o + n ≤ b + 2 ^ 16 then some (o - b) else none
  | none => none

/-- Bytes of BAR0 as the data plane reads them: it reaches the link blocks alone (01 R23). -/
def State.barRead (s : State) (pkg o n : Nat) : Nat :=
  if 0x1000 ≤ o ∧ o < 0x5000 then s.linkBlockRead (pkg * 4 + (o / 4096 - 1)) (o % 4096) n else 0

/-- A store of the data plane to BAR0. -/
def State.barWrite (s : State) (pkg o n v : Nat) : State :=
  if 0x1000 ≤ o ∧ o < 0x5000 then s.linkBlockWrite (pkg * 4 + (o / 4096 - 1)) (o % 4096) n v else s

/-- LINKID of the active host link of a package. -/
def State.hostLink (s : State) (pkg : Nat) : Nat := 7 + (s.pkgAt pkg).control

/-- The path of a die to the host: to the die of the active host link, and across that link unless the access ends in BAR0. -/
def State.hostRoute (s : State) (die : Nat) (inside : Bool) : Route :=
  let pkg := die / 4
  match s.route die (pkg * 4 + (s.pkgAt pkg).control) with
  | .go => if inside || s.linkUp pkg (s.hostLink pkg) then .go else if s.linkLost pkg (s.hostLink pkg) then .error 3 else .wait
  | r => r

end Sys2Proof.Machine
end

