-- ==== Sys2Proof/Machine/Shapes.lean ====
section
/-!
DEFINITION. The geometry of a transfer: the fields of an address (03 R69), element formats, shape records (15 R286), and where the rows and the
scales of a transfer lie (15 R290, R292, R293, R295).

Readings of the manual and choices that this file codes: assumption log 77, 79.
-/
namespace Sys2Proof.Machine

open Sys2Proof

/-! ### Addresses -/

/-- The space of an address (03 R69). -/
def spaceOf (a : Word) : Nat := a.toNat / 2 ^ 61
/-- The format code of an address. -/
def formatOf (a : Word) : Nat := a.toNat / 2 ^ 56 % 32
/-- The block-length log of an address. -/
def blogOf (a : Word) : Nat := a.toNat / 2 ^ 53 % 8
/-- The 48-bit offset of an address. -/
def offsetOf (a : Word) : Nat := a.toNat % 2 ^ 48

/-- The core number of a space-4 address as a key. -/
def remoteCore (a : Word) : Nat := a.toNat / 2 ^ 40 % 256 * 2048 + a.toNat / 2 ^ 29 % 2048

/-- The store code of a space-4 address. -/
def remoteStore (a : Word) : Nat := a.toNat / 2 ^ 27 % 4

/-! ### Formats and records -/

/-- Element width in bits of a format code (03 tables 3.1 to 3.3); 8 for format 0 and XE8 (15 R287). -/
def formatBits (f : Nat) : Nat :=
  if f = 13 ∨ f = 14 ∨ f = 20 then 4
  else if f = 11 ∨ f = 12 ∨ f = 18 ∨ f = 19 then 6
  else if f = 3 ∨ f = 7 ∨ f = 8 then 16
  else if f = 4 ∨ f = 6 then 32
  else if f = 5 then 64
  else 8

/-- Element size in whole bytes. -/
def formatBytes (f : Nat) : Nat := (formatBits f + 7) / 8

/-- A field of n bytes of a record's image (15 table 15.2). -/
def ShapeRec.field (r : ShapeRec) (off n : Nat) : Nat := r.image.toNat / 2 ^ (8 * off) % 2 ^ (8 * n)
/-- NDIM. -/
def ShapeRec.ndim (r : ShapeRec) : Nat := r.field 0 1
/-- FMT. -/
def ShapeRec.fmt (r : ShapeRec) : Nat := r.field 1 1 % 32
/-- BLOG. -/
def ShapeRec.blog (r : ShapeRec) : Nat := r.field 1 1 / 32
/-- BOX of a dimension. -/
def ShapeRec.box (r : ShapeRec) (d : Nat) : Nat := r.field (2 + 2 * d) 2
/-- EXT of a dimension. -/
def ShapeRec.ext (r : ShapeRec) (d : Nat) : Nat := r.field (0xC + 4 * d) 4
/-- Byte stride of a dimension from 1. -/
def ShapeRec.str (r : ShapeRec) (d : Nat) : Nat := if d = 0 then 0 else r.field (0x20 + 6 * (d - 1)) 6
/-- AUX. -/
def ShapeRec.aux (r : ShapeRec) : Nat := r.field 0x38 8
/-- Elements of the box in a dimension; 1 beyond NDIM. -/
def ShapeRec.count (r : ShapeRec) (d : Nat) : Nat := if d < r.ndim then r.box d else 1

/-- A pointer moved by a number of bytes; the descriptor stays and the offset wraps. -/
def movePtr (p : Word) (delta : Int) : Word :=
  BitVec.ofNat 64 (p.toNat / 2 ^ 48 * 2 ^ 48 + (((p.toNat % 2 ^ 48 : Nat) : Int) + delta).toNat % 2 ^ 48)

/-! ### The geometry of a transfer (15 R290, R292, R293) -/

/-- A CX register of a transfer. -/
def Transfer.reg (t : Transfer) (i : Nat) : Nat := (AMap.getD t.cx i 0).toNat
/-- SHAPE.KIND. -/
def Transfer.kind (t : Transfer) : Nat := t.reg 2 / 2 ^ 62
/-- SHAPE.LEN of a linear copy. -/
def Transfer.len (t : Transfer) : Nat := t.reg 2 % 2 ^ 33
/-- OPTS.Q. -/
def Transfer.quant (t : Transfer) : Bool := t.reg 5 / 2 ^ 44 % 2 == 1
/-- OPTS.RND. -/
def Transfer.rnd (t : Transfer) : Nat := t.reg 5 / 2 ^ 45 % 8
/-- OPTS.RSM. -/
def Transfer.resumed (t : Transfer) : Bool := t.reg 5 / 2 ^ 50 % 2 == 1
/-- DEAL.EN. -/
def Transfer.dealt (t : Transfer) : Bool := t.reg 7 / 2 ^ 63 == 1
/-- Bytes of a dealt block. -/
def Transfer.block (t : Transfer) : Nat := 64 * (t.reg 7 % 2 ^ 10)
/-- CHAIN.EN. -/
def Transfer.chained (t : Transfer) : Bool := t.reg 8 / 2 ^ 63 == 1
/-- The pointer of a transfer's destination: DST, or the base of its record for a shaped destination (15 R290). -/
def Transfer.dst (t : Transfer) : Word := if t.kind = 2 then t.shape.base else AMap.getD t.cx 1 0
/-- The pointer of the source side: SRC, or the base of the record. -/
def Transfer.src (t : Transfer) : Word := if t.kind = 1 then t.shape.base else AMap.getD t.cx 0 0

/-- Format and block log of a side as named: the record's, or those of a pointer. -/
def Transfer.named (t : Transfer) (dst : Bool) : Nat × Nat :=
  if t.kind = (if dst then 2 else 1) then (t.shape.fmt, t.shape.blog)
  else
    let p := if dst then t.dst else t.src
    (formatOf p, blogOf p)

/-- The format of a side: a format-0 side takes the other's. -/
def Transfer.format (t : Transfer) (dst : Bool) : Nat := if (t.named dst).1 = 0 then (t.named (!dst)).1 else (t.named dst).1

/-- Whether a shaped copy moves XE8 rows. -/
def Transfer.xe8 (t : Transfer) : Bool := t.kind != 0 && t.shape.fmt == 22

/-- Bits of an element on a side: those of the shaped side's record, or under quantize those of the side's own format. -/
def Transfer.bits (t : Transfer) (dst : Bool) : Nat :=
  if t.quant || t.kind = 0 then formatBits (t.format dst) else formatBits t.shape.fmt

/-- Elements of a row; a linear copy is one row. -/
def Transfer.cols (t : Transfer) : Nat := if t.kind = 0 then t.len * 8 / t.bits false else t.shape.count 0

/-- Rows of the box; a dealt copy has one row for each block. -/
def Transfer.rows (t : Transfer) : Nat :=
  if t.kind ≠ 0 then t.shape.count 1 * t.shape.count 2 * t.shape.count 3 * t.shape.count 4
  else if t.dealt then t.len / t.block else 1

/-- Destination bytes of a row of fixed length. -/
def Transfer.rowBytes (t : Transfer) : Nat :=
  if t.dealt then t.block else if t.kind = 0 && !t.quant then t.len else t.cols * t.bits true / 8

/-- Position of row r in dimension d from 1. -/
def Transfer.at_ (t : Transfer) (r d : Nat) : Nat :=
  let n := t.shape.count
  if d = 1 then r % n 1 else if d = 2 then r / n 1 % n 2 else if d = 3 then r / (n 1 * n 2) % n 3 else r / (n 1 * n 2 * n 3)

/-- Box origin in dimension d. -/
def Transfer.orig (t : Transfer) (d : Nat) : Int :=
  let x := t.reg (t.kind - 1)
  let y := t.reg (t.kind + 2)
  if d = 0 then toSigned 32 x else if d = 1 then toSigned 32 (x / 2 ^ 32) else toSigned 16 (y / 2 ^ (16 * (d - 2)))

/-- Row pitch of the unshaped side. -/
def Transfer.pitch1 (t : Transfer) : Nat :=
  let p := t.reg (5 - t.kind) % 2 ^ 32
  if p = 0 then t.cols * t.bits (t.kind = 1) / 8 else p

/-- Plane pitch of the unshaped side. -/
def Transfer.pitch2 (t : Transfer) : Nat :=
  let p := t.reg (5 - t.kind) / 2 ^ 32
  if p = 0 then t.pitch1 * t.shape.count 1 else p

/-- Offset of row r on the unshaped side. -/
def Transfer.unshaped (t : Transfer) (r : Nat) : Nat :=
  t.at_ r 1 * t.pitch1 + t.pitch2 * (t.at_ r 2 + t.shape.count 2 * (t.at_ r 3 + t.shape.count 3 * t.at_ r 4))

/-- Offset of row r from the base on the shaped side. -/
def Transfer.shaped (t : Transfer) (r : Nat) : Int :=
  t.orig 0 * t.bits (t.kind = 2) / 8 +
    ((List.range 4).map (· + 1)).foldl (fun n d => if d < t.shape.ndim then n + (t.orig d + t.at_ r d) * t.shape.str d else n) 0

/-- First in-bounds element of the box in dimension d, and the one past the last (15 R292). -/
def Transfer.inLo (t : Transfer) (d : Nat) : Int := if t.orig d < 0 then 0 else t.orig d
/-- The one past the last in-bounds element. -/
def Transfer.inHi (t : Transfer) (d : Nat) : Int :=
  if t.orig d + t.shape.box d < t.shape.ext d then t.orig d + t.shape.box d else t.shape.ext d
/-- Whether the box lies wholly outside. -/
def Transfer.outside (t : Transfer) : Bool := (List.range t.shape.ndim).any fun d => decide (t.inHi d ≤ t.inLo d)
/-- Whether an element of the box is clipped. -/
def Transfer.clipped (t : Transfer) : Bool :=
  t.kind != 0 && (List.range t.shape.ndim).any fun d => decide (t.orig d < 0) || decide ((t.shape.ext d : Int) < t.orig d + t.shape.box d)

/-- Elements of row r that are in bounds: first and one past the last. -/
def Transfer.inRow (t : Transfer) (r : Nat) : Nat × Nat :=
  if t.kind = 0 then (0, t.cols)
  else if ((List.range 4).map (· + 1)).any fun d =>
      decide (d < t.shape.ndim) && (decide (t.orig d + t.at_ r d < 0) || decide ((t.shape.ext d : Int) ≤ t.orig d + t.at_ r d)) then (0, 0)
  else
    let lo := (t.inLo 0 - t.orig 0).toNat
    (lo, Nat.max lo (t.inHi 0 - t.orig 0).toNat)

/-- The address of a dealt block (06 R149). -/
def Transfer.dealtAt (t : Transfer) (core j : Nat) : Word :=
  let x := t.reg 7
  let c := x / 2 ^ 40 % 256
  let target := x / 2 ^ 18 % 2 ^ 11 + j % c * (x / 2 ^ 29 % 2 ^ 11)
  let o := offsetOf t.dst + j / c * t.block
  BitVec.ofNat 64 (4 * 2 ^ 61 + pkgOf core % 256 * 2 ^ 40 + target * 2 ^ 29 + spaceOf t.dst * 2 ^ 27 + o)

/-- One row of a copy: where its first byte stands on both sides, its destination bytes, those of them that move, and its elements in
bounds. -/
structure CopyRow where
  dst : Word
  src : Word
  bytes : Nat
  lo : Nat
  hi : Nat
  first : Nat := 0
  last : Nat := 0
deriving DecidableEq, Repr

/-- Row r of a copy whose rows have fixed length. -/
def Transfer.row (t : Transfer) (core r : Nat) : CopyRow :=
  let e := t.inRow r
  if t.dealt then ⟨t.dealtAt core r, movePtr t.src (r * t.block : Nat), t.block, 0, t.block, 0, 0⟩
  else
    let place (dst : Bool) : Word :=
      let p := if dst then t.dst else t.src
      if t.kind = 0 then p else movePtr p (if (t.kind = 2) = dst then t.shaped r else (t.unshaped r : Int))
    let full := t.kind = 0 && !t.quant
    ⟨place true, place false, t.rowBytes, if full then 0 else e.1 * t.bits true / 8, if full then t.len else (e.2 * t.bits true + 7) / 8, e.1, e.2⟩

/-- Destination bytes of the elements of a copy with rows of fixed length. -/
def Transfer.elemBytes (t : Transfer) : Nat := t.rows * t.rowBytes

/-- Scale bytes of a quantizing copy (15 R295). -/
def Transfer.scaleBytes (t : Transfer) : Nat := if t.quant then t.rows * t.cols / 32 else 0

/-- The address of the scale of block j: behind the box, or in AUX of a shaped destination. -/
def Transfer.scaleAt (t : Transfer) (j : Nat) : Word :=
  if t.kind = 2 then movePtr (BitVec.ofNat 64 t.shape.aux) (j : Int) else movePtr t.dst (64 * ((t.elemBytes + 63) / 64) + j : Nat)

/-- The in-bounds range of the shaped side, as offsets: its lowest byte and the one past its highest. -/
def Transfer.shapedRange (t : Transfer) : Nat × Nat :=
  let base := offsetOf t.shape.base
  if t.xe8 then (base, base + t.shape.ext 1 * t.shape.str 1)
  else if t.outside then (base, base)
  else
    let ds := ((List.range 4).map (· + 1)).filter fun d => decide (d < t.shape.ndim)
    let b := t.bits (t.kind = 2)
    (base + (t.inLo 0).toNat * b / 8 + ds.foldl (fun n d => n + (t.inLo d).toNat * t.shape.str d) 0,
     base + ((t.inHi 0).toNat * b + 7) / 8 + ds.foldl (fun n d => n + ((t.inHi d).toNat - 1) * t.shape.str d) 0)

/-- The range of a side, as offsets (15 R291). -/
def Transfer.range (t : Transfer) (dst : Bool) : Nat × Nat :=
  if t.kind = (if dst then 2 else 1) then t.shapedRange
  else
    let o := offsetOf (if dst then t.dst else t.src)
    if t.kind = 0 then (o, o + (if dst && t.quant then 64 * ((t.elemBytes + 63) / 64) + t.scaleBytes else t.len))
    else if t.xe8 then (o, o + t.rows * t.pitch1)
    else if dst && t.quant then (o, Nat.max (o + t.unshaped (t.rows - 1) + t.rowBytes) (o + 64 * ((t.elemBytes + 63) / 64) + t.scaleBytes))
    else (o, o + t.unshaped (t.rows - 1) + t.cols * t.bits dst / 8)

/-- An offset kept within the destination range. -/
def Transfer.clamp (t : Transfer) (o : Nat) : Nat := Nat.max t.lo (Nat.min t.hi o)

/-- Scale bytes that land in the AUX array of a shaped destination (15 R295). -/
def Transfer.auxScales (t : Transfer) : Nat := if t.kind = 2 then t.scaleBytes else 0

/-- Whether row r has an element in bounds. -/
def Transfer.rowIn (t : Transfer) (r : Nat) : Bool := decide ((t.inRow r).1 < (t.inRow r).2)

/-- The first row from r on with an element in bounds, of k rows at most; the number of rows where there is none. -/
def Transfer.nextRow (t : Transfer) (r : Nat) : Nat → Nat
  | 0 => t.rows
  | k + 1 => if t.rows ≤ r then t.rows else if t.rowIn r then r else Transfer.nextRow t (r + 1) k

/-- The first destination byte from byte n on that is not clipped; the number of the elements' bytes where there is none.  Clipped elements of a shaped
destination have no destination bytes, and the engine passes over them (15 R292). -/
def Transfer.nextByte (t : Transfer) (n : Nat) : Nat :=
  if t.kind ≠ 2 || t.xe8 || t.rowBytes = 0 || t.elemBytes ≤ n then n
  else if t.outside then t.elemBytes
  else
    let r := n / t.rowBytes
    let o := n % t.rowBytes
    let lo (r : Nat) := (t.inRow r).1 * t.bits true / 8
    let hi := ((t.inRow r).2 * t.bits true + 7) / 8
    if t.rowIn r && decide (o < hi) then r * t.rowBytes + Nat.max o (lo r)
    else
      let q := t.nextRow (r + 1) t.rows
      if t.rows ≤ q then t.elemBytes else q * t.rowBytes + lo q

/-! ### Posts (17 table 17.5) -/

/-- A word of a receive descriptor. -/
def Post.word (p : Post) (i : Nat) : Nat := (p.words.getD i 0).toNat

/-- The destination side of a post as the destination of a transfer. -/
def Post.transfer (p : Post) : Transfer :=
  let t : Transfer :=
    { slot := 0, chan := 0, seq := 0, sup := p.sup, shape := p.shape, bar := p.bar
      cx := [(1, BitVec.ofNat 64 (p.word 2)), (2, BitVec.ofNat 64 (p.word 3)), (4, BitVec.ofNat 64 (p.word 4)), (6, BitVec.ofNat 64 (p.word 5))] }
  { t with lo := (t.range true).1, hi := (t.range true).2 }

end Sys2Proof.Machine
end

