-- ==== Sys2Proof/Machine/Operands.lean ====
section
/-!
DEFINITION. Operand forms: addresses and their checks (04 R93, R94, table 4.5; 06 R134 to R139), block operands (06 R420),
lane masks (02 R40), and vector operands with the queue registers behind encodings 24 to 31 (02 R42, 05 R111; 13 R239 to
R243).

Readings of the manual and choices that this file codes: assumption log 25, 32, 44, 73, 88.
-/
namespace Sys2Proof.Machine

open Sys2Proof

/-! ### Addresses -/

/-- Address formation (04 R93): the offset moves by delta bytes, the descriptor stays; none where the offset leaves its 48
bits. -/
def addOffset (base : Word) (delta : Int) : Option Word :=
  let o : Int := ((base.toNat % 2 ^ 48 : Nat) : Int) + delta
  if o < 0 ∨ (2 ^ 48 : Nat) ≤ o then none else some (BitVec.ofNat 64 (base.toNat / 2 ^ 48 * 2 ^ 48 + o.toNat))

/-- Whether R69 accepts a format code with a block-length log, given the accepted features. -/
def formatOk (feature : Nat → Bool) (f k : Nat) : Bool :=
  if f < 16 then k == 0 && (f != 15 || feature 2)
  else if f < 22 then k == 2 && feature 2
  else if f = 22 then (k == 2 || k == 3) && feature 3
  else false

/-- Whether R69 accepts the descriptor of an address. -/
def descriptorOk (feature : Nat → Bool) (a : Word) : Bool :=
  spaceOf a != 7 && a.toNat / 2 ^ 48 % 32 == 0 && formatOk feature (formatOf a) (blogOf a)

/-- Where an access goes once its checks have passed. -/
inductive Target where
  /-- Space 0 at a physical address; table marks a page that the page tables hold (21 table 21.2, bit 57). -/
  | mem (pa : Nat) (table : Bool)
  /-- A local store of the issuing core at a physical offset. -/
  | own (code off : Nat)
  /-- Split-phase to a remote store, the bent SRAM or the host. -/
  | away
deriving DecidableEq, Repr

/-- The outcome of the access checks. -/
inductive Checked where
  | ok (t : Target)
  | trap (cause : BitVec 8) (tval tinfo : Word)
  | wait
deriving DecidableEq, Repr

/-- Whether an offset of bent SRAM is mapped (06 table 6.4). -/
def sramMapped (o : Nat) : Bool := decide (o < 0x10000) || (decide (0x100000 ≤ o) && decide (o < 0x200000))

/-- Whether a pointer is a space-4 address in another package while feature 9 is not accepted (09 table 9.2). -/
def State.foreignStore (s : State) (a : Word) : Bool := spaceOf a = 4 && remoteCore a / 2048 != pkgOf s.cur && !s.hasFeature 9

/-- Check 4 for the local stores and the spaces beyond the core (06 table 6.1): a target or a TINFO code. -/
def State.spaceCheck (s : State) (a : Word) : Except Nat Target :=
  let task := s.slot.mode = .task
  let sp := spaceOf a
  let o := offsetOf a
  let store (code o : Nat) : Except Nat Target :=
    if task then
      let w := s.ctx.window code
      if o < w.size then .ok (.own code (w.base + o)) else .error 1
    else if o ≤ 0x1FFFF then .ok (.own code o) else .error 1
  if 1 ≤ sp ∧ sp ≤ 3 then store sp o
  else if sp = 4 then
    let code := remoteStore a
    if code = 0 then .error 2
    else if s.foreignStore a then .error 10
    else
      match store code (o % 2 ^ 27) with
      | .error t => .error t
      | .ok t => if remoteCore a = s.cur then .ok t else .ok .away
  else if task then .error 3
  else if sp = 5 then
    if o / 2 ^ 21 % 2 ^ 20 ≠ 0 || !sramMapped (o % 2 ^ 21) then .error 4 else .ok .away
  else .ok .away

/-- Checks 2 to 5 of 04 table 4.5 on an address (check 1 belongs to its formation).  The state changes only by what a
translation does to the translation caches and the miss table. -/
def State.checkAccess (s : State) (use : PageUse) (align : Nat) (a : Word) : State × Checked :=
  if !descriptorOk s.hasFeature a then (s, .trap Cause.descriptor a 0)
  else if a.toNat % align ≠ 0 then (s, .trap Cause.dmisalign a 0)
  else if spaceOf a = 0 then
    match s.translate use (offsetOf a) with
    | (s1, .ok pa table) => (s1, .ok (.mem pa table))
    | (s1, .fault t) => (s1, .trap use.cause a (BitVec.ofNat 64 t))
    | (s1, .wait) => (s1, .wait)
  else
    match s.spaceCheck a with
    | .ok t => (s, .ok t)
    | .error t => (s, .trap Cause.spacePermission a (BitVec.ofNat 64 t))

/-- An address as the core compares it: a space-4 address of the core itself names its own store, and an offset of a local store is
physical (06 R135, R138). -/
def comparable (core : Nat) (c : Ctx) (sup : Bool) (a : Word) : Nat × Nat :=
  let self := spaceOf a = 4 && remoteCore a = core
  let sp := if self then remoteStore a else spaceOf a
  let o := if self then offsetOf a % 2 ^ 27 else offsetOf a
  (sp, if 1 ≤ sp ∧ sp ≤ 3 ∧ !sup then (c.window sp).base + o else o)

/-- Whether n bytes at a comparable address meet the bytes from offset lo to offset hi at a pointer of a transfer. -/
def Transfer.meets (t : Transfer) (core : Nat) (c : Ctx) (p : Word) (lo hi : Nat) (a : Nat × Nat) (n : Nat) : Bool :=
  let w := comparable core c t.sup (BitVec.ofNat 64 (p.toNat / 2 ^ 48 * 2 ^ 48 + lo))
  w.1 == a.1 && decide (w.2 < a.2 + n) && decide (a.2 < w.2 + (hi - lo))

/-- Whether a copy whose watermark is wm makes an access to n bytes at a comparable address wait (15 R291): a copy that is not
dealt, whose range from the watermark on holds one of the bytes.  The scales in AUX of a shaped destination come after its elements (15 R295). -/
def Transfer.stalls (t : Transfer) (core : Nat) (c : Ctx) (wm : Nat) (a : Nat × Nat) (n : Nat) : Bool :=
  let aux : Word := BitVec.ofNat 64 t.shape.aux
  let top := offsetOf aux + t.scaleBytes
  !t.dealt &&
    if t.auxScales = 0 then t.meets core c t.dst wm t.hi a n
    else if t.covered < t.elemBytes then t.meets core c t.dst wm t.hi a n || t.meets core c aux (offsetOf aux) top a n
    else t.meets core c aux wm top a n

/-- Whether the copy of a channel makes an access wait: it is Running or Faulted. -/
def Channel.stalls (ch : Channel) (core : Nat) (c : Ctx) (a : Nat × Nat) (n : Nat) : Bool :=
  match ch.cur with
  | some t => (t.st = .running || t.st = .faulted) && t.stalls core c ch.wm.toNat a n
  | none => false

/-- Whether a copy of the current context that waits in a copy queue makes an access wait: its watermark is its range's lowest
address (15 R300). -/
def State.queuedStall (s : State) (a : Nat × Nat) (n : Nat) : Bool :=
  s.core.copyq.any fun q => q.2.any fun p => s.slot.ctx = some p.1 && p.2.stalls s.cur s.ctx p.2.lo a n

/-- Whether an access of the current slot waits for a copy of its context (15 R291). -/
def State.copyStall (s : State) (a : Word) (n : Nat) : Bool :=
  let x := comparable s.cur s.ctx (s.slot.mode ≠ .task) a
  (s.ctx.chans.any fun p => p.2.stalls s.cur s.ctx x n) || s.queuedStall x n

/-! ### Blocks (06 R420) -/

/-- The answer of a block read: its bytes as a number, a trap, or a wait. -/
inductive BlockRead where
  | ok (v : Nat)
  | trap (cause : BitVec 8) (tval tinfo : Word)
  | wait
deriving DecidableEq, Repr

/-- Whether n bytes of a local store hold a poisoned granule: of 256 bytes in the C-store, of 8 in the others (14 R266, 26 R418). -/
def Core.storePoisoned (c : Core) (code off n : Nat) : Bool :=
  if code = 3 then c.poisonC.any fun g => decide (256 * g < off + n) && decide (off < 256 * g + 256)
  else (if code = 1 then c.poisonA else c.poisonW).any fun g => decide (8 * g < off + n) && decide (off < 8 * g + 8)

/-- Bytes that a request touches. -/
def ReqOp.size : ReqOp → Nat
  | .load n => n
  | .store n _ _ => n
  | .bits n _ _ => n
  | .atomic _ dbl _ _ => if dbl then 8 else 4
  | .upd _ dbl _ => if dbl then 8 else 4

/-- Whether a range of memory has a write of the slot, or an atomic or update of the core, that its home has not performed. -/
def State.homePending (s : State) (core : Nat) (pa n : Nat) : Bool :=
  (s.dieAt (homeOf pa)).ptWrites.any (fun w => (match w.source with
    | some p => p.1 == core
    | none => false) && decide (w.addr < pa + n) && decide (pa < w.addr + w.size)) ||
  (s.coreAt core).requests.any (fun r => !r.done && spaceOf r.addr == 0 && decide (r.pa < pa + n) && decide (pa < r.pa + r.op.size))

/-- Whether a write to a physical address must go to the home at once: the line is a page-table line or lies in a table page
(08 R186). -/
def State.writesThrough (s : State) (pa : Nat) (table : Bool) : Bool := table || s.ptMarked pa

/-- Whether no store of the core to a line is under way and the line is settled in its bent. -/
def State.lineFree (s : State) (pa : Nat) : Bool := s.quiet (bentOf s.cur) (pa / 256) && !s.core.lineHeld (pa / 256)

/-- The reply code of the first line of a range that the bent L2 lacks and whose home it cannot reach; some none while a path is
awaited. -/
def State.fillBlocked (s : State) (pa n : Nat) : Option (Option Nat) :=
  ((linesOf pa n).filter fun l => !AMap.has s.bent.l2 l).findSome? fun l =>
    match s.homeRoute (bentOf s.cur) (l * 256) with
    | .go => none
    | .wait => some none
    | .error c => some (some c)

/-- The bytes of a block that lies in one page or one local store: space 0 is read as the core reads it (through its
bent), a poisoned granule takes MCE. -/
def State.readTarget (s : State) (a : Word) (t : Target) (n : Nat) : State × BlockRead :=
  match t with
  | .mem pa _ =>
    if !s.quietRange (bentOf s.cur) pa n || (linesOf pa n).any s.core.lineHeld || s.homePending s.cur pa n then (s, .wait)
    else
      match s.fillBlocked pa n with
      | some none => (s, .wait)
      | some (some c) => (s, .trap Cause.remoteError a (BitVec.ofNat 64 c))
      | none =>
        if s.poisoned pa n then (s, .trap Cause.mce a 0)
        else
          let s1 := (linesOf pa n).foldl (fun s l => s.l2Current (bentOf s.cur) l) s
          (s1, .ok (s1.engineRead (bentOf s.cur) pa n))
  | .own code off => if s.core.storePoisoned code off n then (s, .trap Cause.mce a 0) else (s, .ok (s.storeRead s.cur code off n))
  | .away => (s, .wait)

/-- Whether a store of the current core to a line can take place in its bent in one step. -/
def State.storeReady (s : State) (pa : Nat) : Bool :=
  s.lineFree pa && !s.homePending s.cur (pa / 256 * 256) 256 && s.homeRoute (bentOf s.cur) pa ≠ .wait

/-- A store of n masked bytes of one line by a core, at its bent: to its L2, which holds the line current, and through it to
the home for a subscribed line (08 R174), or at the home alone for a page-table line (08 R186). -/
def State.bentStoreAt (s : State) (bent : Nat) (source : Option (Nat × Nat)) (pa : Nat) (table : Bool) (n v mask : Nat) : State :=
  if s.writesThrough pa table then (s.dropLine bent (pa / 256)).homeWrite pa n v mask source
  else
    let s1 := s.l2Current bent (pa / 256)
    match AMap.find? (s1.bentAt bent).l2 (pa / 256) with
    | some l =>
      if l.sub || l.watch then
        (s1.setL2 bent (pa / 256) { l.put (pa % 256) n v mask with dirty := l.dirty }).homeWrite pa n v mask source
      else s1.l2Put bent (pa / 256) (pa % 256) n v mask
    | none => s1

/-- Such a store by the current slot. -/
def State.bentStore (s : State) (pa : Nat) (table : Bool) (n v mask : Nat) : State :=
  s.bentStoreAt (bentOf s.cur) (some (s.cur, s.core.curSlot.val)) pa table n v mask

/-- Reads an aligned block of n bytes at an address that must lie in space 0 or, where stores is set, spaces 1 to 3 of the
own core (06 R420): checks 1 to 3, the space, then the translation of each page that the block touches.  A block above the watermark of a copy of
the context waits (15 R291). -/
def State.readBlock (s : State) (a : Word) (n align : Nat) (stores : Bool) : State × BlockRead :=
  if !descriptorOk s.hasFeature a then (s, .trap Cause.descriptor a 0)
  else if a.toNat % align ≠ 0 then (s, .trap Cause.dmisalign a 0)
  else if !(spaceOf a = 0 || (stores && decide (1 ≤ spaceOf a) && decide (spaceOf a ≤ 3))) then
    (s, .trap Cause.spacePermission a 5)
  else
    let last := BitVec.ofNat 64 (a.toNat + (n - 1))
    match s.checkAccess .load 1 a with
    | (s1, .trap c v t) => (s1, .trap c v t)
    | (s1, .wait) => (s1, .wait)
    | (s1, .ok t) =>
      if spaceOf a ≠ 0 then
        match s1.checkAccess .load 1 last with
        | (s2, .ok _) => if s2.copyStall a n then (s2, .wait) else s2.readTarget a t n
        | (s2, .trap c v ti) => (s2, .trap c v ti)
        | (s2, .wait) => (s2, .wait)
      else
        let head := Nat.min n (2 ^ 15 - offsetOf a % 2 ^ 15)
        if head = n then (if s1.copyStall a n then (s1, .wait) else s1.readTarget a t n)
        else
          match s1.checkAccess .load 1 (BitVec.ofNat 64 (a.toNat + head)) with
          | (s2, .trap c v ti) => (s2, .trap c v ti)
          | (s2, .wait) => (s2, .wait)
          | (s2, .ok t2) =>
            match (if s2.copyStall a n then (s2, .wait) else s2.readTarget a t head) with
            | (s3, .ok x) =>
              match s3.readTarget a t2 (n - head) with
              | (s4, .ok y) => (s4, .ok (x + 2 ^ (8 * head) * y))
              | r => r
            | r => r

/-! ### Masks -/

/-- The register that the gm field names (02 R40). -/
def maskReg (g : BitVec 2) : BitVec 5 := BitVec.ofNat 5 (28 + g.toNat)

/-- The registers that the gm field makes a source. -/
def maskReads (g : BitVec 2) : List Reg := if g = 0 then [] else [.g (maskReg g)]

/-- Whether lane i is enabled. -/
def State.enabled (s : State) (g : BitVec 2) (i : Nat) : Bool := g = 0 || (s.readG (maskReg g)).getLsbD i

/-- Element width of an ew field (02 R41). -/
def widthOf (w : BitVec 2) : Nat := 8 * 2 ^ w.toNat

/-- Floating format of an ew field (02 R41). -/
def fmtOf (w : BitVec 2) : Fmt := if w = 0 then .bf16 else if w = 1 then .fp16 else if w = 2 then .fp32 else .fp64

/-! ### Queue registers -/

/-- Whether an operand field names a queue register. -/
def isQ (r : BitVec 5) : Bool := decide (24 ≤ r.toNat)

/-- KIND of a binding (13 table 13.2). -/
def Binding.kind (b : Binding) : Nat := b.word.toNat / 2 ^ 60
/-- MODE of a ring: 1 for stage. -/
def Binding.stage (b : Binding) : Bool := b.word.getLsbD 59
/-- STORE of a ring. -/
def Binding.store (b : Binding) : Nat := b.word.toNat / 2 ^ 54 % 4
/-- log2 of the slot size. -/
def Binding.sz (b : Binding) : Nat := b.word.toNat / 2 ^ 48 % 16
/-- Base of a ring in bytes within the window. -/
def Binding.base (b : Binding) : Nat := b.word.toNat / 2 ^ 16 % 2 ^ 16 * 64
/-- Tag of a channel binding. -/
def Binding.tag (b : Binding) : Nat := b.word.toNat / 2 ^ 16 % 2 ^ 16
/-- Slot count of a ring. -/
def Binding.slots (b : Binding) : Nat := b.word.toNat % 2 ^ 16

/-- Counts the slots that have landed in TAIL order as far as slots are free (13 R241), at most k. -/
def Binding.counted (b : Binding) : Nat → Binding
  | 0 => b
  | k + 1 =>
    if b.filled.contains b.tail && b.free != 0 then
      Binding.counted { b with filled := b.filled.filter (· != b.tail), tail := (b.tail + 1) % b.slots, fill := b.fill + 1, free := b.free - 1 } k
    else b

/-- A ring after its counters have changed. -/
def Binding.settled (b : Binding) : Binding := b.counted b.filled.length

/-- The binding of a queue register of the current context. -/
def State.binding (s : State) (n : Nat) : Binding := AMap.getD s.ctx.bindings n {}

/-- Replaces a binding of the current context. -/
def State.setBinding (s : State) (n : Nat) (b : Binding) : State := s.modCtx fun c => { c with bindings := AMap.set c.bindings n b }

/-- Sets the event flag of the slot that made a binding (04 R106, 13 R239). -/
def State.notify (s : State) (core kern : Nat) (b : Binding) : State :=
  s.modCoreAt core fun c => { c with slots := c.slots.map fun sl => if sl.ctx = some kern && sl.num = b.slot then { sl with evt := true } else sl }

/-- Whether a vector operand can use a binding (05 R111, 13 R241): bound, an entry of 64 bytes, and for a push a ring. -/
def Binding.vecOk (b : Binding) (push : Bool) : Bool :=
  b.bound && ((b.kind = 1 && !b.stage && b.sz = 6) || (!push && (b.kind = 2 || b.kind = 3)))

/-- Entries that a pop can take now. -/
def Binding.available (b : Binding) (c : Ctx) : Nat :=
  if b.kind = 1 then b.fill
  else if b.kind = 2 then c.mailbox.length
  else (AMap.getD c.channels b.tag []).length

/-- A handler's wake entry forbids pops of the mailbox (17 R323). -/
def Ctx.handlerAttached (c : Ctx) : Bool := c.bindings.any fun p => p.2.bound && p.2.kind = 2 && p.2.wake ≠ 0

/-- Pops of each queue register that an instruction's source operands name (02 R42). -/
def popCount (srcs : List (BitVec 5)) (n : Nat) : Nat := (srcs.filter fun r => isQ r && r.toNat - 24 == n).length

/-- Whether the queue operands of an instruction are bound as they must be (05 R111). -/
def State.queueLegal (s : State) (srcs dsts : List (BitVec 5)) : Bool :=
  srcs.all (fun r => !isQ r || ((s.binding (r.toNat - 24)).vecOk false && !((s.binding (r.toNat - 24)).kind = 2 && s.ctx.handlerAttached))) &&
  dsts.all (fun r => !isQ r || (s.binding (r.toNat - 24)).vecOk true)

/-- Whether two bindings take their entries from one mailbox or one channel. -/
def Binding.shares (a b : Binding) : Bool := a.kind = b.kind && (a.kind = 2 || (a.kind = 3 && a.tag = b.tag))

/-- Whether every pop has its entry and every push its room, counted after the pops (02 R42).  Registers bound to one mailbox or channel share
its entries (13 R240). -/
def State.queueReady (s : State) (srcs dsts : List (BitVec 5)) : Bool :=
  (List.range 8).all fun n =>
    let b := s.binding n
    let pops := popCount srcs n
    let pushes := popCount dsts n
    let shared := ((List.range 8).filter fun m => m ≠ n && b.shares (s.binding m)).foldl (fun k m => k + popCount srcs m) pops
    (pops = 0 || (!b.closing && decide (shared ≤ b.available s.ctx))) &&
    (pushes = 0 || (!b.closing && decide (pushes ≤ b.free + pops)))

/-- Sets the event flag of every slot of a context (04 R106). -/
def State.setEvents (s : State) (core kern : Nat) : State :=
  s.modCoreAt core fun c => { c with slots := c.slots.map fun sl => if sl.ctx = some kern && sl.run ≠ .free then { sl with evt := true } else sl }

/-- Whether the mailbox of a context can take a message: not while the context is saved or restored (17 R332). -/
def Ctx.takesMail (c : Ctx) : Bool := c.state ≠ .saving && c.state ≠ .saved && c.state ≠ .restoring

/-- Places the engine messages of a context that wait for room in its mailbox (15 table 15.6, 17 R323), as far as there is room; a message placed
sets the event flags of the context's slots (04 R106). -/
def State.refill (s : State) (core kern : Nat) : State :=
  let c := s.ctxOf core kern
  let n := Nat.min c.mailWait.length (64 - c.mailbox.length)
  if n = 0 || !c.takesMail then s
  else (s.modCtxOf core kern fun c => { c with mailbox := c.mailbox ++ c.mailWait.take n, mailWait := c.mailWait.drop n }).setEvents core kern

/-- Whether the ring slot that a pop reads holds poison. -/
def State.popPoisoned (s : State) (n : Nat) : Bool :=
  let b := s.binding n
  b.kind = 1 && s.core.storePoisoned b.store ((s.ctx.window b.store).base + b.base + b.head * 2 ^ b.sz) (2 ^ b.sz)

/-- The address of the ring slot that a pop reads. -/
def Binding.headAddress (b : Binding) : Word := BitVec.ofNat 64 (b.store * 2 ^ 61 + b.base + b.head * 2 ^ b.sz)

/-- Replaces the entries of a channel; one without entries is none of the sixteen (17 R318). -/
def setEntries (m : AMap (List Vec)) (tag : Nat) (l : List Vec) : AMap (List Vec) := if l.isEmpty then AMap.erase m tag else AMap.set m tag l

/-- Pops one entry from a queue register (13 R241). -/
def State.popQ (s : State) (n : Nat) : State × Vec :=
  let b := s.binding n
  if b.kind = 1 then
    let v := s.storeRead s.cur b.store ((s.ctx.window b.store).base + b.base + b.head * 2 ^ b.sz) (2 ^ b.sz)
    ((s.setBinding n (Binding.settled { b with head := (b.head + 1) % b.slots, fill := b.fill - 1, free := b.free + 1 })).notify s.cur s.kern b, BitVec.ofNat 512 v)
  else if b.kind = 2 then
    (((s.modCtx fun c => { c with mailbox := c.mailbox.drop 1 }).refill s.cur s.kern).notify s.cur s.kern b, s.ctx.mailbox.headD 0)
  else
    ((s.modCtx fun c => { c with channels := setEntries c.channels b.tag ((AMap.getD c.channels b.tag []).drop 1) }).notify s.cur s.kern b,
     (AMap.getD s.ctx.channels b.tag []).headD 0)

/-- Pushes one entry to a ring (13 R241). -/
def State.pushQ (s : State) (n : Nat) (v : Vec) : State :=
  let b := s.binding n
  let s1 := s.storeWrite s.cur b.store ((s.ctx.window b.store).base + b.base + b.tail * 2 ^ b.sz) (2 ^ b.sz) v.toNat (fullMask (2 ^ b.sz))
  (s1.setBinding n (Binding.settled { b with tail := (b.tail + 1) % b.slots, free := b.free - 1, fill := b.fill + 1 })).notify s.cur s.kern b

/-- The value of one vector source: a register, or the popped entry. -/
def State.takeV (s : State) (r : BitVec 5) : State × Vec := if isQ r then s.popQ (r.toNat - 24) else (s, s.readV r)

/-- The values of vector sources, popped in order (02 R42). -/
def State.takeAll (s : State) : List (BitVec 5) → State × List Vec
  | [] => (s, [])
  | r :: rs =>
    let p := s.takeV r
    let q := p.1.takeAll rs
    (q.1, p.2 :: q.2)

/-- Delivers a vector result: the masked lanes to a register, or a pushed entry with zero in the disabled lanes (02 R40).  An enabled lane that the
instruction does not write is pushed as zero too (assumption log 132). -/
def State.giveV (s : State) (r : BitVec 5) (x mask : Vec) (lat : Nat) (fixed : Bool := true) : State :=
  if isQ r then s.pushQ (r.toNat - 24) (x &&& mask) else s.putV r x mask lat fixed

/-- The vector registers among operand fields. -/
def vRegs (rs : List (BitVec 5)) : List Reg := (rs.filter fun r => !isQ r).map .v

/-- The issue of a vector instruction with its mask, vector sources and vector destinations: the queue operands are bound
(else ILLEGAL) and can all be served (else the slot waits), then the body takes the values of the sources (05 R110, R111). -/
def vissue (i : Instr) (g : BitVec 2) (srcs dsts : List (BitVec 5)) (gr gw : List Reg) (s : State)
    (body : State → List Vec → State) : Host.Outcome State Fault Refusal :=
  issue i (maskReads g ++ gr ++ vRegs srcs) (vRegs dsts ++ gw) s fun s =>
    if !s.queueLegal srcs dsts then s.trap Cause.illegal ((encode i).setWidth 64)
    else if !s.queueReady srcs dsts then s.wait
    else
      match srcs.find? fun r => isQ r && s.popPoisoned (r.toNat - 24) with
      | some r => s.trap Cause.mce (s.binding (r.toNat - 24)).headAddress
      | none =>
        let p := s.takeAll srcs
        body p.1 p.2

end Sys2Proof.Machine
end

