-- ==== Sys2Proof/Machine/Ordering.lean ====
section
/-!
DEFINITION. Releases and acquires of a task (07 R157, table 7.2), on which fences, ordered atomics, consume loads and the
instructions of the later chapters rest.

Readings of the manual and choices that this file codes: assumption log 41, 42.
-/
namespace Sys2Proof.Machine

open Sys2Proof

/-- Whether a store of a slot waits at a home for the acknowledgements of a page-table line or for a rehoming. -/
def State.homeHolds (s : State) (core slot : Nat) : Bool :=
  s.dies.any fun d =>
    d.2.ptWrites.any (fun w => w.source = some (core, slot)) ||
    (d.2.rehomes ++ d.2.rehomeQueue).any (fun r => r.source = some (core, slot) || r.held.any fun w => w.source = some (core, slot))

/-- Whether a slot of a core has posted accesses that their targets have not acknowledged. -/
def State.postedOpen (s : State) (core slot : Nat) : Bool :=
  (s.coreAt core).requests.any (fun r => r.slot == slot && r.dest = .posted) || s.homeHolds core slot

/-- Whether every store of a slot through its L1D has entered the coherence order of the bent (07 R155). -/
def State.storesOrdered (s : State) (core slot : Nat) : Bool :=
  !(s.coreAt core).storesHeld slot && !(s.coreAt core).writeThroughs slot && !s.throughWaits core slot

/-- Whether every earlier store of a slot to space 0 has been performed, so that a later one can be (07 R153 case 2).  An update that
an update-only sector has combined is performed there (07 R155, 08 R181). -/
def State.storesDone (s : State) (core slot : Nat) : Bool :=
  s.storesOrdered core slot && !s.homeHolds core slot &&
    !(s.coreAt core).requests.any fun r => r.slot == slot && r.dest = .posted && spaceOf r.addr == 0 && !r.done

/-- Whether every access of a slot, or of the ended tasks of a context, has been performed and acknowledged. -/
def State.accessesDone (s : State) (core slot : Nat) : Bool :=
  s.storesOrdered core slot && !s.postedOpen core slot && !(s.coreAt core).requests.any fun r => r.slot == slot

/-- What names the accesses of a kernel's context on a core: its slots and its ended tasks. -/
def Core.namesOf (c : Core) (kern : Nat) : List Nat := ((List.range 8).filter fun n => (c.slotAt n).ctx = some kern) ++ [endedSlot kern]

/-- Whether every access of a kernel's context on a core has been performed and acknowledged. -/
def State.contextDone (s : State) (core kern : Nat) : Bool :=
  ((s.coreAt core).namesOf kern).all (s.accessesDone core) && !(s.coreAt core).requests.any fun r => r.kern = some kern

/-- Whether a release at a scope by a slot can complete now: its posted accesses are acknowledged and the lines it maintains
are settled (07 R157). -/
def State.releaseReady (s : State) (core slot scope : Nat) : Bool :=
  let c := s.coreAt core
  s.storesOrdered core slot && !s.postedOpen core slot &&
    (scope < 2 || c.updLines.all fun l => s.quiet (bentOf core) l) && (scope < 3 || s.cleanReady core)

/-- The maintenance of a release (07 table 7.2): update-only sectors merge at bent scope and wider, and at die scope and wider
the dirty lines of the bent go to their homes. -/
def State.release (s : State) (core scope : Nat) : State :=
  if scope < 2 then s else if scope = 2 then s.mergeUpdates core else s.cleanBent core

/-- The maintenance of an acquire. -/
def State.acquire (s : State) (core scope : Nat) : State := if scope < 3 then s else s.ageBent core

/-- Runs a body after a release by the current slot, or waits until the release can complete. -/
def State.released (s : State) (scope : Nat) (body : State → State) : State :=
  if s.releaseReady s.cur s.core.curSlot.val scope then body (s.release s.cur scope) else s.wait

end Sys2Proof.Machine
end

