-- ==== Sys2Proof/Machine/Requests.lean ====
section
/-!
DEFINITION. Split-phase requests (06 R141): sending, their effect at the target, and the landing of replies; the atomic
steps that cores, stores and homes perform (04 R98, R100).

Readings of the manual and choices that this file codes: assumption log 13, 17, 22, 39, 41, 104, 105, 122, 125, 126.
-/
namespace Sys2Proof.Machine

open Sys2Proof

/-- CYCLE of a core: cycles since the last reset of its die (19 R350). -/
def State.cycleOf (s : State) (core : Nat) : Nat := s.cycle - (s.dieAt (dieOf core)).cycle0

/-! ### Atomic steps -/

/-- The new value of an atomic on an n-byte location (04 R98); codes as in 02 table 2.6.  A CAS compares with cmp. -/
def amoValue (code n old x cmp : Nat) : Nat :=
  let w := 8 * n
  let o := old % 2 ^ w
  let b := x % 2 ^ w
  match code with
  | 0 => (o + b) % 2 ^ w
  | 1 => Nat.land o b
  | 2 => Nat.lor o b
  | 3 => Nat.xor o b
  | 4 => intLane .min w o b
  | 5 => intLane .max w o b
  | 6 => intLane .minz w o b
  | 7 => intLane .maxz w o b
  | 8 => b
  | 9 => if o = cmp % 2 ^ w then b else o
  | 10 => roundF .fp32 .rne (addF .rne (decodeF .fp32 o) (decodeF .fp32 b))
  | _ =>
    let f (i : Nat) := roundF .bf16 .rne (addF .rne (decodeF .bf16 (o / 2 ^ i % 2 ^ 16)) (decodeF .bf16 (b / 2 ^ i % 2 ^ 16)))
    f 0 + 2 ^ 16 * f 16

/-- Whether the atomic writes: a failing CAS does not. -/
def amoWrites (code n old cmp : Nat) : Bool := code ≠ 9 || old % 2 ^ (8 * n) == cmp % 2 ^ (8 * n)

/-! ### The trace ring (07 R171) -/

/-- The ring bytes of a TRACECTL value. -/
def traceSlots (ctl : Word) : Nat := 4096 * 2 ^ (ctl.toNat / 2 ^ 8 % 16) / 16

/-- Reads or writes of the ring by the owner core take effect in its bent: the line is recalled and made current. -/
def State.bentRead (s : State) (bent pa n : Nat) : State × Nat :=
  let s1 := s.l2Current bent (pa / 256)
  (s1, s1.l2Read bent pa n)

/-- Writes bytes of one line in a bent L2. -/
def State.bentWrite (s : State) (bent pa n v : Nat) : State :=
  (s.l2Current bent (pa / 256)).l2Put bent (pa / 256) (pa % 256) n v (fullMask n)

/-- Sets TRACECTL.OVF. -/
def State.traceOverflow (s : State) (core kern : Nat) : State :=
  s.modCtxOf core kern fun c => { c with tracectl := c.tracectl ||| 2 }

/-- The physical address of a byte of a context's ring for a use, or none where its page does not translate. -/
def State.traceXlat (s : State) (core kern off : Nat) (use : PageUse) : State × Option Nat :=
  let c := s.ctxOf core kern
  match s.engineXlat (bentOf core) c.asid c.ptroot use (c.tracectl.toNat % 2 ^ 48 / 2 ^ 12 * 2 ^ 12 + off) with
  | (s1, .ok pa) => (s1, some pa)
  | (s1, .fault _) => (s1, none)

/-- Appends entry k to the ring of a context, whose entry 0 stands at a physical address, and writes W := k after it; a page that does not
translate for the writes sets OVF and drops the entry. -/
def State.traceAppend (s : State) (core kern head k v : Nat) : State :=
  let n := traceSlots (s.ctxOf core kern).tracectl - 1
  match s.traceXlat core kern 0 .store with
  | (s1, none) => s1.traceOverflow core kern
  | (s1, some _) =>
    match s1.traceXlat core kern (16 * (1 + (k - 1) % n)) .store with
    | (s2, none) => s2.traceOverflow core kern
    | (s2, some pa) => (s2.bentWrite (bentOf core) pa 16 v).bentWrite (bentOf core) head 8 (k % 2 ^ 64)

/-- Logs an access of a source core that took effect in a window of a context: W is what entry 0 of the ring holds (assumption log 126), and
OVF is set where the entry overwrites an unread one. -/
def State.traceLog (s : State) (core kern src code off size kind : Nat) : State :=
  let c := s.ctxOf core kern
  if !c.tracectl.getLsbD 0 then s
  else
    let slots := traceSlots c.tracectl
    match s.traceXlat core kern 0 .load with
    | (s1, none) => s1.traceOverflow core kern
    | (s1, some head) =>
      let p := s1.bentRead (bentOf core) head 8
      let k := p.2 + 1
      let q := p.1.bentRead (bentOf core) (head + 8) 8
      let s2 := if decide (slots ≤ k) && decide (q.2 + (slots - 1) < k) then q.1.traceOverflow core kern else p.1
      let entry := pkgOf src * 2 ^ 56 + numOf src * 2 ^ 45 + code * 2 ^ 43 + off * 2 ^ 16 + Nat.log2 size * 2 ^ 13 + kind * 2 ^ 11
      s2.traceAppend core kern head k (s.cycleOf core + 2 ^ 64 * entry)

/-- Logs a space-4 access that took effect at a physical offset of a core's store in the trace of the context whose window holds it, in
whichever mode it was made (07 R171). -/
def State.tracePort (s : State) (core src code off size kind : Nat) : State :=
  let holds (p : Nat × Ctx) : Bool :=
    let w := p.2.window code
    p.2.tracectl.getLsbD 0 && p.2.state ≠ .saved && decide (w.base ≤ off) && decide (off < w.base + w.size)
  match List.find? holds (s.coreAt core).ctxs with
  | some p => s.traceLog core p.1 src code (off - (p.2.window code).base) size kind
  | none => s

/-! ### Sending -/

/-- Adds a request of the current slot. -/
def State.addRequest (s : State) (addr : Word) (pa : Nat) (op : ReqOp) (dest : ReqDest) (atL2 : Bool := false) : State :=
  let r : Request :=
    { id := s.core.nextReq, slot := s.core.curSlot.val, kern := s.slot.ctx, sup := s.slot.mode ≠ .task, addr := addr, pa := pa, op := op, dest := dest, atL2 := atL2 }
  s.modCore fun c => { c with requests := c.requests ++ [r], nextReq := c.nextReq + 1 }.count 0xD 1

/-- The current slot parks on the reply to a request; its next instruction issues no earlier than the stall count of this one allows (02
R34). -/
def State.awaitReply (s : State) (id : Nat) (stall : Nat := 0) : State :=
  ((s.modSlot fun sl => { sl with run := .awaiting id, nextIssue := s.cycle + 1 + stall, parked := false }).modCore fun c =>
    { c with switchAt := s.cycle + 2, yielded := true }).settle s.cur s.core.curSlot.val

/-- Sends a request on whose reply the task parks, or stalls while 64 are outstanding. -/
def State.sendAndPark (s : State) (addr : Word) (pa : Nat) (op : ReqOp) (dest : ReqDest) (atL2 : Bool := false) : State :=
  if s.core.roomFor 1 then (s.addRequest addr pa op dest atL2).awaitReply s.core.nextReq else s.wait

/-- Sends a posted request and goes on, or stalls while 64 are outstanding. -/
def State.sendPosted (s : State) (addr : Word) (pa : Nat) (op : ReqOp) (next : State → State) : State :=
  if s.core.roomFor 1 then next (s.addRequest addr pa op .posted) else s.wait

/-! ### At the target -/

/-- The kind of a trace entry, if the request has one. -/
def ReqOp.traceKind : ReqOp → Option Nat
  | .load _ => none
  | .store _ _ _ => some 0
  | .bits _ _ _ => some 0
  | .atomic _ _ _ _ => some 1
  | .upd _ _ _ => some 2

/-- Whether a request reads its bytes. -/
def ReqOp.readsOld : ReqOp → Bool
  | .store _ _ _ => false
  | _ => true

/-- Whether a request reads and writes its bytes in two accesses of the port (05 R126). -/
def ReqOp.inTwo : ReqOp → Bool
  | .bits _ _ _ => true
  | _ => false

/-- An n-byte value with the bits that the mask selects taken from v. -/
def mergeBits (old v m n : Nat) : Nat :=
  let k := Nat.land m (fullMask (8 * n))
  Nat.lor (Nat.land (old % 2 ^ (8 * n)) (Nat.xor (fullMask (8 * n)) k)) (Nat.land v k)

/-- What a request makes of the old value of its bytes: the new value and its byte mask. -/
def ReqOp.result (op : ReqOp) (old : Nat) : Nat × Nat :=
  match op with
  | .load _ => (old, 0)
  | .store n v m => (v, Nat.land m (fullMask n))
  | .bits n v m => (mergeBits old v m n, fullMask n)
  | .atomic code dbl x cmp =>
    let n := if dbl then 8 else 4
    (amoValue code n old x.toNat cmp.toNat, if amoWrites code n old cmp.toNat then fullMask n else 0)
  | .upd op dbl x => (updValue op dbl old x.toNat, fullMask (if dbl then 8 else 4))

/-- Marks a request as done at its target with its answer. -/
def State.answerRequest (s : State) (core id : Nat) (data : Nat) (error : Option (BitVec 8 × Word)) : State :=
  s.modCoreAt core fun c => { c with requests := c.requests.map fun r =>
    if r.id = id then { r with done := true, data := BitVec.ofNat 512 data, error := error } else r }

/-- Whether a core can be the target of a space-4 access of a kernel (06 R138). -/
def State.targetOk (s : State) (core : Nat) (kern : Option Nat) (sup : Bool) : Bool :=
  let c := s.coreAt core
  !c.gated && !c.outOfPlacement && !c.resetting && (s.dieAt (dieOf core)).inPlacement &&
    (sup || match kern with
      | some k => s.hasCtx core k && (s.ctxOf core k).state ≠ .free && (s.ctxOf core k).state ≠ .saved
      | none => false)

/-- Performs a request on n bytes of a local store at its port (06 R170). -/
def State.atStore (s : State) (src : Nat) (r : Request) (core code off : Nat) : State × Nat :=
  let n := r.op.size
  let old := r.old.getD (s.storeRead core code off n)
  let x := r.op.result old
  let s1 := if x.2 = 0 then s else s.storeWrite core code off n x.1 x.2
  (match r.op.traceKind with
   | some k => s1.tracePort core src code off n k
   | none => s1, old)

/-- The code of an update operation (02 table 2.6). -/
def UpdOp.code : UpdOp → Nat
  | .add => 0 | .fadd => 1 | .min => 2 | .max => 3 | .or => 4 | .and => 5

/-- The number of an atomic operation or update, with its size, among those that a revision of the device can lack (04 R99, R102). -/
def ReqOp.number : ReqOp → Option Nat
  | .atomic code dbl _ _ => some (2 * code + dbl.toNat)
  | .upd op dbl _ => some (2 * (16 + op.code) + dbl.toNat)
  | _ => none

/-- Whether a target package of another revision lacks what a request of a core asks for: it replies unsupported. -/
def State.unsupported (s : State) (src pkg : Nat) (op : ReqOp) : Bool :=
  match op.number with
  | some n => pkg != pkgOf src && (s.pkgAt pkg).revid != (s.pkgAt (pkgOf src)).revid && Config.lacksAtomic (s.pkgAt pkg).revid n
  | none => false

/-- Whether the trace of an access to a core can be written: the lines of ring head and entries are settled. -/
def State.traceReady (s : State) (core : Nat) : Bool :=
  (s.coreAt core).ctxs.all fun p => !p.2.tracectl.getLsbD 0 ||
    (match s.engineXlat (bentOf core) p.2.asid p.2.ptroot .load (p.2.tracectl.toNat % 2 ^ 48 / 2 ^ 12 * 2 ^ 12) with
     | (_, .ok pa) => (List.range 16).all fun i => s.quiet (bentOf core) (pa / 256 + i)
     | (_, .fault _) => true)

/-- A request of space 4 at its target core (06 R138, R170). -/
def State.arriveStore (s : State) (src : Nat) (r : Request) : State :=
  let t := remoteCore r.addr
  let code := remoteStore r.addr
  let o := r.addr.toNat % 2 ^ 27
  match s.route (dieOf src) (dieOf t) with
  | .wait => s
  | .error c => s.answerRequest src r.id 0 (some (Cause.remoteError, BitVec.ofNat 64 c))
  | .go =>
    if !s.targetOk t r.kern r.sup then s.answerRequest src r.id 0 (some (Cause.remoteError, 1))
    else if !s.traceReady t then s
    else if s.unsupported src (pkgOf t) r.op then s.answerRequest src r.id 0 (some (Cause.atomicUnsupported, 0))
    else
      let base := if r.sup then 0 else ((s.ctxOf t (r.kern.getD 0)).window code).base
      if r.op.readsOld && (s.coreAt t).storePoisoned code (base + o) r.op.size then
        s.answerRequest src r.id 0 (some (Cause.mce, 0))
      else if r.op.inTwo && r.old.isNone then
        s.modCoreAt src fun c => { c with requests := c.requests.map fun q =>
          if q.id = r.id then { q with old := some (s.storeRead t code (base + o) r.op.size) } else q }
      else
        let p := s.atStore src r t code (base + o)
        p.1.answerRequest src r.id p.2 none

/-- A request of space 5 at the bent SRAM (06 R139). -/
def State.arriveSram (s : State) (src : Nat) (r : Request) : State :=
  let b := pkgOf src * 128 + r.addr.toNat / 2 ^ 41 % 128
  let o := r.addr.toNat % 2 ^ 21
  match s.route (dieOf src) (dieOfBent b) with
  | .wait => s
  | .error c => s.answerRequest src r.id 0 (some (Cause.remoteError, BitVec.ofNat 64 c))
  | .go =>
    let n := r.op.size
    let old := Memory.readNat (s.bentAt b).sram o n
    let x := r.op.result old
    (s.modBentAt b fun bt => { bt with sram := Memory.writeMasked bt.sram o n x.1 x.2 }).answerRequest src r.id old none

/-- A request of space 6 to BAR0 of the device itself, which the host-link endpoint decodes (22 R389): an AtomicOp is unsupported there. -/
def State.arriveBar (s : State) (src o : Nat) (r : Request) : State :=
  match r.op with
  | .load n => s.answerRequest src r.id (s.barRead (pkgOf src) o n) none
  | .store n v _ => (s.barWrite (pkgOf src) o n v).answerRequest src r.id 0 none
  | .bits n v m => (s.barWrite (pkgOf src) o n (mergeBits (s.barRead (pkgOf src) o n) v m n)).answerRequest src r.id 0 none
  | .atomic _ _ _ _ => s.answerRequest src r.id 0 (some (Cause.remoteError, 2))
  | .upd _ _ _ => s.answerRequest src r.id 0 (some (Cause.remoteError, 2))

/-- A request of space 6 at the host link (06 R140): outside the host window an error reply; a store or AtomicOp is sent to the
host, whose memory is outside the device. -/
def State.arriveHost (s : State) (src : Nat) (r : Request) : State :=
  let p := s.pkgAt (pkgOf src)
  let o := offsetOf r.addr
  let bar := s.barOffset (pkgOf src) o r.op.size
  if o < p.hwbase.toNat ∨ p.hwbase.toNat + p.hwsize.toNat < o + r.op.size then
    s.answerRequest src r.id 0 (some (Cause.remoteError, 2))
  else match s.hostRoute (dieOf src) bar.isSome, bar with
  | .wait, _ => s
  | .error c, _ => s.answerRequest src r.id 0 (some (Cause.remoteError, BitVec.ofNat 64 c))
  | .go, some o => s.arriveBar src o r
  | .go, none =>
    let a := BitVec.ofNat 64 o
    let s1 := s.modPkgAt (pkgOf src) fun p =>
      match r.op with
      | .load _ => p
      | .bits _ _ _ => p
      | .store n v _ => { p with hostWrites := (a, (List.range n).map fun i => BitVec.ofNat 8 (v / 2 ^ (8 * i))) :: p.hostWrites }
      | .atomic code dbl x cmp => { p with hostAtomics := ⟨a, code, dbl, x, cmp⟩ :: p.hostAtomics }
      | .upd _ _ _ => p
    s1.answerRequest src r.id 0 none

/-- A request for the memory-side atomic unit of a home agent (04 table 4.6, R101): performed at the home unless the page is
in its final block or the line is a page-table line that waits for acknowledgements, which holds it as a write. -/
def State.arriveHome (s : State) (src : Nat) (r : Request) : State :=
  let n := r.op.size
  match s.homeRoute (bentOf src) r.pa with
  | .wait => s
  | .error c => s.answerRequest src r.id 0 (some (Cause.remoteError, BitVec.ofNat 64 c))
  | .go =>
    if s.unsupported src (homeOf r.pa / 4) r.op then s.answerRequest src r.id 0 (some (Cause.atomicUnsupported, 0))
    else if s.poisoned r.pa n then s.answerRequest src r.id 0 (some (Cause.mce, 0))
    else if (match s.rehomeOf (r.pa / 2 ^ 15) with
      | some h => h.phase.isFinal
      | none => false) || s.entryRehoming r.pa || (s.dieAt (homeOf r.pa)).ptWrites.any (fun w => w.addr / 256 == r.pa / 256) then s
    else
      let old := s.memRead r.pa n
      let x := r.op.result old
      let s1 := if x.2 = 0 then s else s.homeWrite r.pa n x.1 x.2 (some (src, r.slot))
      s1.answerRequest src r.id old none

/-- An atomic that reaches the bent L2 of its core (04 table 4.6): performed there once its line is quiet, a line that the L2 does not
hold current being filled first. -/
def State.arriveL2 (s : State) (src : Nat) (r : Request) : State :=
  let bent := bentOf src
  let line := r.pa / 256
  let n := r.op.size
  let held := match AMap.find? (s.bentAt bent).l2 line with
    | some l => (s.bentAt bent).current l
    | none => false
  if !s.quiet bent line then s
  else
    match held, s.homeRoute bent r.pa with
    | false, .wait => s
    | false, .error c => s.answerRequest src r.id 0 (some (Cause.remoteError, BitVec.ofNat 64 c))
    | _, _ =>
      if s.poisonedIn bent r.pa n then s.answerRequest src r.id 0 (some (Cause.mce, 0))
      else
        let s1 := s.l2Current bent line
        let old := s1.l2Read bent r.pa n
        let x := r.op.result old
        (if x.2 = 0 then s1 else s1.l2Put bent line (r.pa % 256) n x.1 x.2).answerRequest src r.id old none

/-- The die of a request's target. -/
def Request.targetDie (r : Request) (core : Nat) : Nat :=
  if r.atL2 then dieOf core
  else if spaceOf r.addr = 4 then dieOf (remoteCore r.addr)
  else if spaceOf r.addr = 0 then homeOf r.pa
  else if spaceOf r.addr = 5 then dieOfBent (pkgOf core * 128 + r.addr.toNat / 2 ^ 41 % 128)
  else dieOf core

/-- Number of the link whose loss cuts the path of a request. -/
def State.requestLink (s : State) (core : Nat) (r : Request) : Nat :=
  let p := pkgOf core
  if spaceOf r.addr = 6 then
    (let home := p * 4 + (s.pkgAt p).control
     if s.route (dieOf core) home = .go then s.hostLink p else s.failedLink (dieOf core) home)
  else s.failedLink (dieOf core) (r.targetDie core)

/-- The key of the place that performs a request; requests of one core to one place arrive in issue order (07 R153). -/
def Request.place (r : Request) : Nat :=
  if spaceOf r.addr = 4 then 2 ^ 32 + remoteCore r.addr
  else if r.atL2 then 2 ^ 33
  else if spaceOf r.addr = 0 then 2 ^ 33 + 1 + 3 * homeOf r.pa + stackOf r.pa
  else 2 ^ 36 + spaceOf r.addr

/-- A request that reaches its target, if it is the earliest of its core for that place. -/
def State.requestArrives (s : State) (core id : Nat) (home : Bool) : State :=
  match (s.coreAt core).requests.find? fun r => r.id == id && !r.done with
  | some r =>
    if (s.coreAt core).requests.any (fun q => decide (q.id < id) && !q.done && q.place == r.place) then s
    else if r.atL2 then (if home then s else s.arriveL2 core r)
    else if spaceOf r.addr = 0 then (if home then s.arriveHome core r else s)
    else if home then s
    else if spaceOf r.addr = 4 then s.arriveStore core r
    else if spaceOf r.addr = 5 then s.arriveSram core r
    else s.arriveHost core r
  | none => s

/-! ### Landing -/

/-- Whether a lane or register of a slot waits for a reply. -/
def Core.owes (c : Core) (slot : Nat) : Bool := c.requests.any fun r => r.slot == slot && r.dest ≠ .posted && !r.landed

/-- Sign or zero extension of an n-byte value to a word. -/
def extendBytes (n : Nat) (signed : Bool) (v : Nat) : Word :=
  if signed then BitVec.ofInt 64 (toSigned (8 * n) v) else BitVec.ofNat 64 (v % 2 ^ (8 * n))

/-- Writes the answer of one landed request. -/
def State.writeReply (s : State) (core slot : Nat) (r : Request) : State :=
  match r.dest with
  | .posted => s
  | .g d n signed taint _ => s.modSlotOf core slot fun sl => sl.setG d (extendBytes n signed r.data.toNat) taint
  | .lane d w i sh n => s.modSlotOf core slot fun sl =>
      sl.setV d (BitVec.ofNat 512 (r.data.toNat / 2 ^ sh % 2 ^ n * 2 ^ (w * i))) (laneBits w fun j => j = i)

/-- The lane of a request, for the TINFO of a vector load (05 R127). -/
def Request.lane (r : Request) : Option Nat :=
  match r.dest with
  | .lane _ _ i _ _ => some i
  | _ => none

/-- The acquire that follows a request, as scope code plus one. -/
def Request.acq (r : Request) : Nat :=
  match r.dest with
  | .g _ _ _ _ a => a
  | _ => 0

/-- The end of a split-phase instruction, once every reply of the slot has landed: the trap of the first error (the lowest
lane), or the results, the acquire and the retirement, with what its stall count still asks (02 R34). -/
def State.completeSlot (s : State) (core slot : Nat) : State :=
  let c := s.coreAt core
  let rs := c.requests.filter fun r => r.slot == slot && r.dest ≠ .posted
  let s1 := (s.modCoreAt core fun c => { c with requests := c.requests.filter fun r => !(r.slot == slot && r.dest ≠ .posted) }).landSlot core slot
  match rs.find? fun r => r.error.isSome with
  | some r =>
    let e := r.error.getD (0, 0)
    let tinfo := match r.lane with
      | some i => BitVec.ofNat 64 i
      | none => e.2
    s1.takeTrapAt core slot e.1 r.addr tinfo (s1.slotOf core slot).pc false
  | none =>
    let s2 := rs.foldl (fun s r => s.writeReply core slot r) s1
    let a := rs.foldl (fun n r => Nat.max n r.acq) 0
    let s3 := if a = 0 then s2 else s2.acquire core (a - 1)
    ((s3.modSlotOf core slot fun sl => 
      { sl with pc := sl.pc + 4, nextIssue := Nat.max sl.nextIssue (s3.cycle + 1), run := .ready, fill := [], fillErr := [], walkFault := none }).modCoreAt core
      fun c => c.count 0x0 1).settle core slot

/-- Whether a request asks host memory for an answer. -/
def State.asksHost (s : State) (core : Nat) (r : Request) : Bool :=
  spaceOf r.addr = 6 && r.dest ≠ .posted && (s.barOffset (pkgOf core) (offsetOf r.addr) r.op.size).isNone

/-- A reply that lands (06 R141, R142): a posted request is acknowledged and leaves its error in the posted-error record; an
instruction completes with its last reply.  The answer of host memory is the host's: data, or an Unsupported Request or Completer Abort,
which is an error reply of code 2 (06 R140). -/
def State.replyLands (s : State) (core id : Nat) (data : Vec) (abort : Bool) : State :=
  match (s.coreAt core).requests.find? fun r => r.id == id && r.done && !r.landed with
  | some r =>
    if r.dest = .posted then
      let s1 := s.modCoreAt core fun c => { c with requests := c.requests.filter fun q => q.id != id }
      match r.error with
      | some e => s1.postedError core r.slot e.1 r.addr (if e.1 = Cause.remoteError then e.2.toNat else 0) (e = (Cause.remoteError, 3)) (s1.requestLink core r)
      | none => s1
    else
      let host := s.asksHost core r
      let d := if host then data else r.data
      let e := if host && abort && r.error.isNone then some (Cause.remoteError, 2) else r.error
      let s1 := s.modCoreAt core fun c =>
        { c with requests := c.requests.map fun q => if q.id = id then { q with landed := true, data := d, error := e } else q }
      if (s1.coreAt core).owes r.slot then s1 else s1.completeSlot core r.slot
  | none => s

/-- REPLY_LANDING: a reply of a split-phase request lands (06 R141). -/
def execReplyLanding (core req : Nat) (data : BitVec 512) (s : State) (abort : Bool := false) : Host.Outcome State Fault Refusal :=
  .next (s.replyLands core req data abort)

/-- REMOTE_ACCESS_ARRIVAL: a request of space 4, 5 or 6, or one for the bent L2, takes effect at its target (06 R138 to R141, 07 R170). -/
def execRemoteAccessArrival (core req : Nat) (s : State) : Host.Outcome State Fault Refusal :=
  .next (s.requestArrives core req false)

/-- HOME_AGENT_REQUEST: the home agent of a stack of a die takes the atomic or update that has waited longest (04 table 4.6, R101; 06
R146). -/
def execHomeAgentRequest (die : Nat) (s : State) (stack : Nat := 0) : Host.Outcome State Fault Refusal :=
  match (s.dieAt die).homeQueue stack with
  | (core, id) :: rest =>
    let s1 := s.requestArrives core id true
    if (s1.coreAt core).requests.any fun r => r.id == id && !r.done then .next s
    else .next (s1.modDieAt die fun d => d.setHomeQueue stack rest)
  | [] => .next s

/-- SLOT_READY: a parked slot that waits for no reply, no fill and no table walk becomes ready and will execute its instruction
again (06 R142); its steal engine waits no longer (11 R226). -/
def execSlotReady (core slot : Nat) (s : State) : Host.Outcome State Fault Refusal :=
  .next (if s.readyable core slot then
      ((s.modSlotOf core slot fun sl => { sl with run := .ready }).settle core slot).modCoreAt core fun c => { c with steal := { c.steal with blocked := 0 } }
    else s)

end Sys2Proof.Machine
end

