-- ==== Sys2Proof/Machine/ScalarMemory.lean ====
section
/-!
DEFINITION. Loads, stores and bit-granular accesses (04 R93 to R97).
-/
namespace Sys2Proof.Machine

open Sys2Proof

/-! ### Access paths -/

/-- The answer of a load. -/
inductive LoadAns where
  | ok (v : Nat)
  | trap (cause : BitVec 8) (tval tinfo : Word)
  | wait
  | away
deriving DecidableEq, Repr

/-- Whether own dirty bytes of the L1D cover a range of one sector. -/
def Core.covers (c : Core) (pa n : Nat) : Bool :=
  let x := c.sector (pa / 64)
  x.st.dirty && (List.range n).all fun i => x.dirty.getLsbD (pa % 64 + i)

/-- A load of n bytes of one sector of memory, or of a local store, at an address that passed its checks. -/
def State.loadTarget (s : State) (a : Word) (t : Target) (n : Nat) : State × LoadAns :=
  match t with
  | .mem pa _ =>
    if s.homePending s.cur pa n then (s, .wait)
    else
      match AMap.find? s.slot.fillErr (pa / 64) with
      | some code => (s, .trap Cause.remoteError a (BitVec.ofNat 64 code))
      | none =>
        match s.l1Load pa n with
        | (s1, some v) => if s1.poisoned pa n && !s1.core.covers pa n then (s1, .trap Cause.mce a 0) else (s1, .ok v)
        | (s1, none) => (s1, .wait)
  | .own code off => if s.core.storePoisoned code off n then (s, .trap Cause.mce a 0) else (s, .ok (s.storeRead s.cur code off n))
  | .away => (s, .away)

/-- A load of n bytes at an aligned address: its checks, then the access. -/
def State.loadAccess (s : State) (a : Word) (n : Nat) : State × LoadAns :=
  if s.copyStall a n then (s, .wait)
  else
    match s.checkAccess .load n a with
    | (s1, .ok t) => s1.loadTarget a t n
    | (s1, .trap c v ti) => (s1, .trap c v ti)
    | (s1, .wait) => (s1, .wait)

/-- A write at the core's own store port, logged where the address is one of space 4 (07 R171); none while its trace waits. -/
def State.ownWrite (s : State) (a : Word) (code off n v mask kind : Nat) : Option State :=
  if spaceOf a ≠ 4 then some (s.storeWrite s.cur code off n v mask)
  else if s.traceReady s.cur then some ((s.storeWrite s.cur code off n v mask).tracePort s.cur s.cur code off n kind)
  else none

/-- A store of masked bytes within one sector of memory; none while it waits.  The bytes of a page-table line go to the home at once (08
R186). -/
def State.storeMem (s : State) (a : Word) (pa : Nat) (table : Bool) (n v mask : Nat) : Option State :=
  if s.homePending s.cur pa n then none
  else if s.writesThrough pa table then
    if s.lineFree pa && s.homeRoute (bentOf s.cur) pa ≠ .wait then
      match s.homeRoute (bentOf s.cur) pa with
      | .error c => some (s.postedError s.cur s.core.curSlot.val Cause.remoteError a c (c = 3) (s.failedLink (dieOf s.cur) (homeOf pa)))
      | _ => some ((s.dropLine (bentOf s.cur) (pa / 256)).homeWrite pa n v mask (some (s.cur, s.core.curSlot.val)))
    else none
  else
    let o := pa % 64
    (s.core.storeSector s.cycle (pa / 64) s.core.curSlot.val (BitVec.ofNat 512 (v % 2 ^ (8 * n) * 2 ^ (8 * o)))
      (BitVec.ofNat 64 (mask % 2 ^ n * 2 ^ o))).map fun c => s.modCore fun _ => c

/-- A store of masked bytes within one sector, or to a local store; none while it waits.  A store to space 0 waits for the earlier
ones of its task (07 R153).  A store of space 4, 5 or 6 is a posted request. -/
def State.storeTarget (s : State) (a : Word) (t : Target) (n v mask : Nat) : Option State :=
  match t with
  | .mem pa table => if s.storesDone s.cur s.core.curSlot.val then s.storeMem a pa table n v mask else none
  | .own code off => s.ownWrite a code off n v mask 0
  | .away => if s.core.roomFor 1 then some (s.addRequest a 0 (.store n v mask) .posted) else none

/-! ### LD, ST, LDC -/

/-- The address of an M-format access (04 R93). -/
def mAddress (base : Word) (o : BitVec 13) (n : Nat) : Option Word := addOffset base (o.toInt * n)

/-- A load (04 R95, R96): consume tells LDC, which sets the taint or, with taint disabled, is an acquire at system scope. -/
def loadOp (i : Instr) (t a : BitVec 5) (o : BitVec 13) (n : Nat) (signed consume : Bool) (s : State) : Host.Outcome State Fault Refusal :=
  issue i [.g a] [.g t] s fun s =>
    let taint := consume || s.taintOf a
    let acq := if consume && !s.slot.te then 7 else 0
    match mAddress (s.readG a) o n with
    | none => s.trap Cause.pointerOverflow (s.readG a) (BitVec.ofInt 64 (o.toInt * n))
    | some addr =>
      match s.loadAccess addr n with
      | (s1, .ok v) =>
        let s2 := s1.putG t (extendBytes n signed v) 4 false taint
        (if acq = 0 then s2 else s2.acquire s2.cur 6).retire
      | (s1, .trap c v ti) => s1.trap c v ti
      | (s1, .wait) => s1.wait
      | (s1, .away) => s1.sendAndPark addr 0 (.load n) (.g t n signed taint acq)

/-- A store (04 R95). -/
def storeOp (i : Instr) (t a : BitVec 5) (o : BitVec 13) (n : Nat) (s : State) : Host.Outcome State Fault Refusal :=
  issue i [.g a, .g t] [] s fun s =>
    match mAddress (s.readG a) o n with
    | none => s.trap Cause.pointerOverflow (s.readG a) (BitVec.ofInt 64 (o.toInt * n))
    | some addr =>
      if s.copyStall addr n then s.wait
      else
        match s.checkAccess .store n addr with
        | (s1, .ok tg) =>
          match s1.storeTarget addr tg n (s.readG t).toNat (fullMask n) with
          | some s2 => s2.retire
          | none => s1.wait
        | (s1, .trap c v ti) => s1.trap c v ti
        | (s1, .wait) => s1.wait

/-- LD.B (04 R95). -/
def execLdB (t a : BitVec 5) (o : BitVec 13) (s : State) : Host.Outcome State Fault Refusal :=
  loadOp (.ldB t a o) t a o 1 true false s

/-- LD.H (04 R95). -/
def execLdH (t a : BitVec 5) (o : BitVec 13) (s : State) : Host.Outcome State Fault Refusal :=
  loadOp (.ldH t a o) t a o 2 true false s

/-- LD.W (04 R95). -/
def execLdW (t a : BitVec 5) (o : BitVec 13) (s : State) : Host.Outcome State Fault Refusal :=
  loadOp (.ldW t a o) t a o 4 true false s

/-- LD.D (04 R95). -/
def execLdD (t a : BitVec 5) (o : BitVec 13) (s : State) : Host.Outcome State Fault Refusal :=
  loadOp (.ldD t a o) t a o 8 true false s

/-- LDZ.B (04 R95). -/
def execLdzB (t a : BitVec 5) (o : BitVec 13) (s : State) : Host.Outcome State Fault Refusal :=
  loadOp (.ldzB t a o) t a o 1 false false s

/-- LDZ.H (04 R95). -/
def execLdzH (t a : BitVec 5) (o : BitVec 13) (s : State) : Host.Outcome State Fault Refusal :=
  loadOp (.ldzH t a o) t a o 2 false false s

/-- LDZ.W (04 R95). -/
def execLdzW (t a : BitVec 5) (o : BitVec 13) (s : State) : Host.Outcome State Fault Refusal :=
  loadOp (.ldzW t a o) t a o 4 false false s

/-- LDC.W (04 R96). -/
def execLdcW (t a : BitVec 5) (o : BitVec 13) (s : State) : Host.Outcome State Fault Refusal :=
  loadOp (.ldcW t a o) t a o 4 true true s

/-- LDC.D (04 R96). -/
def execLdcD (t a : BitVec 5) (o : BitVec 13) (s : State) : Host.Outcome State Fault Refusal :=
  loadOp (.ldcD t a o) t a o 8 true true s

/-- ST.B (04 R95). -/
def execStB (t a : BitVec 5) (o : BitVec 13) (s : State) : Host.Outcome State Fault Refusal :=
  storeOp (.stB t a o) t a o 1 s

/-- ST.H (04 R95). -/
def execStH (t a : BitVec 5) (o : BitVec 13) (s : State) : Host.Outcome State Fault Refusal :=
  storeOp (.stH t a o) t a o 2 s

/-- ST.W (04 R95). -/
def execStW (t a : BitVec 5) (o : BitVec 13) (s : State) : Host.Outcome State Fault Refusal :=
  storeOp (.stW t a o) t a o 4 s

/-- ST.D (04 R95). -/
def execStD (t a : BitVec 5) (o : BitVec 13) (s : State) : Host.Outcome State Fault Refusal :=
  storeOp (.stD t a o) t a o 8 s

/-! ### LDBIT, STBIT -/

/-- The element of a bit access: its first bit in the physical A-store (04 R97), or the trap of its checks. -/
def State.bitCheck (s : State) (a gb : Word) (n : Nat) : Except (BitVec 8 × Word × Word) Nat :=
  if spaceOf a ≠ 1 then .error (Cause.spacePermission, a, 0)
  else if !descriptorOk s.hasFeature a then .error (Cause.descriptor, a, 0)
  else
    let bit := offsetOf a * 8 + gb.toNat
    let task := s.slot.mode = .task
    let limit := (if task then s.ctx.awin.size else 131072) * 8
    if limit < bit + n then .error (Cause.spacePermission, a, gb)
    else .ok (if task then s.ctx.awin.base * 8 + bit else bit)

/-- A bit access between the two words of a straddling element: the second bank access follows in the next cycle, and other accesses
can come between (04 R97). -/
def State.betweenWords (s : State) (v : Nat) : State := s.modSlot fun sl => { sl with half := some v, parked := true, nextIssue := s.cycle + 1 }

/-- A word of the own A-store. -/
def State.bitWord (s : State) (w : Nat) : Nat := s.storeRead s.cur 1 (w * 8) 8

/-- Writes the bits [p + n - 1 : p] of a word of the own A-store in one bank access. -/
def State.putBits (s : State) (w p n v : Nat) : State :=
  s.storeWrite s.cur 1 (w * 8) 8 (mergeBits (s.bitWord w) (v * 2 ^ p) (fullMask n * 2 ^ p) 8) (fullMask 8)

/-- Whether the words of an element are poisoned. -/
def Core.bitsPoisoned (c : Core) (bit n : Nat) : Bool := c.storePoisoned 1 (bit / 64 * 8) (if bit % 64 + n ≤ 64 then 8 else 16)

/-- A load of a bit element (04 R97): one bank access, or a second one for the bits of a straddling element in the upper word. -/
def bitLoadOp (i : Instr) (d a b : BitVec 5) (n : BitVec 6) (signed : Bool) (sc : BitVec 3) (s : State) : Host.Outcome State Fault Refusal :=
  issue i [.g a, .g b] [.g d] s fun s =>
    let k := n.toNat + 1
    match s.bitCheck (s.readG a) (s.readG b) k with
    | .error e => s.trap e.1 e.2.1 e.2.2
    | .ok bit =>
      let w := bit / 64
      let p := bit % 64
      let deliver (v : Nat) : State :=
        (s.putG d (if signed then BitVec.ofInt 64 (toSigned k v) else BitVec.ofNat 64 v) 4 false (s.taints [a, b])).retire (stallOf sc)
      match s.slot.half with
      | some lo => deliver ((lo + s.bitWord (w + 1) * 2 ^ (64 - p)) % 2 ^ k)
      | none =>
        if s.copyStall (BitVec.ofNat 64 ((s.readG a).toNat + (s.readG b).toNat / 8)) 9 then s.wait
        else if s.core.bitsPoisoned bit k then s.trap Cause.mce (s.readG a) 0
        else if p + k ≤ 64 then deliver (s.bitWord w / 2 ^ p % 2 ^ k)
        else s.betweenWords (s.bitWord w / 2 ^ p)

/-- LDBIT (04 R97). -/
def execLdbit (d a b : BitVec 5) (n : BitVec 6) (sc : BitVec 3) (s : State) : Host.Outcome State Fault Refusal :=
  bitLoadOp (.ldbit d a b n sc) d a b n false sc s

/-- LDBIT.S (04 R97). -/
def execLdbitS (d a b : BitVec 5) (n : BitVec 6) (sc : BitVec 3) (s : State) : Host.Outcome State Fault Refusal :=
  bitLoadOp (.ldbitS d a b n sc) d a b n true sc s

/-- STBIT (04 R97): the d field holds the source.  The part of a straddling element in the lower word is written first; poisoned data
stays as it is and leaves a posted error (04 R94). -/
def execStbit (d a b : BitVec 5) (n : BitVec 6) (sc : BitVec 3) (s : State) : Host.Outcome State Fault Refusal :=
  issue (.stbit d a b n sc) [.g a, .g b, .g d] [] s fun s =>
    let k := n.toNat + 1
    let v := (s.readG d).toNat % 2 ^ k
    match s.bitCheck (s.readG a) (s.readG b) k with
    | .error e => s.trap e.1 e.2.1 e.2.2
    | .ok bit =>
      let w := bit / 64
      let p := bit % 64
      if s.slot.half.isSome then (s.putBits (w + 1) 0 (p + k - 64) (v / 2 ^ (64 - p))).retire (stallOf sc)
      else if s.copyStall (BitVec.ofNat 64 ((s.readG a).toNat + (s.readG b).toNat / 8)) 9 then s.wait
      else if s.core.bitsPoisoned bit k then (s.postedError s.cur s.core.curSlot.val Cause.mce (s.readG a)).retire (stallOf sc)
      else if p + k ≤ 64 then (s.putBits w p k v).retire (stallOf sc)
      else (s.putBits w p (64 - p) v).betweenWords 0

end Sys2Proof.Machine
end

