-- ==== Sys2Proof/Machine/Atomic.lean ====
section
/-!
DEFINITION. Atomics and updates (04 R98 to R102).

Readings of the manual and choices that this file codes: assumption log 22.
-/
namespace Sys2Proof.Machine

open Sys2Proof

/-- Whether an atomic is performed at the home agent: die scope or wider, or a line that is kept current by its home, watched,
or a page-table line (04 table 4.6, 08 R174, R186). -/
def State.atHome (s : State) (scope pa : Nat) (table : Bool) : Bool :=
  decide (3 ≤ scope) || s.lineShared (bentOf s.cur) (pa / 256) || s.subscribed (bentOf s.cur) (pa / 2 ^ 15) || s.watched (pa / 2 ^ 15) ||
    s.writesThrough pa table

/-- Check 6 (04 table 4.6): whether the space supports an atomic of a code, size and scope. -/
def amoSupported (space code scope : Nat) (dbl : Bool) : Bool :=
  if space = 5 then dbl
  else if space = 6 then (code == 0 || code == 8 || code == 9) && decide (3 ≤ scope)
  else true

/-- Queues a request of the current slot at the home agent of a line. -/
def State.queueHome (s : State) (pa id : Nat) : State :=
  s.modDieAt (homeOf pa) fun d => d.setHomeQueue (stackOf pa) (d.homeQueue (stackOf pa) ++ [(s.cur, id)])

/-- The atomic step at a target (04 R98, R99): at the own store port it writes the old value; elsewhere the task parks on the reply of
the bent L2, the home agent or the place beyond the core (06 R141). -/
def State.amoTarget (s : State) (a : Word) (t : Target) (code scope acq : Nat) (dbl : Bool) (d : BitVec 5) (x cmp : Word) : State :=
  let n := if dbl then 8 else 4
  let op : ReqOp := .atomic code dbl x cmp
  match t with
  | .own st off =>
    if s.core.storePoisoned st off n then s.trap Cause.mce a 0
    else
      let old := s.storeRead s.cur st off n
      let r := op.result old
      let s1 : Option State := if r.2 = 0 then some s else s.ownWrite a st off n r.1 r.2 1
      (match s1 with
       | some s1 =>
         let s2 := s1.putG d (extendBytes n true old) 4 false
         (if acq = 0 then s2 else s2.acquire s2.cur (acq - 1)).retire
       | none => s.wait)
  | .mem pa table =>
    if s.homePending s.cur pa n || !s.lineFree pa then s.wait
    else if s.atHome scope pa table then
      if s.core.roomFor 1 then
        let id := s.core.nextReq
        ((s.dropLine (bentOf s.cur) (pa / 256)).sendAndPark a pa op (.g d n true false acq)).queueHome pa id
      else s.wait
    else s.sendAndPark a pa op (.g d n true false acq) true
  | .away => s.sendAndPark a 0 op (.g d n true false acq)

/-- An atomic (04 R98): checks 1 to 6, the release part of its ordering, the step, the acquire part. -/
def amoOp (i : Instr) (code : Nat) (d a b : BitVec 5) (dbl : Bool) (c o : BitVec 3) (s : State) : Host.Outcome State Fault Refusal :=
  issue i ([.g a, .g b] ++ (if code = 9 then [.g d] else [])) [.g d] s fun s =>
    let addr := s.readG a
    let n := if dbl then 8 else 4
    let scope := c.toNat
    if s.copyStall addr n then s.wait
    else
      match s.checkAccess .store n addr with
      | (s1, .trap c v ti) => s1.trap c v ti
      | (s1, .wait) => s1.wait
      | (s1, .ok t) =>
        if !amoSupported (spaceOf addr) code scope dbl then s1.trap Cause.atomicUnsupported addr 0
        else
          let acq := if o = 1 || o = 3 then scope + 1 else 0
          let step (s : State) : State := s.amoTarget addr t code scope acq dbl d (s.readG b) (s.readG d)
          if o = 2 || o = 3 then s1.released scope step else step s1

/-- AMO.ADD (04 R98). -/
def execAmoAdd (d a b : BitVec 5) (z : BitVec 1) (c o : BitVec 3) (s : State) : Host.Outcome State Fault Refusal :=
  amoOp (.amoAdd d a b z c o) 0 d a b (z = 1) c o s

/-- AMO.AND (04 R98). -/
def execAmoAnd (d a b : BitVec 5) (z : BitVec 1) (c o : BitVec 3) (s : State) : Host.Outcome State Fault Refusal :=
  amoOp (.amoAnd d a b z c o) 1 d a b (z = 1) c o s

/-- AMO.OR (04 R98). -/
def execAmoOr (d a b : BitVec 5) (z : BitVec 1) (c o : BitVec 3) (s : State) : Host.Outcome State Fault Refusal :=
  amoOp (.amoOr d a b z c o) 2 d a b (z = 1) c o s

/-- AMO.XOR (04 R98). -/
def execAmoXor (d a b : BitVec 5) (z : BitVec 1) (c o : BitVec 3) (s : State) : Host.Outcome State Fault Refusal :=
  amoOp (.amoXor d a b z c o) 3 d a b (z = 1) c o s

/-- AMO.MIN (04 R98). -/
def execAmoMin (d a b : BitVec 5) (z : BitVec 1) (c o : BitVec 3) (s : State) : Host.Outcome State Fault Refusal :=
  amoOp (.amoMin d a b z c o) 4 d a b (z = 1) c o s

/-- AMO.MAX (04 R98). -/
def execAmoMax (d a b : BitVec 5) (z : BitVec 1) (c o : BitVec 3) (s : State) : Host.Outcome State Fault Refusal :=
  amoOp (.amoMax d a b z c o) 5 d a b (z = 1) c o s

/-- AMO.MINZ (04 R98). -/
def execAmoMinz (d a b : BitVec 5) (z : BitVec 1) (c o : BitVec 3) (s : State) : Host.Outcome State Fault Refusal :=
  amoOp (.amoMinz d a b z c o) 6 d a b (z = 1) c o s

/-- AMO.MAXZ (04 R98). -/
def execAmoMaxz (d a b : BitVec 5) (z : BitVec 1) (c o : BitVec 3) (s : State) : Host.Outcome State Fault Refusal :=
  amoOp (.amoMaxz d a b z c o) 7 d a b (z = 1) c o s

/-- AMO.SWAP (04 R98). -/
def execAmoSwap (d a b : BitVec 5) (z : BitVec 1) (c o : BitVec 3) (s : State) : Host.Outcome State Fault Refusal :=
  amoOp (.amoSwap d a b z c o) 8 d a b (z = 1) c o s

/-- AMO.CAS (04 R98). -/
def execAmoCas (d a b : BitVec 5) (z : BitVec 1) (c o : BitVec 3) (s : State) : Host.Outcome State Fault Refusal :=
  amoOp (.amoCas d a b z c o) 9 d a b (z = 1) c o s

/-- AMO.FADD.F32 (04 R98). -/
def execAmoFaddF32 (d a b : BitVec 5) (c o : BitVec 3) (s : State) : Host.Outcome State Fault Refusal :=
  amoOp (.amoFaddF32 d a b c o) 10 d a b false c o s

/-- AMO.FADD.BF16 (04 R98). -/
def execAmoFaddBf16 (d a b : BitVec 5) (c o : BitVec 3) (s : State) : Host.Outcome State Fault Refusal :=
  amoOp (.amoFaddBf16 d a b c o) 11 d a b false c o s

/-- An update at a target (04 R101): held in the L1D at bent scope or narrower, else posted to the home agent, the store port
or the bent SRAM.  Like a store it waits for the earlier stores of its task (07 R153); where its data is poisoned it has no effect and
leaves a posted error (R102). -/
def State.updTarget (s : State) (a : Word) (t : Target) (op : UpdOp) (scope : Nat) (dbl : Bool) (x : Word) : Option State :=
  let n := if dbl then 8 else 4
  match t with
  | .own st off =>
    if s.core.storePoisoned st off n then some (s.postedError s.cur s.core.curSlot.val Cause.mce a)
    else s.ownWrite a st off n (updValue op dbl (s.storeRead s.cur st off n) x.toNat) (fullMask n) 2
  | .mem pa table =>
    let st := (s.core.sector (pa / 64)).st
    if s.homePending s.cur pa n || !s.storesDone s.cur s.core.curSlot.val then none
    else if s.atHome scope pa table then
      if s.lineFree pa && s.core.roomFor 1 then
        let id := s.core.nextReq
        some (((s.dropLine (bentOf s.cur) (pa / 256)).addRequest a pa (.upd op dbl x) .posted).queueHome pa id)
      else none
    else if (st = .m || st = .e) && s.poisonedIn (bentOf s.cur) pa n then some (s.postedError s.cur s.core.curSlot.val Cause.mce a)
    else
      (s.core.updSector s.cycle (pa / 64) s.core.curSlot.val (s.aged (bentOf s.cur) (pa / 256)) op dbl (pa % 64) x).map fun c => s.modCore fun _ => c
  | .away => if s.core.roomFor 1 then some (s.addRequest a 0 (.upd op dbl x) .posted) else none

/-- An update (04 R100): checks 1 to 6 are precise. -/
def updInstr (i : Instr) (op : UpdOp) (a b : BitVec 5) (z : BitVec 2) (c : BitVec 3) (s : State) : Host.Outcome State Fault Refusal :=
  issue i [.g a, .g b] [] s fun s =>
    let addr := s.readG a
    let dbl := z = 1
    let n := if dbl then 8 else 4
    if s.copyStall addr n then s.wait
    else
      match s.checkAccess .store n addr with
      | (s1, .trap c v ti) => s1.trap c v ti
      | (s1, .wait) => s1.wait
      | (s1, .ok t) =>
        if spaceOf addr = 6 || (spaceOf addr = 5 && !dbl) then s1.trap Cause.atomicUnsupported addr 0
        else
          match s1.updTarget addr t op c.toNat dbl (s.readG b) with
          | some s2 => s2.retire
          | none => s1.wait

/-- UPD.ADD (04 R100). -/
def execUpdAdd (a b : BitVec 5) (z : BitVec 2) (c : BitVec 3) (s : State) : Host.Outcome State Fault Refusal :=
  updInstr (.updAdd a b z c) .add a b z c s

/-- UPD.FADD (04 R100). -/
def execUpdFadd (a b : BitVec 5) (z : BitVec 2) (c : BitVec 3) (s : State) : Host.Outcome State Fault Refusal :=
  updInstr (.updFadd a b z c) .fadd a b z c s

/-- UPD.MIN (04 R100). -/
def execUpdMin (a b : BitVec 5) (z : BitVec 2) (c : BitVec 3) (s : State) : Host.Outcome State Fault Refusal :=
  updInstr (.updMin a b z c) .min a b z c s

/-- UPD.MAX (04 R100). -/
def execUpdMax (a b : BitVec 5) (z : BitVec 2) (c : BitVec 3) (s : State) : Host.Outcome State Fault Refusal :=
  updInstr (.updMax a b z c) .max a b z c s

/-- UPD.OR (04 R100). -/
def execUpdOr (a b : BitVec 5) (z : BitVec 2) (c : BitVec 3) (s : State) : Host.Outcome State Fault Refusal :=
  updInstr (.updOr a b z c) .or a b z c s

/-- UPD.AND (04 R100). -/
def execUpdAnd (a b : BitVec 5) (z : BitVec 2) (c : BitVec 3) (s : State) : Host.Outcome State Fault Refusal :=
  updInstr (.updAnd a b z c) .and a b z c s

end Sys2Proof.Machine
end

