-- ==== Sys2Proof/Machine/Engines.lean ====
section
/-!
DEFINITION. What the engines of a bent share: reading and writing ranges of space 0 through the tables of a kernel (06 R147),
sequence counters (13 R255, R256), the records that wait for the supervisor (19 R356), and the counts that they send to barriers.

Readings of the manual and choices that this file codes: assumption log 66.
-/
namespace Sys2Proof.Machine

open Sys2Proof

/-! ### Ranges of space 0 -/

/-- The answer of a translation of a range for an engine: physical pieces with their lengths, the first address that does not
translate with its TINFO, the first whose home has no path with the reply code, or a wait. -/
inductive EngineRange where
  | ok (pieces : List (Nat × Nat))
  | fault (va tinfo : Nat)
  | error (va code : Nat)
  | wait
deriving DecidableEq, Repr

/-- Translates n bytes at va page by page for an engine of a bent, at most k pages. -/
def State.rangeBy (xlat : State → Nat → State × EngineXlat) (s : State) (bent va n : Nat) : Nat → State × EngineRange
  | 0 => (s, .ok [])
  | k + 1 =>
    if n = 0 then (s, .ok [])
    else
      let m := Nat.min n (2 ^ 15 - va % 2 ^ 15)
      match xlat s va with
      | (s1, .fault t) => (s1, .fault va t)
      | (s1, .ok pa) =>
        match s1.homeRoute bent pa with
        | .error c => (s1, .error va c)
        | .wait => (s1, .wait)
        | .go =>
          if !s1.quietRange bent pa m then (s1, .wait)
          else
            match State.rangeBy xlat s1 bent (va + m) (n - m) k with
            | (s2, .ok l) => (s2, .ok ((pa, m) :: l))
            | r => r

/-- A range through the L2 translation cache of a bent (21 R374). -/
def State.engineRange (s : State) (bent : Nat) (space : BitVec 12 × Word) (use : PageUse) (va n k : Nat) : State × EngineRange :=
  State.rangeBy (fun s va => s.engineXlat bent space.1 space.2 use va) s bent va n k

/-- Writes the low bytes of v to the pieces of a range. -/
def State.engineWritePieces (s : State) (bent : Nat) : List (Nat × Nat) → Nat → State
  | [], _ => s
  | (pa, n) :: r, v => State.engineWritePieces (s.engineWrite bent pa n (v % 2 ^ (8 * n))) bent r (v / 2 ^ (8 * n))

/-- Reads the pieces of a range as one number; none where a piece is poisoned. -/
def State.engineReadPieces (s : State) (bent : Nat) : List (Nat × Nat) → State × Option Nat
  | [] => (s, some 0)
  | (pa, n) :: r =>
    if s.poisoned pa n then (s, none)
    else
      let s1 := s.recallRange bent pa n
      let x := s1.engineRead bent pa n
      match State.engineReadPieces s1 bent r with
      | (s2, some y) => (s2, some (x + 2 ^ (8 * n) * y))
      | (s2, none) => (s2, none)

/-! ### Sequence counters -/

/-- SCOPE of a counter handle: 0 and 1 are taken as 2, 7 as 6 (13 table 13.8). -/
def seqScope (h : Word) : Nat :=
  let c := h.toNat / 2 ^ 32 % 8
  if c < 2 then 2 else if c = 7 then 6 else c

/-- The bent that a counter handle names in a package. -/
def seqBent (pkg : Nat) (h : Word) : Nat := pkg * 128 + h.toNat / 2 ^ 12 % 128

/-- SEQS of a kernel. -/
def State.seqsOf (s : State) (pkg kern : Nat) : Nat :=
  match s.kernelAt pkg kern with
  | some k => recordField k.record 0x40 2
  | none => 0

/-- Whether R255 refuses a counter handle of a kernel. -/
def State.seqRefused (s : State) (pkg kern : Nat) (h : Word) : Bool :=
  h.toNat / 2 ^ 35 != 0 || h.toNat / 2 ^ 19 % 2 ^ 13 != 0 || h.toNat / 2 ^ 11 % 2 != 0 || decide (s.seqsOf pkg kern ≤ h.toNat % 2 ^ 11)

/-- The address of a counter in the SRAM of its bent; none where the kernel holds no counters there. -/
def State.seqAddress (s : State) (pkg kern : Nat) (h : Word) : Option Nat :=
  (AMap.find? (s.bentAt (seqBent pkg h)).seqOwner kern).map fun r => 0x8000 + 8 * (r.1 + h.toNat % 2 ^ 11)

/-- The value of a counter. -/
def State.seqValue (s : State) (pkg kern : Nat) (h : Word) : Nat :=
  match s.seqAddress pkg kern h with
  | some a => Memory.readNat (s.bentAt (seqBent pkg h)).sram a 8
  | none => 0

/-- Whether every counter of an entry of a wait list has reached its threshold (13 R257). -/
def State.waitReady (s : State) (w : TaskWait) : Bool :=
  w.pairs.all fun p => decide (p.2.toNat ≤ s.seqValue (pkgOf w.core) w.kern p.1)

/-- Marks the entries of the wait lists that an increment of a counter has made ready (13 R257). -/
def State.markReady (before after : State) (h : Word) (v : Nat) : State :=
  { after with bents := AMap.mapVals after.bents fun b =>
      { b with waits := b.waits.map fun w => if !before.waitReady w && after.waitReady w then { w with group := some (h, v) } else w } }

/-- The counter increased by n, up to 2^64 - 1; the wait lists are tested (13 R255, R257). -/
def State.seqAdd (s : State) (pkg kern : Nat) (h : Word) (n : Nat) : State :=
  match s.seqAddress pkg kern h with
  | some a =>
    let v := Nat.min (Memory.readNat (s.bentAt (seqBent pkg h)).sram a 8 + n) (2 ^ 64 - 1)
    s.markReady (s.modBentAt (seqBent pkg h) fun b => { b with sram := Memory.writeNat b.sram a 8 v }) h v
  | none => s

/-! ### The save area as the core uses it while a context runs -/

/-- Adds n errors, the first with a cause and an address, to the fault record of a context (19 R359). -/
def State.recordErrors (s : State) (core kern : Nat) (cause : BitVec 8) (addr : Word) (n : Nat) : State :=
  match s.saveAreaRead core kern 0x610 8 with
  | (s1, some count) =>
    let s2 := s1.saveAreaWrite core kern 0x610 8 (count + n)
    if count = 0 then (s2.saveAreaWrite core kern 0x600 8 cause.toNat).saveAreaWrite core kern 0x608 8 addr.toNat else s2
  | (s1, none) => s1

/-- Moves the errors that a context keeps of its ended tasks to its fault record (04 R94). -/
def State.flushLate (s : State) (core kern : Nat) : State :=
  let e := (s.ctxOf core kern).late
  if e.count = 0 then s
  else (s.recordErrors core kern e.cause e.addr e.count).modCtxOf core kern fun c => { c with late := {} }

/-- Whether the errors that a context keeps, or n more, can be recorded as far as the lines of the fault record go. -/
def State.errorsReady (s : State) (core kern n : Nat) : Bool :=
  (s.ctxOf core kern).late.count + n = 0 || s.saveAreaQuiet core kern 0x600 64

/-- Moves the unreported posted errors of a slot to the fault record of its context. -/
def State.moveErrors (s : State) (core slot : Nat) : State :=
  let sl := s.slotOf core slot
  match sl.ctx with
  | some k =>
    let s1 := s.flushLate core k
    if sl.perr.count = 0 then s1
    else (s1.recordErrors core k sl.perr.cause sl.perr.addr sl.perr.count).modSlotOf core slot fun sl => { sl with perr := {} }
  | none => s

/-- Appends a record of eight words to the supervisor queue of a context (19 R356); none while the ring is full. -/
def State.appendRecord (s : State) (core kern : Nat) (words : List Word) : Option State :=
  match s.saveAreaRead core kern 0x48 8 with
  | (s1, some w) =>
    let head := w % 128
    let tail := w / 2 ^ 16 % 128
    if (tail + 1) % 128 = head then none
    else
      let s2 := s1.saveAreaWrite core kern (0xE000 + 64 * tail) 64 (packLanes 64 (words.map BitVec.toNat))
      some ((s2.saveAreaWrite core kern 0x4A 1 ((tail + 1) % 128)).modCtxOf core kern fun c => { c with svcWaiting := c.svcWaiting + 1 })
  | (s1, none) => some s1

/-- Whether a record can be appended to a supervisor queue as far as its cache lines go. -/
def State.recordReady (s : State) (core kern : Nat) : Bool :=
  s.saveAreaQuiet core kern 0 256 && s.saveAreaQuiet core kern 0xE000 8192

/-- Appends the frame record that a deque port holds, once the queue of its context has room (19 R356). -/
def State.flushFrameRecord (s : State) (core : Nat) : State :=
  match (s.coreAt core).deque.record with
  | some (kern, a, v) =>
    if !s.recordReady core kern then s
    else
      match s.appendRecord core kern [3, a, BitVec.ofNat 64 v, 0, 0, 0, 0, 0] with
      | some s1 => s1.modCoreAt core fun c => { c with deque := { c.deque with record := none } }
      | none => s
  | none => s

/-! ### Records of the supervisor queue -/

/-- Whether the record at an index of a supervisor queue has not been consumed (19 R356). -/
def State.recordOutstanding (s : State) (core kern index : Nat) : Bool :=
  match (s.saveAreaRead core kern 0x48 8).2 with
  | some w => decide ((index + 128 - w % 128) % 128 < (w / 2 ^ 16 % 128 + 128 - w % 128) % 128)
  | none => false

/-- TAIL of a supervisor queue. -/
def State.recordTail (s : State) (core kern : Nat) : Nat :=
  match (s.saveAreaRead core kern 0x48 8).2 with
  | some w => w / 2 ^ 16 % 128
  | none => 0

/-! ### Barriers (16 table 16.2, R302, R314) -/

/-- The bent that a barrier name gives. -/
def nameBent (name : Word) : Nat := name.toNat / 2 ^ 40 % 256 * 128 + name.toNat / 2 ^ 12 % 128

/-- The entry that a barrier name gives. -/
def nameIndex (name : Word) : Nat := name.toNat % 1024

/-- A word of a barrier entry. -/
def Bent.bar (b : Bent) (i word : Nat) : Nat := Memory.readNat b.sram (0xC000 + 16 * i + 8 * word) 8

/-- Writes a word of a barrier entry. -/
def Bent.setBar (b : Bent) (i word v : Nat) : Bent := { b with sram := Memory.writeNat b.sram (0xC000 + 16 * i + 8 * word) 8 v }

/-- A Freed entry that no engine command names any more becomes Free (16 R313). -/
def Bent.barIdle (b : Bent) (i : Nat) : Bent :=
  match AMap.find? b.bars i with
  | some x =>
    if x.freed && x.refs = 0 then
      { b.setBar i 1 (Nat.land (b.bar i 1) (2 ^ 64 - 1 - 0x18)) with bars := AMap.set b.bars i { x with freed := false } }
    else b
  | none => b

/-- Adds to REFS of the entry of a name, of the kernel that holds it. -/
def State.barRef (s : State) (name : Word) (up : Bool) : State :=
  if name = 0 then s
  else s.modBentAt (nameBent name) fun b =>
    match AMap.find? b.bars (nameIndex name) with
    | some x =>
      { b with bars := AMap.set b.bars (nameIndex name) { x with refs := if up then x.refs + 1 else x.refs - 1 } }.barIdle (nameIndex name)
    | none => b

/-! ### Completion events -/

/-- Posts a 64-byte engine message to the mailbox of a context; it waits while the mailbox is full or the context is away (15 table 15.6, 17 R323,
R332). -/
def State.postMail (s : State) (core kern : Nat) (entry : Vec) : State :=
  (s.modCtxOf core kern fun c => { c with mailWait := c.mailWait ++ [entry] }).refill core kern

/-- The core of a rank of a kernel. -/
def State.rankCore (s : State) (pkg kern rank : Nat) : Option Nat := (s.kernelAt pkg kern).bind fun k => k.cores[rank]?

/-- Delivers a completion event (15 R296). -/
def DoneEvent.deliver (e : DoneEvent) (s : State) : State :=
  match e with
  | .seq pkg kern h => s.seqAdd pkg kern h 1
  | .mail pkg kern rank entry =>
    match s.rankCore pkg kern rank with
    | some core => s.postMail core kern entry
    | none => s
  | .free bar => s.barRef bar false
  | .copy core kern uid => s.modCoreAt core fun c => { c with ending := c.ending.filter fun e => !(e.1 == kern && e.2.1 == uid) }

/-- Delivers completion events in order. -/
def State.deliverAll (s : State) (l : List DoneEvent) : State := l.foldl (fun s e => e.deliver s) s

/-- The completion events of a BAR register beside its byte count (15 table 15.1, R296): the sequence increment and the message. -/
def doneEvents (pkg kern rank act : Nat) (entry : Vec) : List DoneEvent :=
  (if act / 2 ^ 62 % 2 = 1 then [.seq pkg kern (BitVec.ofNat 64 (act % 2 ^ 35))] else []) ++
    if act / 2 ^ 61 % 2 = 1 then [.mail pkg kern rank entry] else []

/-! ### Events for barriers (16 R304) -/

/-- Puts an event for a barrier on its way to the home bent. -/
def State.barSend (s : State) (name : Word) (m : BarMsg) : State :=
  s.modBentAt (nameBent name) fun b => { b with barIn := b.barIn ++ [{ m with index := nameIndex name, sent := s.cycle }] }

/-- Counts n landed bytes of a kernel on a barrier for a core, and delivers events after the counts of the core that are under way (15 R296); a name
of 0 names no barrier. -/
def State.barCount (s : State) (name : Word) (kern n source : Nat) (next : List DoneEvent := []) : State :=
  if name = 0 then s.deliverAll next
  else if n = 0 && next.isEmpty then s
  else s.barSend name { kind := 1, index := 0, n := n, source := source, kern := kern, next := next }

/-- Whether nothing is on its way to a barrier for a kernel of a package that p selects. -/
def State.barsQuiet (s : State) (pkg kern : Nat) (p : BarMsg → Bool) : Bool :=
  s.bents.all fun b => b.2.barIn.all fun m => !(m.kern == kern && pkgOf m.source == pkg && p m)

end Sys2Proof.Machine
end

