-- ==== Sys2Proof/Machine/Barriers.lean ====
section
/-!
DEFINITION. Barriers (16 R302 to R317): entries, the phase rule, the BAR instructions and the events at a home.

Readings of the manual and choices that this file codes: assumption log 68, 69, 70, 72.
-/
namespace Sys2Proof.Machine

open Sys2Proof

/-! ### Entries (16 table 16.1) -/

/-- The fields of a barrier entry. -/
structure BarEntry where
  phase : Nat
  arrivals : Nat
  arrived : Nat
  mon : Nat
  expb : Nat
  cntb : Nat
  scope : Nat
  state : Nat
  oop : Bool
  fkind : Nat
deriving DecidableEq, Repr

/-- The entry with a number in the table of a bent. -/
def Bent.barEntry (b : Bent) (i : Nat) : BarEntry :=
  let w := b.bar i 0
  let v := b.bar i 1
  ⟨w / 2 ^ 32, w / 2 ^ 20 % 4096, w / 2 ^ 8 % 4096, w % 256, v / 2 ^ 36, v / 2 ^ 8 % 2 ^ 28, v / 2 ^ 5 % 8, v / 2 ^ 3 % 4, v / 4 % 2 == 1, v % 4⟩

/-- The two words of an entry. -/
def BarEntry.words (e : BarEntry) : Nat × Nat :=
  (e.phase % 2 ^ 32 * 2 ^ 32 + e.arrivals % 4096 * 2 ^ 20 + e.arrived % 4096 * 2 ^ 8 + e.mon % 256,
   e.expb % 2 ^ 28 * 2 ^ 36 + e.cntb % 2 ^ 28 * 2 ^ 8 + e.scope % 8 * 2 ^ 5 + e.state % 4 * 2 ^ 3 + e.oop.toNat * 4 + e.fkind % 4)

/-- Writes an entry. -/
def State.putBar (s : State) (bent i : Nat) (e : BarEntry) : State :=
  s.modBentAt bent fun b => (b.setBar i 0 e.words.1).setBar i 1 e.words.2

/-- What an entry carries beside its words. -/
def State.barInfo (s : State) (bent i : Nat) : BarInfo := AMap.getD (s.bentAt bent).bars i { kern := 65536, core := 0, handle := 16 }

/-- Replaces it. -/
def State.setBarInfo (s : State) (bent i : Nat) (x : BarInfo) : State := s.modBentAt bent fun b => { b with bars := AMap.set b.bars i x }

/-- The name of an entry. -/
def barName (bent i : Nat) : Word := BitVec.ofNat 64 (2 ^ 63 + bent / 128 * 2 ^ 40 + bent % 128 * 2 ^ 12 + i)

/-! ### The phase rule (16 R304) -/

/-- Whether phase p has completed when the current phase is q. -/
def phaseDone (q p : Nat) : Bool := let m := (q + 2 ^ 32 - p % 2 ^ 32) % 2 ^ 32; decide (1 ≤ m) && decide (m < 2 ^ 31)

/-- Whether phase p, the one before the current, failed its plumb check. -/
def BarEntry.failedPhase (e : BarEntry) (p : Nat) : Bool := e.oop && (p + 1) % 2 ^ 32 == e.phase

/-- The status word of BWAIT and BTEST (16 table 16.6). -/
def BarEntry.status (e : BarEntry) (freed : Bool) (p : Nat) : Word :=
  BitVec.ofNat 64 ((phaseDone e.phase p).toNat * 2 ^ 63 + (e.state = 3 || e.state = 0 || freed : Bool).toNat * 2 ^ 62 +
    (e.failedPhase p).toNat * 2 ^ 61 + e.arrived * 2 ^ 32 + e.phase)

/-- How an entry, as it stands after an event, ends a BWAIT on phase p (16 R311); none while it goes on. -/
def BarEntry.ends (e : BarEntry) (freed : Bool) (p : Nat) : Option BarEnd :=
  if e.state = 0 ∨ freed then some { fault := true, word := BitVec.ofNat 64 e.phase }
  else if e.state = 3 then some { fault := true, word := BitVec.ofNat 64 (e.fkind * 2 ^ 32 + e.phase) }
  else if phaseDone e.phase p then some { fault := false, word := e.status freed p, oop := e.failedPhase p, scope := e.scope }
  else none

/-- A slot whose parked BWAIT an event of the barrier ends. -/
def Slot.barEnd (sl : Slot) (name : Word) (e : BarEntry) (freed : Bool) : Slot :=
  match sl.bwait with
  | some w => if w.name = name ∧ w.done = none then { sl with bwait := some { w with done := e.ends freed (w.arg.toNat / 2 ^ 32) } } else sl
  | none => sl

/-- Whether a BWAIT on a name is parked on a core. -/
def Core.parkedOn (c : Core) (name : Word) : Bool := c.slots.toList.any fun sl => sl.bwait.any fun w => w.name = name

/-- Ends the parked BWAITs of a name that the entry, as it stands after an event, ends, and sends a wake to every bent that holds a
context with the name mapped (16 R307, R311, R313); done tells of the completion of a phase, which sets event flags (04 R106). -/
def State.barWake (s : State) (name : Word) (e : BarEntry) (freed : Bool := false) (done : Bool := false) : State :=
  let s1 := (s.cores.filter fun c => c.2.parkedOn name).foldl (fun s c =>
    s.modCoreAt c.1 fun x => { x with slots := x.slots.map fun sl => sl.barEnd name e freed }) s
  let bents := ((s.cores.filter fun c => c.2.ctxs.any fun x => x.2.bmap.any fun m => m.2 = name).map fun c => bentOf c.1).eraseDups
  bents.foldl (fun s b => s.modBentAt b fun x => { x with wakes := x.wakes ++ [(name, done)] }) s1

/-- Fault(k). -/
def State.barFault (s : State) (bent i : Nat) (e : BarEntry) (k : Nat) : State :=
  let e1 := { e with state := 3, fkind := k }
  (s.putBar bent i e1).barWake (barName bent i) e1

/-- The armed monitors of a barrier. -/
def State.armedOn (s : State) (name : Word) : List (Nat × Nat) :=
  s.bents.flatMap fun b => (b.2.monitors.filter fun m => m.2.st = .armed && m.2.barrier = name).map fun m => (b.1, m.1)

/-- The end of a phase with its verdict. -/
def State.barAdvance (s : State) (bent i : Nat) (e : BarEntry) (oop : Bool) : State :=
  let e1 := { e with oop := oop, phase := (e.phase + 1) % 2 ^ 32, arrived := 0, expb := 0, cntb := 0 }
  (s.putBar bent i e1).barWake (barName bent i) e1 false true

/-- Complete(): with nominated monitors a plumb check comes first (18 R338). -/
def State.barComplete (s : State) (bent i : Nat) (e : BarEntry) : State :=
  if e.mon = 0 then s.barAdvance bent i e false
  else (s.putBar bent i e).setBarInfo bent i { s.barInfo bent i with check := some { waiting := s.armedOn (barName bent i) } }

/-- The entry after an event, in Faulted with a kind where the event was a fault. -/
def State.barSettle (s : State) (bent i : Nat) (e : BarEntry) (fault : Option Nat) : State :=
  match fault with
  | some k => s.barFault bent i e k
  | none => s.putBar bent i e

/-- The test that follows every event, fault being the kind of Fault that the event itself raised.  Fault does not end the step: an entry whose
arrivals are all in and whose bytes exceed the expectation takes FKIND 2 as well (assumption log 69). -/
def State.barTest (s : State) (bent i : Nat) (e : BarEntry) (expb : Int) (fault : Option Nat := none) : State :=
  let e0 := { e with expb := (expb % (2 ^ 28 : Nat)).toNat }
  let f : Option Nat := if expb < 0 ∨ (2 ^ 28 : Nat) ≤ expb ∨ 2 ^ 28 ≤ e.cntb then some 3 else fault
  let e1 := if f.isNone && e0.state = 1 then { e0 with state := 2 } else e0
  if e1.arrived = e1.arrivals then
    (if expb < (e.cntb : Int) then s.barFault bent i e1 2
     else if expb = (e.cntb : Int) ∧ f.isNone then s.barComplete bent i e1
     else s.barSettle bent i e1 f)
  else s.barSettle bent i e1 f

/-- An event at an entry: kind 0 an expectation change, 1 a byte count, 2 an arrival. -/
def State.barEvent (s : State) (bent i kind : Nat) (n : Int) : State :=
  let e := (s.bentAt bent).barEntry i
  if e.state = 0 ∨ e.state = 3 ∨ (s.barInfo bent i).freed then s
  else if kind = 2 then
    (if e.arrived = e.arrivals then s.barTest bent i e e.expb (some 1) else s.barTest bent i { e with arrived := e.arrived + 1 } e.expb)
  else if kind = 1 then s.barTest bent i { e with cntb := e.cntb + n.toNat } e.expb
  else s.barTest bent i e (e.expb + n)

/-- So many arrivals, each followed by the test, up to one that begins a plumb check: the arrivals that are left. -/
def State.barArrivals (s : State) (bent i : Nat) : Nat → State × Nat
  | 0 => (s, 0)
  | n + 1 => if (s.barInfo bent i).check.isSome then (s, n + 1) else State.barArrivals (s.barEvent bent i 2 1) bent i n

/-! ### Events on their way -/

/-- Where an event stands in the order of R305 within a cycle: by its kind, then by its source. -/
def barBefore (a b : Nat × Nat) : Bool := a.1 < b.1 || (a.1 == b.1 && a.2 ≤ b.2)

/-- Whether an entry may take an event of a kind and a source in this cycle: it has taken none in the cycle that comes after it (16 R305). -/
def State.barInTurn (s : State) (bent i kind source : Nat) : Bool :=
  match (s.barInfo bent i).last with
  | some (cycle, last) => cycle != s.cycle || barBefore last (kind, source)
  | none => true

/-- Whether message number k of a home can be taken: no check holds its entry, no earlier message of its task goes to the entry, and its
path does not wait for a link. -/
def State.barReady (s : State) (bent k : Nat) (m : BarMsg) : Bool :=
  (s.barInfo bent m.index).check.isNone && s.route (dieOf m.source) (dieOfBent bent) ≠ .wait &&
    ((s.bentAt bent).barIn.take k).all fun x => x.index != m.index || m.task.isNone || x.task != m.task

/-- The messages of a home that the switches have merged with message number k, which comes from outside the home bent (16 R307): those of its kind
for its entry that come from outside too, left within 8 cycles of it, and can be taken. -/
def State.barMerged (s : State) (bent k : Nat) (m : BarMsg) : List (Nat × BarMsg) :=
  let l := (s.bentAt bent).barIn
  if bentOf m.source = bent || s.route (dieOf m.source) (dieOfBent bent) ≠ .go then [(k, m)]
  else (List.range l.length).filterMap fun j => (l[j]?).bind fun x =>
    if j == k || (x.kind == m.kind && x.index == m.index && bentOf x.source != bent && x.sent ≤ m.sent + 8 && m.sent ≤ x.sent + 8 &&
        s.route (dieOf x.source) (dieOfBent bent) = .go && s.barReady bent j x) then some (j, x) else none

/-- One event out of merged messages: the sum of their counts under their lowest core number. -/
def mergedEvent (m : BarMsg) (l : List (Nat × BarMsg)) : BarMsg :=
  { m with
    n := (l.map fun p => p.2.n).sum
    source := (l.map fun p => p.2.source).foldl Nat.min m.source
    task := none
    next := l.flatMap fun p => p.2.next }

/-- Records the order of R305 under which an entry took an event. -/
def State.barTook (s : State) (bent : Nat) (m : BarMsg) : State :=
  if AMap.has (s.bentAt bent).bars m.index then
    s.setBarInfo bent m.index { s.barInfo bent m.index with last := some (s.cycle, m.kind, m.source) }
  else s

/-- An event takes its effect at its entry; arrivals behind one that begins a plumb check stay on their way.  A count of no bytes is no event: it
only brings what follows it. -/
def State.barApply (s : State) (bent : Nat) (m : BarMsg) : State :=
  if m.kind = 1 && m.n = 0 then s
  else
    let s0 := s.barTook bent m
    if m.kind = 2 then
      let r := s0.barArrivals bent m.index m.n.toNat
      if r.2 = 0 then r.1 else r.1.modBentAt bent fun b => { b with barIn := { m with n := r.2, next := [] } :: b.barIn }
    else s0.barEvent bent m.index m.kind m.n

/-- Takes message number k and those merged with it: their event and what follows it, or an error reply where no path leads to the home, which is a
posted error of the task with its reply code (16 R310). -/
def State.barTake (s : State) (bent k : Nat) (m : BarMsg) : State :=
  match s.route (dieOf m.source) (dieOfBent bent) with
  | .error c =>
    let s1 := s.modBentAt bent fun b => { b with barIn := b.barIn.eraseIdx k }
    let s2 := match m.task with
      | some (core, slot) =>
        s1.postedError core slot Cause.remoteError (barName bent m.index) c (c = 3) (s1.failedLink (dieOf core) (dieOfBent bent))
      | none => s1
    s2.deliverAll m.next
  | _ =>
    let l := s.barMerged bent k m
    let x := mergedEvent m l
    let s1 := s.modBentAt bent fun b =>
      { b with barIn := (List.range b.barIn.length).filterMap fun j => if l.any fun p => p.1 == j then none else b.barIn[j]? }
    (s1.barApply bent x).deliverAll x.next

/-- The first message of a home that p selects and that can be taken, in its turn of the cycle. -/
def State.barFind (s : State) (bent : Nat) (p : BarMsg → Bool) : Option (Nat × BarMsg) :=
  let l := (s.bentAt bent).barIn
  (List.range l.length).findSome? fun k => (l[k]?).bind fun m =>
    if p m && s.barReady bent k m && s.barInTurn bent m.index m.kind m.source then some (k, m) else none

/-- Takes the first message of a kind that can be taken. -/
def State.barNext (s : State) (bent kind : Nat) : State :=
  match s.barFind bent fun m => m.kind = kind with
  | some (k, m) => s.barTake bent k m
  | none => s

/-- BARRIER_ARRIVAL (16 R304): an arrival reaches its home. -/
def execBarrierArrival (bent : Nat) (s : State) : Host.Outcome State Fault Refusal := .next (s.barNext bent 2)

/-- BARRIER_BYTE_COUNT (16 R304): a byte count reaches its home. -/
def execBarrierByteCount (bent : Nat) (s : State) : Host.Outcome State Fault Refusal := .next (s.barNext bent 1)

/-- BARRIER_EXPECT (16 R304): an expectation change reaches its home. -/
def execBarrierExpect (bent : Nat) (s : State) : Host.Outcome State Fault Refusal := .next (s.barNext bent 0)

/-- Readies the waiting slots of a context; the completion of a phase sets their event flags (04 R106). -/
def Core.wakeCtx (c : Core) (kern : Nat) (done : Bool) : Core :=
  let slots := c.slots.map fun (sl : Slot) =>
    if sl.ctx = some kern && sl.run ≠ .free then
      { sl with evt := sl.evt || done, run := if sl.run = .waiting then .ready else sl.run }
    else sl
  Core.settleCtx { c with slots := slots } kern

/-- BARRIER_WAKE (16 R307, 04 R106): a wake reaches a bent; slots of the contexts that map the name read the phase again. -/
def execBarrierWake (bent : Nat) (s : State) : Host.Outcome State Fault Refusal :=
  match (s.bentAt bent).wakes with
  | (name, done) :: rest =>
    .next ((coresOfBent bent).foldl (fun s k =>
      (s.coreAt k).ctxs.foldl (fun s x => if x.2.bmap.any fun m => m.2 = name then s.modCoreAt k fun c => (c.wakeCtx x.1 done).countParked s.cycle else s) s)
      (s.modBentAt bent fun b => { b with wakes := rest }))
  | [] => .next s

/-- Ends the BWAITs parked on barriers whose path crossed a failed link with reply code 3 (16 R311, 22 R390). -/
def State.failWaits (s : State) (crosses : Nat → Nat → Bool) : State :=
  { s with cores := AMap.mapKeyed s.cores fun core c =>
      let lost (w : BarPark) : Bool := w.done.isNone && crosses (dieOf core) (dieOfBent (nameBent w.name))
      let slots := c.slots.map fun (sl : Slot) =>
        match sl.bwait with
        | some w =>
          if lost w then
            { sl with bwait := some { w with done := some { fault := false, word := 0, reply := some 3 } }, run := if sl.run = .waiting then .ready else sl.run }
          else sl
        | none => sl
      if slots = c.slots then c else (c.ctxs.keys.foldl Core.settleCtx { c with slots := slots }).countParked s.cycle }

/-! ### Handles -/

/-- Whether a message is one of the current task for the entry of a name. -/
def State.ownBarMsg (s : State) (name : Word) (m : BarMsg) : Bool := m.task = some (s.cur, s.core.curSlot.val) && m.index == nameIndex name

/-- Delivers the messages of the current task to an entry that precede an instruction of the task on it (16 R306); none while one is left that
cannot be taken yet. -/
def State.barFlush (s : State) (name : Word) : Option State :=
  let bent := nameBent name
  let mine := (s.bentAt bent).barIn.filter (s.ownBarMsg name)
  let s1 := mine.foldl (fun s _ => match s.barFind bent (s.ownBarMsg name) with
    | some (k, m) => s.barTake bent k m
    | none => s) s
  if (s1.bentAt bent).barIn.any (s1.ownBarMsg name) then none else some s1

/-- The name of a handle operand; SPACE-PERMISSION for other bits set (6) or an empty map entry (7). -/
def State.withHandle (s : State) (x : Word) (phase : Bool) (body : State → Word → State) : State :=
  let n := x.toNat
  if (if phase then n / 16 % 2 ^ 28 else n / 16) ≠ 0 then s.trap Cause.spacePermission x 6
  else
    let name := AMap.getD s.ctx.bmap (n % 16) 0
    if name = 0 then s.trap Cause.spacePermission x 7 else body s name

/-- Whether a core lies within a scope of a home bent (16 R308, R309). -/
def inScope (core bent scope : Nat) : Bool :=
  if scope ≤ 2 then bentOf core = bent
  else if scope = 3 then dieOf core = dieOfBent bent
  else if scope = 4 then pkgOf core = pkgOfBent bent
  else true

/-! ### BINIT -/

/-- The entry reserved for a handle of a context: bent key and number. -/
def State.reservedBar (s : State) (core kern handle : Nat) : Option (Nat × Nat) :=
  s.bents.findSome? fun b =>
    (List.find? (fun (e : Nat × BarInfo) => e.2.kern = kern && e.2.core = core && e.2.handle = handle && pkgOfBent b.1 = pkgOf core) b.2.bars).map
      fun e => (b.1, e.1)

/-- BINIT create (16 R309) of handle h with configuration word c. -/
def State.barCreate (s : State) (h : Nat) (c : Word) (d : BitVec 5) (stall : Nat) : State :=
  let n := c.toNat
  let scope := if n / 2 ^ 61 < 2 then 2 else n / 2 ^ 61
  let arrivals := n / 2 ^ 32 % 4096
  let mon := n / 2 ^ 53 % 256
  if n / 2 ^ 61 = 7 ∨ arrivals = 0 ∨ n / 2 ^ 44 % 512 ≠ 0 ∨ n % 2 ^ 32 ≠ 0 then s.trap Cause.spacePermission c 6
  else if mon ≠ 0 ∧ !s.hasFeature 7 then s.trap Cause.spacePermission c 10
  else
    match s.reservedBar s.cur s.kern h with
    | some (bent, i) =>
      match s.route (dieOf s.cur) (dieOfBent bent) with
      | .wait => s.wait
      | .error e => s.trap Cause.remoteError (barName bent i) (BitVec.ofNat 64 e)
      | .go =>
        if (s.barInfo bent i).freed then s.wait
        else s.released scope fun s =>
          let name := barName bent i
          (((s.putBar bent i ⟨0, arrivals, 0, mon, 0, 0, scope, 1, false, 0⟩).modCtx fun x => { x with bmap := AMap.set x.bmap h name }).putG d name 14
            false).retire stall
    | none => s.wait

/-- BINIT attach (16 R309) of handle h to a name. -/
def State.barAttach (s : State) (h : Nat) (name : Word) (d : BitVec 5) (stall : Nat) : State :=
  let n := name.toNat
  if n / 2 ^ 63 = 0 ∨ n / 2 ^ 48 % 2 ^ 15 ≠ 0 ∨ n / 2 ^ 19 % 2 ^ 21 ≠ 0 ∨ n / 2 ^ 10 % 4 ≠ 0 then s.trap Cause.spacePermission name 6
  else if pkgOfBent (nameBent name) ≠ pkgOf s.cur ∧ !s.hasFeature 9 then s.trap Cause.spacePermission name 10
  else
    let bent := nameBent name
    match s.route (dieOf s.cur) (dieOfBent bent) with
    | .wait => s.wait
    | .error c => s.trap Cause.remoteError name (BitVec.ofNat 64 c)
    | .go =>
      let e := (s.bentAt bent).barEntry (nameIndex name)
      let x := s.barInfo bent (nameIndex name)
      if (e.state ≠ 1 ∧ e.state ≠ 2) ∨ x.freed ∨ x.kern ≠ s.kern then (s.putG d 3 14 false).retire stall
      else if !inScope s.cur bent e.scope then (s.putG d 4 14 false).retire stall
      else ((s.modCtx fun x => { x with bmap := AMap.set x.bmap h name }).putG d name 14 false).retire stall

/-- BINIT (16 R309). -/
def execBinit (d a b : BitVec 5) (sc : BitVec 3) (s : State) : Host.Outcome State Fault Refusal :=
  issue (.binit d a b sc) [.g a, .g b] [.g d] s fun s =>
    let x := s.readG a
    let h := x.toNat % 16
    if x.toNat / 16 % 2 ^ 59 ≠ 0 ∨ s.ctx.barriers ≤ h then s.trap Cause.spacePermission x 6
    else if AMap.getD s.ctx.bmap h 0 ≠ 0 then (s.putG d 2 14 false).retire (stallOf sc)
    else if x.getLsbD 63 then s.barAttach h (s.readG b) d (stallOf sc)
    else s.barCreate h (s.readG b) d (stallOf sc)

/-! ### BARRIVE, BEXPECT, BFREE -/

/-- An event of the current task: kind 0 an expectation change, 2 an arrival. -/
def State.taskEvent (s : State) (kind : Nat) (n : Int) : BarMsg :=
  { kind := kind, index := 0, n := n, source := s.cur, kern := s.kern, task := some (s.cur, s.core.curSlot.val) }

/-- BARRIVE (16 R310): a release at the barrier's scope, then the arrival leaves. -/
def execBarrive (a : BitVec 5) (sc : BitVec 3) (s : State) : Host.Outcome State Fault Refusal :=
  issue (.barrive a sc) [.g a] [] s fun s =>
    s.withHandle (s.readG a) false fun s name =>
      s.released ((s.bentAt (nameBent name)).barEntry (nameIndex name)).scope fun s =>
        (s.barSend name (s.taskEvent 2 1)).retire (stallOf sc)

/-- BEXPECT (16 R310). -/
def execBexpect (a b : BitVec 5) (sc : BitVec 3) (s : State) : Host.Outcome State Fault Refusal :=
  issue (.bexpect a b sc) [.g a, .g b] [] s fun s =>
    s.withHandle (s.readG a) false fun s name =>
      (s.barSend name (s.taskEvent 0 (s.readG b).toInt)).retire (stallOf sc)

/-- BFREE (16 R313): the map entry empties, and an entry that the context created is Freed. -/
def execBfree (a : BitVec 5) (sc : BitVec 3) (s : State) : Host.Outcome State Fault Refusal :=
  issue (.bfree a sc) [.g a] [] s fun s =>
    s.withHandle (s.readG a) false fun s name =>
      let h := (s.readG a).toNat % 16
      match s.barFlush name with
      | none => s.wait
      | some s0 =>
        let bent := nameBent name
        let i := nameIndex name
        let x := s0.barInfo bent i
        let s1 := s0.modCtx fun c => { c with bmap := AMap.erase c.bmap h }
        let s2 := if x.kern = s0.kern && x.core = s0.cur && x.handle = h then
            ((s0.barWake name ((s0.bentAt bent).barEntry i) true).modCtx fun c => { c with bmap := AMap.erase c.bmap h }).modBentAt bent fun b =>
              { b with bars := AMap.set b.bars i { x with freed := true, check := none } }.barIdle i
          else s1
        s2.retire (stallOf sc)

/-! ### BWAIT and BTEST -/

/-- Reads the entry of a name, or REMOTE-ERROR where its home cannot be reached (16 R311, R312). -/
def State.atBar (s : State) (name : Word) (body : State → Word → BarEntry → Bool → State) : State :=
  match s.route (dieOf s.cur) (dieOfBent (nameBent name)) with
  | .wait => s.wait
  | .error c => s.trap Cause.remoteError name (BitVec.ofNat 64 c)
  | .go =>
    match s.barFlush name with
    | none => s.wait
    | some s1 => body s1 name ((s1.bentAt (nameBent name)).barEntry (nameIndex name)) (s1.barInfo (nameBent name) (nameIndex name)).freed

/-- Reads the entry of a handle for BWAIT and BTEST. -/
def State.withBar (s : State) (x : Word) (body : State → Word → BarEntry → Bool → State) : State :=
  s.withHandle x true fun s name => s.atBar name body

/-- The end of a BWAIT on phase p: an error reply, a fault of the barrier, or the acquire, the status word and, where the phase failed, OUT-OF-PLUMB. -/
def State.bwaitEnd (s : State) (d : BitVec 5) (stall : Nat) (name : Word) (p : Nat) (x : BarEnd) : State :=
  match x.reply with
  | some c => s.trap Cause.remoteError name (BitVec.ofNat 64 c)
  | none =>
    if x.fault then s.trap Cause.barrierOvercount name x.word
    else
      let s1 := ((s.acquire s.cur x.scope).putG d x.word 6 false).retire stall
      if x.oop then s1.asyncTrap s1.cur s1.core.curSlot.val Cause.outOfPlumb name (BitVec.ofNat 64 p) else s1

/-- A BWAIT at its barrier's entry: it ends, or parks. -/
def State.bwaitAt (s : State) (d : BitVec 5) (stall : Nat) (x name : Word) (e : BarEntry) (freed : Bool) : State :=
  match e.ends freed (x.toNat / 2 ^ 32) with
  | some y => s.bwaitEnd d stall name (x.toNat / 2 ^ 32) y
  | none => (s.modSlot fun sl => { sl with bwait := some { arg := x, name := name } }).wait

/-- BWAIT (16 R311).  Once parked it waits on the name that its handle had, and one that an event has ended ends as the event
left the entry. -/
def execBwait (d a : BitVec 5) (sc : BitVec 3) (s : State) : Host.Outcome State Fault Refusal :=
  issue (.bwait d a sc) [.g a] [.g d] s fun s =>
    let x := s.readG a
    match s.slot.bwait with
    | some ⟨_, name, some e⟩ => s.bwaitEnd d (stallOf sc) name (x.toNat / 2 ^ 32) e
    | some ⟨_, name, none⟩ => s.atBar name fun s name e freed => s.bwaitAt d (stallOf sc) x name e freed
    | none => s.withBar x fun s name e freed => s.bwaitAt d (stallOf sc) x name e freed

/-- BTEST (16 R312). -/
def execBtest (d a : BitVec 5) (sc : BitVec 3) (s : State) : Host.Outcome State Fault Refusal :=
  issue (.btest d a sc) [.g a] [.g d] s fun s =>
    let p := (s.readG a).toNat / 2 ^ 32
    s.withBar (s.readG a) fun s _ e freed =>
      let s1 := if phaseDone e.phase p then s.acquire s.cur e.scope else s
      (s1.putG d (e.status freed p) 4 false).retire (stallOf sc)

end Sys2Proof.Machine
end

