-- ==== Sys2Proof/Machine/Branch.lean ====
section
/-!
DEFINITION. Branches, skips and jumps (02 R29, R33; 04 R86, R91, R92).
-/
namespace Sys2Proof.Machine

open Sys2Proof

/-- A compare and branch (04 R91): a taken branch costs two cycles. -/
def branchOp (i : Instr) (k : BCond) (a b : BitVec 5) (disp : BitVec 13) (s : State) : Host.Outcome State Fault Refusal :=
  issue i [.g a, .g b] [] s fun s =>
    if k.holds (s.readG a) (s.readG b) then s.retireAt (s.slot.pc + (disp.signExtend 64 <<< 2)) 0 2 else s.retire

/-- A skip of n words (04 R86). -/
def skipOp (i : Instr) (k : ZCond) (a : BitVec 5) (n : BitVec 3) (s : State) : Host.Outcome State Fault Refusal :=
  issue i [.g a] [] s fun s =>
    if k.holds (s.readG a) then s.retireAt (s.slot.pc + BitVec.ofNat 64 (4 * (n.toNat + 1))) else s.retire


/-- BEQ (04 R91). -/
def execBeq (a b : BitVec 5) (disp : BitVec 13) (s : State) : Host.Outcome State Fault Refusal :=
  branchOp (.beq a b disp) .eq a b disp s

/-- BNE (04 R91). -/
def execBne (a b : BitVec 5) (disp : BitVec 13) (s : State) : Host.Outcome State Fault Refusal :=
  branchOp (.bne a b disp) .ne a b disp s

/-- BLT (04 R91). -/
def execBlt (a b : BitVec 5) (disp : BitVec 13) (s : State) : Host.Outcome State Fault Refusal :=
  branchOp (.blt a b disp) .lt a b disp s

/-- BGE (04 R91). -/
def execBge (a b : BitVec 5) (disp : BitVec 13) (s : State) : Host.Outcome State Fault Refusal :=
  branchOp (.bge a b disp) .ge a b disp s

/-- BLTZ (04 R91). -/
def execBltz (a b : BitVec 5) (disp : BitVec 13) (s : State) : Host.Outcome State Fault Refusal :=
  branchOp (.bltz a b disp) .ltz a b disp s

/-- BGEZ (04 R91). -/
def execBgez (a b : BitVec 5) (disp : BitVec 13) (s : State) : Host.Outcome State Fault Refusal :=
  branchOp (.bgez a b disp) .gez a b disp s

/-- JAL (04 R92). -/
def execJal (d : BitVec 5) (disp : BitVec 21) (s : State) : Host.Outcome State Fault Refusal :=
  issue (.jal d disp) [] [.g d] s fun s =>
    (s.putG d (s.slot.pc + 4)).retireAt (s.slot.pc + (disp.signExtend 64 <<< 2)) 0 2

/-- JALR (04 R92): a misaligned target takes IMISALIGN, then a target with a descriptor takes DESCRIPTOR, and then nothing
is written. -/
def execJalr (d a : BitVec 5) (imm : BitVec 16) (s : State) : Host.Outcome State Fault Refusal :=
  issue (.jalr d a imm) [.g a] [.g d] s fun s =>
    let target := s.readG a + imm.signExtend 64
    if target.toNat % 4 ≠ 0 then s.trap Cause.imisalign target
    else if target.toNat / 2 ^ 48 ≠ 0 then s.trap Cause.descriptor target
    else (s.putG d (s.slot.pc + 4)).retireAt target 0 2

/-- SKIP.EQZ (04 R86). -/
def execSkipEqz (a : BitVec 5) (n : BitVec 3) (s : State) : Host.Outcome State Fault Refusal :=
  skipOp (.skipEqz a n) .eqz a n s

/-- SKIP.NEZ (04 R86). -/
def execSkipNez (a : BitVec 5) (n : BitVec 3) (s : State) : Host.Outcome State Fault Refusal :=
  skipOp (.skipNez a n) .nez a n s

/-- SKIP.LTZ (04 R86). -/
def execSkipLtz (a : BitVec 5) (n : BitVec 3) (s : State) : Host.Outcome State Fault Refusal :=
  skipOp (.skipLtz a n) .ltz a n s

/-- SKIP.GEZ (04 R86). -/
def execSkipGez (a : BitVec 5) (n : BitVec 3) (s : State) : Host.Outcome State Fault Refusal :=
  skipOp (.skipGez a n) .gez a n s

/-- SKIP.GTZ (04 R86). -/
def execSkipGtz (a : BitVec 5) (n : BitVec 3) (s : State) : Host.Outcome State Fault Refusal :=
  skipOp (.skipGtz a n) .gtz a n s

/-- SKIP.LEZ (04 R86). -/
def execSkipLez (a : BitVec 5) (n : BitVec 3) (s : State) : Host.Outcome State Fault Refusal :=
  skipOp (.skipLez a n) .lez a n s

end Sys2Proof.Machine
end

