-- ==== Sys2Proof/Machine/Monitors.lean ====
section
/-!
DEFINITION. Plumb monitors (18): the MON instructions, the check of a barrier phase, and the monitor registers.  Taps stand with the
writes that take them.

Readings of the manual and choices that this file codes: assumption log 43, 48, 70, 73, 74, 95.
-/
namespace Sys2Proof.Machine

open Sys2Proof

/-! ### Monitors and the map (18 R334) -/

/-- A monitor of a bent. -/
def State.monitor (s : State) (bent m : Nat) : Monitor := AMap.getD (s.bentAt bent).monitors m {}

/-- Replaces a monitor of a bent. -/
def State.setMonitor (s : State) (bent m : Nat) (x : Monitor) : State :=
  s.modBentAt bent fun b => { b with monitors := if x = {} then AMap.erase b.monitors m else AMap.set b.monitors m x }

/-- The map word that names a bent. -/
def monWord (bent : Nat) : Word := BitVec.ofNat 64 (2 ^ 63 + bent)

/-- The bent that a context's map names for a monitor. -/
def Ctx.monBent (c : Ctx) (m : Nat) : Option Nat :=
  let w := AMap.getD c.mmap m 0
  if w = 0 then none else some (w.toNat % 2 ^ 63)

/-- Whether a monitor is claimed by a kernel. -/
def Monitor.claimedBy (x : Monitor) (kern : Nat) : Bool := x.st ≠ .free && x.kern == kern

/-- Runs a body on the monitor that an index operand names; SPACE-PERMISSION for a bad index (6), an empty map entry (9), or a monitor that
the kernel no longer claims (8); its bent must be reachable. -/
def State.withMonitor (s : State) (x : Word) (body : State → Nat → Nat → Monitor → State) : State :=
  if x.toNat / 8 ≠ 0 then s.trap Cause.spacePermission x 6
  else
    match s.ctx.monBent (x.toNat % 8) with
    | none => s.trap Cause.spacePermission x 9
    | some bent =>
      match s.route (dieOf s.cur) (dieOfBent bent) with
      | .wait => s.wait
      | .error c => s.trap Cause.remoteError x (BitVec.ofNat 64 c)
      | .go =>
        let y := s.monitor bent (x.toNat % 8)
        if y.claimedBy s.kern then body s bent (x.toNat % 8) y else s.trap Cause.spacePermission x 8

/-! ### MONSET (18 R339) -/

/-- A monitor set from a block, unarmed. -/
def monitorOf (kern block : Nat) : Monitor :=
  let f (off n : Nat) := block / 2 ^ (8 * off) % 2 ^ (8 * n)
  { st := .set
    kern := kern
    win := BitVec.ofNat 64 (f 0 8)
    len := BitVec.ofNat 64 (f 8 8)
    stride := BitVec.ofNat 32 (f 0x10 4)
    foff := BitVec.ofNat 32 (f 0x14 4)
    fmt := BitVec.ofNat 8 (f 0x18 1)
    sign := BitVec.ofNat 8 (f 0x19 1) }

/-- Whether the fields of a monitor are within the limits of 18 table 18.2 for a context. -/
def Monitor.inRange (x : Monitor) (feature : Nat → Bool) (c : Ctx) : Bool :=
  let n := x.fieldSize
  let stride := x.stride.toNat
  let len := x.len.toNat
  descriptorOk feature x.win && decide (spaceOf x.win ≤ 3) && decide (x.fmt.toNat ≤ 2) && decide (x.sign.toNat ≤ 1) &&
    x.win.toNat % n == 0 && stride % n == 0 && decide (2 ≤ stride) && decide (stride ≤ 2 ^ 20) && decide (x.foff.toNat + n ≤ stride) &&
    len != 0 && decide (len ≤ 2 ^ 40) && len % stride == 0 &&
    (if spaceOf x.win = 0 then decide (offsetOf x.win + len ≤ 2 ^ 48) else decide (offsetOf x.win + len ≤ (c.window (spaceOf x.win)).size))

/-- MONSET (18 R339). -/
def execMonset (d a b : BitVec 5) (sc : BitVec 3) (s : State) : Host.Outcome State Fault Refusal :=
  issue (.monset d a b sc) [.g a, .g b] [.g d] s fun s =>
    let x := s.readG a
    let m := x.toNat % 8
    let bent := bentOf s.cur
    let answer (s : State) (code : Nat) := (s.putG d (if code = 0 then 0 else BitVec.ofNat 64 (2 ^ 63 + code)) 12 false).retire (stallOf sc)
    let mapped (s : State) := s.modCtx fun c => { c with mmap := AMap.set c.mmap m (monWord bent) }
    if x.toNat / 8 ≠ 0 then s.trap Cause.spacePermission x 6
    else if b = 0 then
      let y := s.monitor bent m
      if y.st = .free then answer s 3 else if y.kern ≠ s.kern then answer s 1 else answer (mapped s) 0
    else
      match s.readBlock (s.readG b) 64 64 true with
      | (s1, .trap c v t) => s1.trap c v t
      | (s1, .wait) => s1.wait
      | (s1, .ok block) =>
        let y := s1.monitor bent m
        let z := monitorOf s1.kern block
        if y.st ≠ .free ∧ y.kern ≠ s1.kern then answer s1 1
        else if y.st = .armed then answer s1 2
        else if block / 2 ^ (8 * 0x1A) ≠ 0 ∨ !z.inRange s1.hasFeature s1.ctx then answer s1 4
        else answer (mapped (s1.setMonitor bent m z)) 0

/-! ### MONARM (18 R340) -/

/-- The answer of registering a window: its physical ranges, a page that does not translate, or a page of another package. -/
inductive WindowPages where
  | ok (ranges : List WatchRange)
  | fault (va tinfo : Nat)
  | package
deriving DecidableEq, Repr

/-- Adds a piece of a window to its ranges; a piece that follows the last one in physical memory extends it. -/
def addRange (l : List WatchRange) (pa len woff : Nat) : List WatchRange :=
  match l with
  | [] => [⟨0, 0, pa, len, woff⟩]
  | r :: rest => if r.base + r.len = pa then { r with len := r.len + len } :: rest else ⟨0, 0, pa, len, woff⟩ :: l

/-- Translates the pages of a space-0 window, at most k, latest range first in the accumulator. -/
def State.windowPages (s : State) (va n woff : Nat) (acc : List WatchRange) : Nat → State × WindowPages
  | 0 => (s, .ok acc.reverse)
  | k + 1 =>
    if n = 0 then (s, .ok acc.reverse)
    else
      let m := Nat.min n (2 ^ 15 - va % 2 ^ 15)
      match s.engineXlat (bentOf s.cur) s.ctx.asid s.ctx.ptroot .load va with
      | (s1, .ok pa) => State.windowPages s1 (va + m) (n - m) (woff + m) (addRange acc pa m woff) k
      | (s1, .fault t) =>
        match s.walk (bentOf s.cur) s.ctx.asid s.ctx.ptroot va with
        | .leaf level pte _ _ =>
          if installed (leafPA level pte va) && leafPA level pte va / 2 ^ 40 % 256 != pkgOf s.cur && !s.hasFeature 9 then (s1, .package)
          else (s1, .fault va t)
        | .fault _ _ => (s1, .fault va t)

/-- The dies whose homes hold pages of a range: pages go to the four dies in turn (21 R369). -/
def WatchRange.dies (r : WatchRange) : List Nat :=
  if r.store ≠ 0 then []
  else (List.range 4).filterMap fun i =>
    let p := (r.base / 2 ^ 15 + i) * 2 ^ 15
    if p < r.base + r.len then some (homeOf p) else none

/-- Watched ranges that the homes of a die hold. -/
def State.watchedRanges (s : State) (die : Nat) : Nat :=
  s.bents.foldl (fun n b => b.2.monitors.foldl (fun n m =>
    if m.2.st = .armed then n + (m.2.ranges.filter fun r => r.dies.contains die).length else n) n) 0

/-- Whether the tables of every home have room for ranges. -/
def State.rangesFit (s : State) (l : List WatchRange) : Bool :=
  (l.flatMap WatchRange.dies).eraseDups.all fun d => decide (s.watchedRanges d + (l.filter fun r => r.dies.contains d).length ≤ 256)

/-- Gives the WATCH bit to the clean lines of watched pages that a bent L2 holds; a line held dirty keeps its bytes until they
reach the home (18 R336, R337; DEDUCED, assumption log 73). -/
def State.watchHeld (s : State) (bent : Nat) : State :=
  ((s.bentAt bent).l2.keys.filter fun l => s.watched (l / 128)).foldl (fun s l =>
    let s1 := (s.settleLine bent l 256).recallLine bent l
    match AMap.find? (s1.bentAt bent).l2 l with
    | some x => if x.dirty = 0 then s1.setL2 bent l { x with watch := true } else s1
    | none => s1) s

/-- Arms a monitor on a barrier with its ranges. -/
def State.arm (s : State) (bent m : Nat) (y : Monitor) (name : Word) (ranges : List WatchRange) : State :=
  let s1 := s.setMonitor bent m { y with st := .armed, acc := 0, nan := false, ovf := false, barrier := name, ranges := ranges }
  if ranges.any fun r => r.store = 0 then s1.bents.keys.foldl State.watchHeld s1 else s1

/-- MONARM (18 R340). -/
def execMonarm (a b : BitVec 5) (sc : BitVec 3) (s : State) : Host.Outcome State Fault Refusal :=
  issue (.monarm a b sc) [.g a, .g b] [] s fun s =>
    let x := s.readG a
    s.withMonitor x fun s bent m y => s.withHandle (s.readG b) false fun s name =>
      match s.route (dieOf s.cur) (dieOfBent (nameBent name)) with
      | .wait => s.wait
      | .error c => s.trap Cause.remoteError name (BitVec.ofNat 64 c)
      | .go =>
        let e := (s.bentAt (nameBent name)).barEntry (nameIndex name)
        if y.st ≠ .set ∨ e.mon / 2 ^ m % 2 = 0 ∨ !inScope (bent * 16) (nameBent name) e.scope then s.trap Cause.spacePermission x 8
        else if spaceOf y.win = 0 then
          match s.windowPages (offsetOf y.win) y.len.toNat 0 [] (y.len.toNat / 2 ^ 15 + 2) with
          | (s1, .fault va t) => s1.trap PageUse.load.cause (BitVec.ofNat 64 va) (BitVec.ofNat 64 t)
          | (s1, .package) => s1.trap Cause.spacePermission x 10
          | (s1, .ok ranges) =>
            if ranges.any fun r => r.dies.any fun d => s1.route (dieOf s1.cur) d ≠ .go then s1.wait
            else if !s1.rangesFit ranges then s1.trap Cause.queueOverflow x 7
            else (s1.arm bent m y name ranges).retire (stallOf sc)
        else
          let st := spaceOf y.win
          (s.arm bent m y name [⟨st, s.cur, (s.ctx.window st).base + offsetOf y.win, y.len.toNat, 0⟩]).retire (stallOf sc)

/-! ### MONREF, MONREAD, MONCLR -/

/-- MONREF (18 R341). -/
def execMonref (a b : BitVec 5) (sc : BitVec 3) (s : State) : Host.Outcome State Fault Refusal :=
  issue (.monref a b sc) [.g a, .g b] [] s fun s =>
    s.withMonitor (s.readG a) fun s bent m _ =>
      match s.readBlock (s.readG b) 80 16 true with
      | (s1, .trap c v t) => s1.trap c v t
      | (s1, .wait) => s1.wait
      | (s1, .ok v) =>
        let bound := toSigned 320 (v / 2 ^ 320)
        if bound < 0 then s1.trap Cause.spacePermission (s1.readG b) 6
        else (s1.setMonitor bent m { s1.monitor bent m with ref := toSigned 320 (v % 2 ^ 320), bound := bound }).retire (stallOf sc)

/-- MSTAT (18 table 18.4) of a monitor of a bent. -/
def Monitor.mstat (x : Monitor) (bent : Nat) : Word :=
  BitVec.ofNat 64 ((x.st = .armed : Bool).toNat * 2 ^ 63 + (x.st ≠ .free : Bool).toNat * 2 ^ 62 + x.nan.toNat * 2 ^ 61 + x.ovf.toNat * 2 ^ 60 +
    x.fail.toNat * 2 ^ 59 + bent % 128 * 2 ^ 40 + x.lastp.toNat)

/-- 64-bit word i of a number in two's complement. -/
def wordOf (x : Int) (i : Nat) : Word := BitVec.ofInt 64 (x / ((2 ^ (64 * i) : Nat) : Int))

/-- The word of a monitor that a selector names (18 table 18.3). -/
def Monitor.word (x : Monitor) (bent sel : Nat) : Word :=
  if sel < 5 then wordOf x.acc sel
  else if sel < 10 then wordOf x.last (sel - 5)
  else if sel = 10 then x.mstat bent
  else wordOf x.lref (sel - 11)

/-- MONREAD (18 R342). -/
def execMonread (d a b : BitVec 5) (sc : BitVec 3) (s : State) : Host.Outcome State Fault Refusal :=
  issue (.monread d a b sc) [.g a, .g b] [.g d] s fun s =>
    s.withMonitor (s.readG a) fun s bent _ x =>
      if 12 < (s.readG b).toNat then s.trap Cause.spacePermission (s.readG b) 6
      else (s.putG d (x.word bent (s.readG b).toNat) 12 false).retire (stallOf sc)

/-- MONCLR (18 R343): the registrations go with the monitor, and the map entry empties. -/
def execMonclr (a : BitVec 5) (sc : BitVec 3) (s : State) : Host.Outcome State Fault Refusal :=
  issue (.monclr a sc) [.g a] [] s fun s =>
    s.withMonitor (s.readG a) fun s bent m _ =>
      ((s.setMonitor bent m {}).modCtx fun c => { c with mmap := AMap.erase c.mmap m }).retire (stallOf sc)

/-! ### The check (18 R338) -/

/-- MONITOR_COLLECT (18 R338): a collect reaches an armed monitor, which gives its drift and flags to the check and zeroes them. -/
def execMonitorCollect (bent index : Nat) (s : State) : Host.Outcome State Fault Refusal :=
  let x := s.monitor bent index
  let home := nameBent x.barrier
  let i := nameIndex x.barrier
  let info := s.barInfo home i
  match info.check with
  | some c =>
    if x.st = .armed && c.waiting.contains (bent, index) && s.route (dieOfBent home) (dieOfBent bent) = .go then
      let c1 : PlumbCheck :=
        { waiting := c.waiting.filter (· != (bent, index))
          taken := c.taken ++ [(bent, index)]
          drift := c.drift + x.acc
          ref := c.ref + x.ref
          bound := c.bound + x.bound
          bad := c.bad || x.nan || x.ovf }
      .next ((s.setMonitor bent index { x with acc := 0, nan := false, ovf := false }).setBarInfo home i { info with check := some c1 })
    else .next s
  | none => .next s

/-- Whether the sums of a check fail it. -/
def PlumbCheck.fails (c : PlumbCheck) : Bool := c.bad || decide (c.bound < (c.drift - c.ref).natAbs)

/-- PLUMB_VERDICT (18 R338): with every monitor collected, or armed no longer, the home decides, tells the monitors and ends the phase. -/
def execPlumbVerdict (bent index : Nat) (s : State) : Host.Outcome State Fault Refusal :=
  let info := s.barInfo bent index
  let name := barName bent index
  match info.check with
  | some c =>
    let armed (p : Nat × Nat) := (s.monitor p.1 p.2).st = .armed && (s.monitor p.1 p.2).barrier = name
    if c.waiting.any armed then .next s
    else
      let e := (s.bentAt bent).barEntry index
      let s1 := c.taken.foldl (fun s p =>
        if armed p then s.setMonitor p.1 p.2
          { s.monitor p.1 p.2 with last := wrap320 c.drift, lref := wrap320 c.ref, fail := c.fails, lastp := BitVec.ofNat 32 e.phase }
        else s) s
      .next ((s1.setBarInfo bent index { info with check := none }).barAdvance bent index e c.fails)
  | none => .next s

/-! ### Monitor registers (18 R344) -/

/-- What CSR 0x300 + 8m + k reads as. -/
def State.monCsrRead (s : State) (core kern csr : Nat) : Word :=
  let m := csr % 64 / 8
  match (s.ctxOf core kern).monBent m with
  | some bent =>
    let x := s.monitor bent m
    match csr % 8 with
    | 0 => x.mstat bent
    | 1 => x.win
    | 2 => x.len
    | 3 => BitVec.ofNat 64 (x.stride.toNat * 2 ^ 32 + x.foff.toNat)
    | 4 => BitVec.ofNat 64 (x.fmt.toNat + 2 ^ 8 * x.sign.toNat)
    | _ => 0
  | none => 0

/-- A monitor with one register replaced. -/
def Monitor.withCsr (x : Monitor) (k : Nat) (v : Word) : Monitor :=
  match k with
  | 1 => { x with win := v }
  | 2 => { x with len := v }
  | 3 => { x with stride := (v >>> 32).setWidth 32, foff := v.setWidth 32 }
  | 4 => { x with fmt := v.setWidth 8, sign := (v >>> 8).setWidth 8 }
  | _ => x

/-- A supervisor's write to CSR 0x300 + 8m + k: a field of a Set monitor, where the outcome passes the checks of MONSET. -/
def State.monCsrWrite (s : State) (core kern csr : Nat) (v : Word) : State :=
  let m := csr % 64 / 8
  match (s.ctxOf core kern).monBent m with
  | some bent =>
    let x := s.monitor bent m
    let y := x.withCsr (csr % 8) v
    if x.st = .set && y.inRange (s.accepted core) (s.ctxOf core kern) then s.setMonitor bent m y else s
  | none => s

/-- MONITOR_CSR_WRITE (18 R344). -/
def execMonitorCsrWrite (core kern : Nat) (csr : BitVec 12) (value : BitVec 64) (s : State) : Host.Outcome State Fault Refusal :=
  .next (if 0x300 ≤ csr.toNat ∧ csr.toNat < 0x340 then s.monCsrWrite core kern csr.toNat value else s)

end Sys2Proof.Machine
end

