-- ==== Sys2Proof/Machine/Fences.lean ====
section
/-!
DEFINITION. Fences, queue fences and cache operations (07 R160 to R167).

Readings of the manual and choices that this file codes: assumption log 27, 28, 35, 36, 93.
-/
namespace Sys2Proof.Machine

open Sys2Proof

/-! ### FENCE -/

/-- The FENCE status word (07 table 7.3) of a posted-error record with n lost writes, the first on a link. -/
def fenceStatus (scope : Nat) (p : PostedError) (n : Nat) (link : BitVec 8) : Word :=
  if scope < 3 then 0
  else
    let perr := decide (4 ≤ scope) && p.count != 0
    let lfail := n != 0
    BitVec.ofNat 64 ((if perr then 1 else 0) + (if lfail then 2 else 0) + link.toNat * 2 ^ 16 + (if perr then p.cause.toNat else 0) * 2 ^ 24 +
      Nat.min n 0xFFFF * 2 ^ 32 + (if perr || lfail then 2 ^ 63 else 0))

/-- What a fence leaves of the posted-error record (07 R161). -/
def PostedError.reported (p : PostedError) (scope : Nat) : PostedError :=
  if scope < 3 then p else if scope = 3 then { p with lost := 0, link := 0 } else {}

/-- The end of a fence: its acquire, the status word, the record cleared, and FENCE-LINK where a link failed (07 R160 to
R162).  FENCE.full.core discards the words fetched ahead (02 R49). -/
def State.fenceEnd (s : State) (kind scope : Nat) (d : BitVec 5) (lost : List Nat) : State :=
  let s1 := if kind = 1 then s else s.acquire s.cur scope
  let p := s1.slot.perr
  let n := p.lost + lost.length
  let link : BitVec 8 := if p.lost ≠ 0 then p.link else
    match lost.head? with
    | some l => BitVec.ofNat 8 (s1.failedLink (dieOf s1.cur) (homeOf (l * 256)))
    | none => 0
  let status := fenceStatus scope p n link
  let s2 := ((s1.modSlot fun sl =>
    { sl with perr := sl.perr.reported scope, ahead := if kind = 2 && scope = 0 then none else sl.ahead }).putG d status 2 false).retire
  if s2.core.fencetrap && status.getLsbD 1 then s2.asyncTrap s2.cur s2.core.curSlot.val 0x14 status 0 else s2

/-- A fence of a kind: 0 acquire, 1 release, 2 full (07 R160). -/
def fenceOp (i : Instr) (kind : Nat) (d : BitVec 5) (c : BitVec 3) (s : State) : Host.Outcome State Fault Refusal :=
  issue i [] [.g d] s fun s =>
    if kind = 0 then s.fenceEnd kind c.toNat d []
    else
      let lost := if 3 ≤ c.toNat then s.lostLines s.cur else []
      s.released c.toNat fun s => s.fenceEnd kind c.toNat d lost

/-- FENCE.acq (07 R160). -/
def execFenceAcq (d : BitVec 5) (c : BitVec 3) (s : State) : Host.Outcome State Fault Refusal := fenceOp (.fenceAcq d c) 0 d c s

/-- FENCE.rel (07 R160). -/
def execFenceRel (d : BitVec 5) (c : BitVec 3) (s : State) : Host.Outcome State Fault Refusal := fenceOp (.fenceRel d c) 1 d c s

/-- FENCE.full (07 R160). -/
def execFenceFull (d : BitVec 5) (c : BitVec 3) (s : State) : Host.Outcome State Fault Refusal := fenceOp (.fenceFull d c) 2 d c s

/-! ### QFENCE -/

/-- Whether a transfer still stands in its queue or on its channel. -/
def Transfer.open (t : Transfer) : Bool :=
  match t.st with
  | .complete | .aborted => false
  | _ => true

/-- The numbers of the commands of a core's engine queues that have not completed, with the slots that issued them:
truss operations, copies, sends (07 R167), by the bit of their queue in a QFENCE set.  A receive is on the list when its RPOST retires. -/
def Core.commands (c : Core) (bit : Nat) : List (Nat × Nat) :=
  if bit = 0 then c.truss.map fun t => (t.uid, if t.chained then 8 else
    ((List.range 8).find? fun n => (c.slotAt n).ctx.getD 65536 = t.kern && (c.slotAt n).num.toNat = t.slot).getD 8)
  else if bit = 1 then
    (c.copyq.flatMap fun q => q.2.map fun t => (t.2.uid, t.2.slot)) ++
      (c.ctxs.flatMap fun x => x.2.chans.filterMap fun ch => (ch.2.cur.filter Transfer.open).map fun t => (t.uid, t.slot)) ++
      c.ending.map fun e => e.2
  else if bit = 2 then
    ((List.range 8).flatMap fun n => (c.slotAt n).sends.map fun b => (b.uid, n)) ++
      (c.inject.filter fun p => !p.injected).map fun p => (p.send.uid, p.slot)
  else []

/-- The numbers of all commands that have not completed. -/
def Core.openCommands (c : Core) : List Nat := (List.range 4).flatMap fun b => (c.commands b).map Prod.fst

/-- Whether none of the commands that a QFENCE puts before another is open. -/
def Core.mayBegin (c : Core) (after : List Nat) : Bool := !after.any c.openCommands.contains

/-- The commands that a new command of the current slot to a queue must follow. -/
def State.fencedFor (s : State) (bit : Nat) : List Nat := (AMap.getD s.slot.fenced bit []).filter s.core.openCommands.contains

/-- Takes the number of a new engine command. -/
def State.takeUid (s : State) : State := s.modCore fun c => { c with nextCmd := c.nextCmd + 1 }

/-- QFENCE (07 R167). -/
def execQfence (q : BitVec 4) (s : State) : Host.Outcome State Fault Refusal :=
  issue (.qfence q) [] [] s fun s =>
    let kinds := (List.range 4).filter fun b => q.getLsbD b
    let prior := kinds.flatMap fun b => ((s.core.commands b).filter fun p => p.2 == s.core.curSlot.val).map Prod.fst
    (s.modSlot fun sl => { sl with fenced := kinds.foldl (fun f b => AMap.set f b ((AMap.getD f b []).filter s.core.openCommands.contains ++ prior)) sl.fenced }).retire

/-! ### Cache operations -/

/-- Takes a line out of the L1I of the current core. -/
def State.dropFetched (s : State) (line : Nat) : State := s.modCore fun c => { c with l1i := AMap.erase c.l1i line }

/-- CINV on a line at a scope (07 R165): the L1D and L1I of the core; at die scope or wider the bent L2 too, with the copies of its L1s,
but for a line of a subscribed page. -/
def State.invalidateLine (s : State) (line scope : Nat) : State :=
  let bent := bentOf s.cur
  let s1 := s.dropFetched line
  if scope < 3 then s1.dropFrom bent s1.cur line
  else if s1.subscribed bent (line / 128) then (s1.cleanLine bent line)
  else s1.dropLine bent line

/-- CCLEAN on a line at a scope (07 R165): the dirty sectors of the core's L1D go to the bent L2; at die scope or wider the dirty bytes of
the bent go to the home.  Every copy stays valid. -/
def State.cleanCopies (s : State) (line scope : Nat) : State :=
  let bent := bentOf s.cur
  if scope < 3 then s.cleanFrom bent s.cur line
  else ((coresOfBent bent).foldl (fun s k => s.cleanFrom bent k line) s).writeBack bent line

/-- A cache operation (07 R165): the line is maintained in the step of the instruction, once it is settled in the bent; an
address of spaces 1 to 6 does nothing. -/
def cacheOp (i : Instr) (a : BitVec 5) (c : BitVec 3) (use : PageUse) (act : State → Nat → State) (s : State) : Host.Outcome State Fault Refusal :=
  issue i [.g a] [] s fun s =>
    let addr := s.readG a
    if 1 ≤ spaceOf addr ∧ spaceOf addr ≤ 6 then s.retire
    else
      match s.checkAccess use 1 addr with
      | (s1, .trap c v t) => s1.trap c v t
      | (s1, .wait) => s1.wait
      | (s1, .ok (.mem pa _)) =>
        if !s1.lineFree pa || (decide (3 ≤ c.toNat) && s1.homeRoute (bentOf s1.cur) pa = .wait) then s1.wait
        else (act s1 (pa / 256)).retire
      | (s1, .ok _) => s1.retire

/-- CCLEAN (07 R165). -/
def execCclean (a : BitVec 5) (c : BitVec 3) (s : State) : Host.Outcome State Fault Refusal :=
  cacheOp (.cclean a c) a c .load (fun s line => s.cleanCopies line c.toNat) s

/-- CINV (07 R165). -/
def execCinv (a : BitVec 5) (c : BitVec 3) (s : State) : Host.Outcome State Fault Refusal :=
  cacheOp (.cinv a c) a c .store (fun s line => s.invalidateLine line c.toNat) s

/-- CFLUSH (07 R165): cleaning precedes the invalidation, which cleans as it goes. -/
def execCflush (a : BitVec 5) (c : BitVec 3) (s : State) : Host.Outcome State Fault Refusal :=
  cacheOp (.cflush a c) a c .store (fun s line => s.invalidateLine line c.toNat) s

end Sys2Proof.Machine
end

