-- ==== Sys2Proof/Machine/Sides.lean ====
section
/-!
DEFINITION. The sides of a transfer: the reads and writes of copy engines and receive engines in every space that 06 table 6.3 gives
them, the rows of a copy, and its watermark (15 R290, R291).

Readings of the manual and choices that this file codes: assumption log 17, 25, 77, 79.
-/
namespace Sys2Proof.Machine

open Sys2Proof

/-! ### Reads and writes -/

/-- Why a piece of a transfer cannot land: a translation fault with its address and TINFO, a fault code of 15 table 15.8 with the
address concerned, or a wait. -/
inductive SideStop where
  | fault (addr : Word) (tinfo : Nat)
  | error (code : Nat) (addr : Word)
  | wait
deriving DecidableEq, Repr

/-- Bytes that the host returns: its memory is outside the device, so they are free values. -/
def hostBytes (fresh n : Nat) : Nat :=
  packLanes 512 ((List.range ((n + 63) / 64)).map fun i => (Config.freeValue (fresh + i)).toNat) % 2 ^ (8 * n)

/-- Whether n bytes at a host address lie outside the host window (06 R140). -/
def State.outsideHost (s : State) (core o n : Nat) : Bool :=
  let p := s.pkgAt (pkgOf core)
  decide (o < p.hwbase.toNat) || decide (p.hwbase.toNat + p.hwsize.toNat < o + n)

/-- Physical base of a kernel's window of a store on a core; 0 above task mode. -/
def State.sideBase (s : State) (core kern : Nat) (sup : Bool) (code : Nat) : Nat := if sup then 0 else ((s.ctxOf core kern).window code).base

/-- The bytes of a translated range of space 0 that an engine of a core reads at an address (06 R147). -/
def space0Read (core : Nat) (a : Word) (r : State × EngineRange) : State × Except SideStop Nat :=
  let o := offsetOf a
  match r with
  | (s1, .fault va t) => (s1, .error (.fault (movePtr a ((va : Int) - o)) t))
  | (s1, .error va _) => (s1, .error (.error 2 (movePtr a ((va : Int) - o))))
  | (s1, .wait) => (s1, .error .wait)
  | (s1, .ok ps) =>
    match s1.engineReadPieces (bentOf core) ps with
    | (s2, some v) => (s2, .ok v)
    | (s2, none) => (s2, .error (.error 7 a))

/-- n bytes at an address as an engine reads them for a kernel on a core (06 R137, R147, table 6.3). -/
def State.sideRead (s : State) (core kern : Nat) (sup : Bool) (a : Word) (n : Nat) : State × Except SideStop Nat :=
  let o := offsetOf a
  let store (c code off : Nat) : State × Except SideStop Nat :=
    if (s.coreAt c).storePoisoned code off n then (s, .error (.error (if code = 3 then 8 else 7) a)) else (s, .ok (s.storeRead c code off n))
  if spaceOf a = 0 then
    space0Read core a (s.engineRange (bentOf core) (s.kernelSpace (pkgOf core) kern core) .load o n (n / 2 ^ 15 + 2))
  else if spaceOf a ≤ 3 then store core (spaceOf a) (s.sideBase core kern sup (spaceOf a) + o)
  else if spaceOf a = 4 then
    match s.route (dieOf core) (dieOf (remoteCore a)) with
    | .wait => (s, .error .wait)
    | .error _ => (s, .error (.error 2 a))
    | .go =>
      if !s.targetOk (remoteCore a) (some kern) sup then (s, .error (.error 4 a))
      else store (remoteCore a) (remoteStore a) (s.sideBase (remoteCore a) kern sup (remoteStore a) + o % 2 ^ 27)
  else if s.outsideHost core o n then (s, .error (.error 2 a))
  else ({ s with fresh := s.fresh + (n + 63) / 64 }, .ok (hostBytes s.fresh n))

/-- Writes n bytes at an address as an engine does for a kernel on a core: at the home in space 0, at the port of a local store. -/
def State.sideWrite (s : State) (core kern : Nat) (sup : Bool) (a : Word) (n v : Nat) : State × Option SideStop :=
  let o := offsetOf a
  if spaceOf a = 0 then
    match s.engineRange (bentOf core) (s.kernelSpace (pkgOf core) kern core) .store o n (n / 2 ^ 15 + 2) with
    | (s1, .fault va t) => (s1, some (.fault (movePtr a ((va : Int) - o)) t))
    | (s1, .error va _) => (s1, some (.error 2 (movePtr a ((va : Int) - o))))
    | (s1, .wait) => (s1, some .wait)
    | (s1, .ok ps) => (s1.engineWritePieces (bentOf core) ps v, none)
  else if spaceOf a ≤ 3 then (s.storeWrite core (spaceOf a) (s.sideBase core kern sup (spaceOf a) + o) n v (fullMask n), none)
  else if spaceOf a = 4 then
    match s.route (dieOf core) (dieOf (remoteCore a)) with
    | .wait => (s, some .wait)
    | .error _ => (s, some (.error 2 a))
    | .go =>
      if !s.targetOk (remoteCore a) (some kern) sup then (s, some (.error 4 a))
      else (s.storeWrite (remoteCore a) (remoteStore a) (s.sideBase (remoteCore a) kern sup (remoteStore a) + o % 2 ^ 27) n v (fullMask n), none)
  else if s.outsideHost core o n then (s, some (.error 2 a))
  else
    (s.modPkgAt (pkgOf core) fun p => { p with hostWrites := (BitVec.ofNat 64 o, (List.range n).map fun i => BitVec.ofNat 8 (v / 2 ^ (8 * i))) :: p.hostWrites },
     none)

/-! ### The rows of a transfer (15 R290) -/

/-- Bytes of the first k blocks of n elements in an XE8 stream of total bytes; a malformed block takes the rest. -/
def xe8Prefix (n total stream : Nat) : Nat → Nat
  | 0 => 0
  | k + 1 =>
    match xe8Block n stream with
    | some b => if total ≤ b.2 then total else b.2 + xe8Prefix n (total - b.2) (stream / 2 ^ (8 * b.2)) k
    | none => total

/-- Row r of an XE8 copy (15 R287, 03 R68): its bytes lie between two entries of the row-offset table.  Of a row clipped in dimension 0
the blocks in bounds move. -/
def State.xe8Row (s : State) (core kern : Nat) (t : Transfer) (r : Nat) : State × Except SideStop CopyRow :=
  let y := t.orig 1 + r
  if y < 0 ∨ (t.shape.ext 1 : Int) ≤ y ∨ t.outside then (s, .ok ⟨t.dst, t.src, 0, 0, 0, 0, 0⟩)
  else
    let table := movePtr (BitVec.ofNat 64 t.shape.aux) (4 * y)
    match s.sideRead core kern t.sup table 8 with
    | (s1, .error e) => (s1, .error e)
    | (s1, .ok v) =>
      let e0 := v % 2 ^ 32
      let e1 := v / 2 ^ 32
      if e1 < e0 ∨ t.shape.ext 1 * t.shape.str 1 < e1 then (s1, .error (.error 5 table))
      else
        let shaped := movePtr t.shape.base e0
        let flat := movePtr (if t.kind = 1 then t.dst else t.src) (r * t.pitch1 : Nat)
        let row (s : State) (a b bytes : Nat) : State × Except SideStop CopyRow :=
          let p := movePtr shaped (a : Int)
          let u := movePtr flat (b : Int)
          (s, .ok (if t.kind = 1 then ⟨u, p, bytes, 0, bytes, 0, 0⟩ else ⟨p, u, bytes, 0, bytes, 0, 0⟩))
        if t.orig 0 = 0 then row s1 0 0 (e1 - e0)
        else
          let n := 2 ^ (t.shape.blog + 3)
          let k := (t.orig 0).natAbs / n
          let total := e1 - e0
          match s1.sideRead core kern t.sup shaped total with
          | (s2, .error e) => (s2, .error e)
          | (s2, .ok x) =>
            match (if t.kind = 1 then (s2, .ok x) else s2.sideRead core kern t.sup flat total) with
            | (s3, .error e) => (s3, .error e)
            | (s3, .ok z) =>
              let a := if 0 < t.orig 0 then xe8Prefix n total x k else 0
              let b := if t.kind = 1 ∨ 0 < t.orig 0 then 0 else xe8Prefix n total z k
              let moved := if t.kind = 1 then x / 2 ^ (8 * a) else z / 2 ^ (8 * b)
              row s3 a b (Nat.min (total - a) (xe8Prefix n (total - a) moved (t.cols / n - k)))

/-- Row r of a copy. -/
def State.copyRow (s : State) (core kern : Nat) (t : Transfer) (r : Nat) : State × Except SideStop CopyRow :=
  if t.xe8 then s.xe8Row core kern t r else (s, .ok (t.row core r))

/-- The row and the byte within it of destination byte n, from row r on; the number of rows where the rows end before it. -/
def State.findByte (s : State) (core kern : Nat) (t : Transfer) (r n : Nat) : Nat → State × Except SideStop (Nat × Nat)
  | 0 => (s, .ok (r, n))
  | k + 1 =>
    match s.xe8Row core kern t r with
    | (s1, .error e) => (s1, .error e)
    | (s1, .ok row) => if n < row.bytes then (s1, .ok (r, n)) else State.findByte s1 core kern t (r + 1) (n - row.bytes) k

/-- The row and the byte within it of destination byte n. -/
def State.copyAt (s : State) (core kern : Nat) (t : Transfer) (n : Nat) : State × Except SideStop (Nat × Nat) :=
  if t.xe8 then s.findByte core kern t 0 n t.rows else (s, .ok (Nat.min t.rows (n / t.rowBytes), n % t.rowBytes))

/-- The watermark when the first n destination bytes are covered (15 R291): the address of the first byte that is not, clipped bytes of a shaped
destination left out.  Behind the elements the scales follow, for a shaped destination in AUX (15 R295). -/
def State.watermark (s : State) (core kern : Nat) (t : Transfer) (n : Nat) : Nat :=
  let m := t.nextByte n
  if t.dealt then t.lo + n
  else if !t.xe8 && t.elemBytes ≤ m then
    if t.auxScales ≠ 0 then (offsetOf (BitVec.ofNat 64 t.shape.aux) + Nat.min t.auxScales (m - t.elemBytes)) % 2 ^ 48
    else if t.elemBytes + t.scaleBytes ≤ m then t.hi
    else t.clamp (offsetOf (t.scaleAt (m - t.elemBytes)))
  else
    match s.copyAt core kern t m with
    | (s1, .ok (r, o)) =>
      if t.rows ≤ r then t.hi
      else
        match s1.copyRow core kern t r with
        | (_, .ok row) => t.clamp (offsetOf row.dst + o)
        | (_, .error _) => t.lo
    | (_, .error _) => t.lo

/-- The first number from lo on, below hi, that p selects, for p that stays true; hi where none does. -/
def firstTrue (p : Nat → Bool) (lo hi : Nat) : Nat → Nat
  | 0 => hi
  | k + 1 => if hi ≤ lo then hi else
    let m := (lo + hi) / 2
    if p m then firstTrue p lo m k else firstTrue p (m + 1) hi k

/-- Whether a watermark lies in the AUX array of a shaped destination and not in its elements (assumption log 135). -/
def Transfer.wmInAux (t : Transfer) (wm : Nat) : Bool :=
  let a := offsetOf (BitVec.ofNat 64 t.shape.aux)
  t.auxScales != 0 && decide (a ≤ wm) && decide (wm ≤ a + t.auxScales) && !(decide (t.lo ≤ wm) && decide (wm < t.hi))

/-- Destination bytes below a watermark (15 R299, R300), with the clipped ones that come before the byte at it. -/
def State.bytesBelow (s : State) (core kern : Nat) (t : Transfer) (wm : Nat) : Nat :=
  if t.wmInAux wm then t.elemBytes + (wm - offsetOf (BitVec.ofNat 64 t.shape.aux))
  else
    let total := if t.xe8 then t.shape.ext 1 * t.shape.str 1 else if t.auxScales ≠ 0 then t.elemBytes else t.elemBytes + t.scaleBytes
    t.nextByte (firstTrue (fun n => decide (wm ≤ s.watermark core kern t n)) 0 total 64)

/-- Whether n destination bytes are all of a copy. -/
def State.copyWhole (s : State) (core kern : Nat) (t : Transfer) (n : Nat) : Bool :=
  if t.xe8 then
    (match s.copyAt core kern t n with
     | (_, .ok p) => decide (t.rows ≤ p.1)
     | (_, .error _) => false)
  else decide (t.elemBytes + t.scaleBytes ≤ n)

end Sys2Proof.Machine
end

