-- ==== Sys2Proof/Machine/Sends.lean ====
section
/-!
DEFINITION. The injection queue of a core (17 R318, R320, R321, R328): the sends of a task that ends, the source of an eager block, and the
completion of a send at its sender.

Readings of the manual and choices that this file codes: assumption log 84, 133.
-/
namespace Sys2Proof.Machine

open Sys2Proof

/-! ### Packets -/

/-- Word i of a descriptor image. -/
def descWord (image i : Nat) : Nat := image / 2 ^ (64 * i) % 2 ^ 64

/-- The die key of the receive engine that a destination word names. -/
def destDie (w : Word) : Nat := w.toNat / 2 ^ 32 % 256 * 4 + w.toNat / 2 ^ 51 % 4

/-- KIND of a packet's destination. -/
def Packet.kind (p : Packet) : Nat := p.send.dest.toNat / 2 ^ 62

/-- The rank that a packet's destination names. -/
def Packet.rankTo (p : Packet) : Nat := p.send.dest.toNat / 2 ^ 40 % 2 ^ 11

/-- The target of a packet: a rank, or an engine. -/
def Packet.target (p : Packet) : Nat × Nat := if p.kind = 2 then (2 ^ 32, destDie p.send.dest) else (p.kern, p.rankTo)

/-- Bytes of a packet's payload. -/
def Packet.len (p : Packet) : Nat := if p.send.block then descWord p.send.payload.toNat 1 else p.send.dest.toNat / 2 ^ 56 % 64 + 1

/-- Whether a packet is a block whose payload travels with it (17 R328). -/
def Packet.eager (p : Packet) : Bool := p.send.block && decide (p.len ≤ 16384)

/-- ACT of a packet's send block; 0 for a SENDI. -/
def Packet.act (p : Packet) : Nat := if p.send.block then descWord p.send.payload.toNat 2 else 0

/-- The bytes of a number, lowest first. -/
def bytesOf (v n : Nat) : List (BitVec 8) := (List.range n).map fun i => BitVec.ofNat 8 (v / 2 ^ (8 * i))

/-- The number of a list of bytes. -/
def ofBytes (l : List (BitVec 8)) : Nat := packLanes 8 (l.map BitVec.toNat)

/-- Removes a packet of a core. -/
def State.dropPacket (s : State) (core i : Nat) : State := s.modCoreAt core fun c => { c with inject := c.inject.eraseIdx i }

/-- Replaces a packet of a core. -/
def State.setPacket (s : State) (core i : Nat) (p : Packet) : State := s.modCoreAt core fun c => { c with inject := c.inject.set i p }

/-- Drops a packet that an error reply answers; the error goes to the sending context. -/
def State.failPacket (s : State) (core i : Nat) (p : Packet) : State :=
  (s.dropPacket core i).modCoreAt core fun c => { c with sendErrors := c.sendErrors ++ [(p.kern, p.rank, Cause.remoteError, p.send.dest)] }

/-! ### The sender's completion (17 R328, R329) -/

/-- Delivers the completion events of a send of len bytes by a rank of a kernel, whose context is on a core: bytes counted, the sequence increment,
and the mailbox entry with a status.  A failed send has the entry only. -/
def State.sendDone (s : State) (core kern rank act : Nat) (bar : Word) (id : BitVec 32) (len status : Nat) : State :=
  let entry := BitVec.ofNat 512 (6 * 2 ^ 56 + status * 2 ^ 48 + id.toNat)
  if status = 3 then s.deliverAll ((doneEvents (pkgOf core) kern rank act entry).drop (act / 2 ^ 62 % 2))
  else s.barCount bar kern len core (doneEvents (pkgOf core) kern rank act entry)

/-- The end of a block whose source cannot be read or whose engine cannot be reached before it has been read: STATUS 3. -/
def State.sendFailed (s : State) (core i : Nat) (p : Packet) : State :=
  (s.failPacket core i p).sendDone core p.kern p.rank p.act p.send.bar p.send.sendId 0 3

/-! ### Faults in reading a source (17 R331) -/

/-- Records a translation fault of a message for the context of a kernel on a core; none while the supervisor queue is full or its lines are
not settled. -/
def State.recordMessageFault (s : State) (sender : Bool) (core kern : Nat) (id : BitVec 32) (addr : Word) (done : Nat) : Option (State × MsgFault) :=
  if !s.recordReady core kern then none
  else
    let tail := s.recordTail core kern
    (s.appendRecord core kern [2, id.setWidth 64, addr, BitVec.ofNat 64 done, 1, 0, 0, 0]).map fun s1 => (s1, ⟨sender, core, kern, tail, addr⟩)

/-- Whether a recorded fault still awaits the supervisor. -/
def State.faultOpen (s : State) (f : Option MsgFault) : Bool :=
  match f with
  | some x => s.hasCtx x.core x.kern && s.recordOutstanding x.core x.kern x.index
  | none => false

/-- Whether a stop repeats the recorded fault, which the supervisor then could not service. -/
def SideStop.repeats (e : SideStop) (f : Option MsgFault) : Bool :=
  match e, f with
  | .fault a _, some x => x.addr = a
  | _, _ => false

/-- The core that holds the context of a packet's sender; none while the context is saved or restored. -/
def State.senderCore (s : State) (core : Nat) (p : Packet) : Option Nat :=
  let home := (s.rankCore (pkgOf core) p.kern p.rank).getD core
  if (s.ctxOf home p.kern).takesMail then some home else none

/-! ### Injection -/

/-- The position of the first packet among those of a core's injection queue that has not been injected. -/
def Core.firstHeld (c : Core) : Option (Nat × Packet) :=
  (List.range (Nat.min 128 c.inject.length)).findSome? fun i => (c.inject[i]?).bind fun p => if p.injected then none else some (i, p)

/-- Injects packet number i of a core (17 R318, R320): its rank is resolved to a core, and the source of an eager block is read, which completes
the send (R328).  None while it has to wait: for its engine's link, its sender's context, the lines of its source, or the service of a fault. -/
def State.injectPacket (s : State) (core i : Nat) (p : Packet) : Option State :=
  if p.kind ≠ 2 then some (s.setPacket core i { p with injected := true, toCore := s.rankCore (pkgOf core) p.kern p.rankTo })
  else if !p.eager then some (s.setPacket core i { p with injected := true, bytes := if p.send.block then [] else bytesOf p.send.payload.toNat p.len })
  else
    match s.route (dieOf core) (destDie p.send.dest), s.senderCore core p with
    | .wait, _ => none
    | _, none => none
    | .error _, _ => some (s.sendFailed core i p)
    | .go, some home =>
      if s.faultOpen p.fault then none
      else
        match s.sideRead home p.kern p.send.sup (BitVec.ofNat 64 (descWord p.send.payload.toNat 0)) p.len with
        | (s1, .ok x) =>
          some ((s1.setPacket core i { p with injected := true, fault := none, bytes := bytesOf x p.len }).sendDone home p.kern p.rank p.act p.send.bar
            p.send.sendId p.len 0)
        | (_, .error .wait) => none
        | (s1, .error (.error _ _)) => some (s1.sendFailed core i p)
        | (s1, .error (.fault a t)) =>
          if (SideStop.fault a t).repeats p.fault then some (s1.sendFailed core i p)
          else (s.recordMessageFault true home p.kern p.send.sendId a 0).map fun r => r.1.setPacket core i { p with fault := some r.2 }

/-- Whether a packet may be injected: the commands that a QFENCE puts before it have completed, and the release that its injection is has too
(07 R166, R167). -/
def State.mayInject (s : State) (core : Nat) (p : Packet) : Bool :=
  (s.coreAt core).mayBegin p.send.after && (p.slot = 8 || s.releaseReady core p.slot 0)

/-- Injects the sends of a core's queue in order, at most k, as far as they may be injected. -/
def State.injectNext (s : State) (core : Nat) : Nat → State
  | 0 => s
  | k + 1 =>
    match (s.coreAt core).firstHeld with
    | some (i, p) =>
      if !s.mayInject core p then s
      else
        match s.injectPacket core i p with
        | some s1 => State.injectNext s1 core k
        | none => s
    | none => s

/-- Injects what a core's queue can inject now. -/
def State.injectAll (s : State) (core : Nat) : State := s.injectNext core ((s.coreAt core).inject.length + 1)

/-! ### The sends of a task (17 R321) -/

/-- The buffered sends of a slot that its task injects: none of those of a handler that a trap has aborted (17 R321, R324). -/
def Slot.injected (sl : Slot) : List BufferedSend :=
  match sl.handler with
  | some h => if h.aborted then [] else sl.sends
  | none => sl.sends

/-- Whether the injection queue of a core has room for the buffered sends of a slot, and every send of its task can be released (07 R166). -/
def State.injectRoom (s : State) (core slot : Nat) : Bool :=
  let n := (s.slotOf core slot).injected.length
  decide ((s.coreAt core).inject.length + n ≤ 128) &&
    ((n = 0 && !(s.coreAt core).inject.any fun p => p.slot = slot && !p.injected) || s.releaseReady core slot 0)

/-- Puts the buffered sends of a slot in the injection queue in issue order, and injects what can be injected now. -/
def State.injectSends (s : State) (core slot : Nat) : State :=
  let sl := s.slotOf core slot
  match sl.ctx with
  | some k =>
    let x := s.ctxOf core k
    (((s.modSlotOf core slot fun sl => { sl with sends := [] }).modCoreAt core fun c => { c with inject := c.inject ++ sl.injected.map fun b =>
      { kern := k, rank := x.rank.toNat, asid := x.asid, slot := slot, send := b } })).injectAll core
  | none => s.modSlotOf core slot fun sl => { sl with sends := [] }

end Sys2Proof.Machine
end

