-- ==== Sys2Proof/Machine/Tasks.lean ====
section
/-!
DEFINITION. Tasks: how a task starts and ends (19 R346, R358, R359), the batches of queues (13 R250), and the kernel's count of tasks
(09 R200).

Readings of the manual and choices that this file codes: assumption log 61, 96, 101.
-/
namespace Sys2Proof.Machine

open Sys2Proof

/-! ### Queue batches (13 R250) -/

/-- SCOPE of an open queue. -/
def OpenQueue.scope (q : OpenQueue) : Nat := q.cfg.toNat / 2 ^ 59 % 8
/-- KIND of an open queue. -/
def OpenQueue.kind (q : OpenQueue) : Nat := q.cfg.toNat / 2 ^ 62
/-- Bytes of a record of an open queue. -/
def OpenQueue.size (q : OpenQueue) : Nat := q.cfg.toNat % 256 * 16
/-- Slots or buffers of an open queue. -/
def OpenQueue.slots (q : OpenQueue) : Nat := 2 ^ (q.cfg.toNat / 2 ^ 16 % 16)

/-- Batches of an open queue that have not ended. -/
def OpenQueue.outstanding (q : OpenQueue) : Nat := (q.batches.filter fun b => b.st ≠ .ended).length

/-- DONECNT advances over the ended batches: those that no open batch precedes, and for a bin set every ended one (13 R250, R252). -/
def OpenQueue.advance (q : OpenQueue) : OpenQueue :=
  let ended := if q.kind = 1 then q.batches.filter fun b => b.st = .ended else q.batches.takeWhile fun b => b.st = .ended
  { q with
    donecnt := q.donecnt + ended.foldl (fun n b => n + b.count) 0
    batches := if q.kind = 1 then q.batches.filter fun b => b.st ≠ .ended else q.batches.dropWhile fun b => b.st = .ended }

/-- BATCH of an open queue. -/
def OpenQueue.batch (q : OpenQueue) : Nat := q.cfg.toNat / 2 ^ 24 % 32
/-- TMO of an open queue in cycles. -/
def OpenQueue.timeout (q : OpenQueue) : Nat := q.cfg.toNat / 2 ^ 32 % 2 ^ 16 * 64

/-- Records in the next batch of a queue, or 0 where none can be cut (13 R250): BATCH of them, the run up to the ring's end, or at
an examination all of a run whose oldest record has waited TMO. -/
def OpenQueue.nextBatch (q : OpenQueue) (exam : Option Nat) : Nat :=
  let n := q.arrivals.length
  let toEnd := q.slots - q.cut % q.slots
  if q.kind = 1 ∨ n = 0 ∨ 64 ≤ q.outstanding then 0
  else if Nat.min q.batch toEnd ≤ n then Nat.min q.batch toEnd
  else
    match exam with
    | some now => if q.arrivals.headD 0 + q.timeout ≤ now then n else 0
    | none => 0

/-- Cuts the batches that can be cut, at most k. -/
def OpenQueue.cutBatches (q : OpenQueue) (exam : Option Nat) : Nat → OpenQueue
  | 0 => q
  | k + 1 =>
    let n := q.nextBatch exam
    if n = 0 then q
    else OpenQueue.cutBatches { q with
      cut := q.cut + n
      arrivals := q.arrivals.drop n
      batches := q.batches ++ [{ first := q.cut, count := n }] } exam k

/-- Writes an 8-byte field of the descriptor of an open queue, through the tables of its kernel. -/
def State.descWrite (s : State) (bent : Nat) (q : OpenQueue) (off v : Nat) : State :=
  let sp := s.kernelSpace (pkgOfBent bent) q.kern q.core
  match s.engineXlat bent sp.1 sp.2 .store (q.desc.toNat % 2 ^ 48 + off) with
  | (s1, .ok pa) => s1.engineWrite bent pa 8 (v % 2 ^ 64)
  | (s1, .fault _) => s1

/-- The open queue whose batch a slot runs. -/
def State.batchQueue (s : State) (core slot : Nat) : Option (Nat × Nat × OpenQueue) :=
  match (s.slotOf core slot).batch with
  | some (bent, e) =>
    match AMap.find? (s.bentAt bent).queues e with
    | some q => if (s.slotOf core slot).ctx = some q.kern then some (bent, e, q) else none
    | none => none
  | none => none

/-- Whether a saved queue stood at an entry of a bent. -/
def savedAt (place : Nat × Nat) (q : Nat × Nat × OpenQueue) : Bool := q.1 == place.1 && q.2.1 == place.2

/-- The saved queue whose batch a slot runs (13 R259). -/
def State.savedQueue (s : State) (core slot : Nat) : Option OpenQueue :=
  match (s.slotOf core slot).batch, (s.slotOf core slot).ctx with
  | some place, some k => s.cores.findSome? fun c =>
      if pkgOf c.1 = pkgOf core then ((c.2.ctxAt k).kept.queues.find? (savedAt place)).map fun (q : Nat × Nat × OpenQueue) => q.2.2 else none
  | _, _ => none

/-- An open queue whose batch in the task of a rank and SEQ has ended. -/
def OpenQueue.ended (q : OpenQueue) (rank seq : Nat) : OpenQueue :=
  { q with batches := q.batches.map fun (b : Batch) => if b.st = .running rank seq then { b with st := .ended } else b }

/-- The rank of the context of a slot. -/
def State.rankOf (s : State) (core slot : Nat) : Nat := (s.ctxOf core ((s.slotOf core slot).ctx.getD 65536)).rank.toNat

/-- Ends the batch of a slot in a saved queue. -/
def State.endSaved (s : State) (core slot : Nat) : State :=
  match (s.slotOf core slot).batch, (s.slotOf core slot).ctx with
  | some place, some k =>
    { s with cores := AMap.mapKeyed s.cores fun n c =>
        if pkgOf n = pkgOf core && AMap.has c.ctxs k then
          c.modCtxAt k fun x => { x with kept :=
            { x.kept with queues := x.kept.queues.map fun q => if savedAt place q then (q.1, q.2.1, q.2.2.ended (s.rankOf core slot) (s.slotOf core slot).seq.toNat) else q } }
        else c }
  | _, _ => s

/-- The end of the batch of a slot: a release at SCOPE, then its slots become free behind every earlier batch. -/
def State.endBatch (s : State) (core slot : Nat) : State :=
  match s.batchQueue core slot with
  | some (bent, e, q) =>
    let q1 := ((q.ended (s.rankOf core slot) (s.slotOf core slot).seq.toNat).advance).cutBatches none 64
    let s1 := (s.release core q.scope).modBentAt bent fun b => { b with queues := AMap.set b.queues e q1 }
    if q1.donecnt = q.donecnt then s1 else s1.descWrite bent q1 0x20 q1.donecnt
  | none =>
    match s.savedQueue core slot with
    | some q => (s.release core q.scope).endSaved core slot
    | none => s

/-! ### The kernel's count of tasks (09 R200) -/

/-- Records of an open queue that no task has been started for. -/
def OpenQueue.waiting (q : OpenQueue) : Nat := q.arrivals.length + (q.batches.filter fun b => b.st = .cut).length

/-- Tasks and undispatched work that a context holds beside its save area. -/
def SavedParts.tasks (p : SavedParts) : Nat :=
  (p.slots.filter fun sl => sl.2.run = .stopped).length + p.queues.foldl (fun n q => n + q.2.2.waiting) 0 + p.bins.length + p.waits.length

/-- Tasks of a kernel on one core: those in slots, a stolen continuation on its way, and those in a saved context. -/
def Core.tasks (c : Core) (kern : Nat) : Nat :=
  (c.slots.toList.filter fun sl => sl.ctx = some kern && sl.run ≠ .free).length +
    (if c.steal.phase.carries = some kern then 1 else 0) + (c.ctxAt kern).kept.tasks

/-- Records of a kernel that wait in one bent, which count as tasks (13 R248, R257). -/
def Bent.tasks (b : Bent) (kern : Nat) : Nat :=
  (b.queues.foldl (fun n q => if q.2.kern = kern then n + q.2.waiting else n) 0) +
    (b.bins.filter fun x => x.2.kern = kern).length + (b.waits.filter fun w => w.kern = kern).length

/-- Tasks of a kernel of a package. -/
def State.kernelTasks (s : State) (pkg kern : Nat) : Nat :=
  (s.cores.foldl (fun n c => if pkgOf c.1 = pkg then n + c.2.tasks kern else n) 0) +
    s.bents.foldl (fun n b => if pkgOfBent b.1 = pkg then n + b.2.tasks kern else n) 0

/-- A context whose kernel drains before it was saved is not saved: its engines go on to the end of their commands (09 R200, table 9.7). -/
def Core.unsave (c : Core) (kern : Nat) : Core :=
  let x := c.ctxAt kern
  if x.state = .draining || x.state = .saving then
    { c.modCtxAt kern (fun x => { x with state := .ready, budget := { x.budget with pend := false } }) with
      truss := c.truss.map fun t => if t.kern = kern then { t with stopped := false } else t }
  else c

/-- A kernel without a task leaves Running or Pre-empting for Draining, and its queues close (09 table 9.6, 13 R248). -/
def State.kernelCheck (s : State) (pkg kern : Nat) : State :=
  match s.kernelAt pkg kern with
  | some k =>
    if (k.state = .running || k.state = .preempting) && k.rooted && s.kernelTasks pkg kern = 0 then
      (k.cores.foldl (fun s c => s.modCoreAt c fun x => x.unsave kern) (s.closeQueues pkg kern k.asid k.ptroot)).modKernel pkg kern
        fun k => { k with state := .draining }
    else s
  | none => s

/-! ### Task start -/

/-- What a task starts with; every other register is zero. -/
structure NewTask where
  kind : BitVec 3
  origin : BitVec 48 := 0
  pc : Word
  regs : List (BitVec 5 × Word) := []
  v0 : Vec := 0
  handler : Option HandlerTask := none
  batch : Option (Nat × Nat) := none
  wakeOf : Option Nat := none
deriving DecidableEq, Repr

/-- The check of a control transfer to an address that a register or memory supplies (02 R33, 11 R220): the cause of the
trap, if any. -/
def targetCause (pc : Word) : Option (BitVec 8) :=
  if pc.toNat % 4 ≠ 0 then some Cause.imisalign else if pc.toNat / 2 ^ 48 ≠ 0 then some Cause.descriptor else none

/-- What stays of a slot when its task ends: its place in the context, its CX sets and its last truss command (15 R285, 14
R273). -/
def Slot.emptied (sl : Slot) : Slot :=
  { ctx := sl.ctx, num := sl.num, cx := sl.cx, trussLast := sl.trussLast, trussLost := sl.trussLost }

/-- Starts a task in a slot of a context, in task mode at depth 0 with the next SEQ (19 R349, R350).  An entry that fails
its check traps at once, TEPC holding it (02 R33). -/
def State.startTask (s : State) (core slot kern : Nat) (t : NewTask) : State :=
  let seq := (s.ctxOf core kern).taskCtr + 1
  let s1 := (s.modCtxOf core kern fun c => { c with taskCtr := seq }).modSlotOf core slot fun sl =>
    t.regs.foldl (fun sl r => sl.setG r.1 r.2 false)
      { sl.emptied with
        kind := t.kind, origin := t.origin, pc := t.pc, run := .ready, nextIssue := s.cycle + 1, seq := seq
        v := (Vector.replicate 24 0).set 0 t.v0, handler := t.handler, batch := t.batch, wakeOf := t.wakeOf }
  let s2 := (s1.settle core slot).modCoreAt core fun c => { c with steal := { c.steal with blocked := 0 } }
  match targetCause t.pc with
  | some cause => s2.takeTrapAt core slot cause t.pc 0 t.pc false
  | none => s2

/-- Whether a force-stopped task of a context has still to issue after a restore; no new task starts before (19 R362). -/
def Core.stoppedFirst (c : Core) (kern : Nat) : Bool := c.slots.toList.any fun sl => sl.ctx = some kern && sl.run ≠ .stopped && sl.stop ≠ 0

/-- The free slot of a context for a new task, the one with the lowest number, by physical number. -/
def Core.freeSlot (c : Core) (kern : Nat) : Option Nat :=
  if c.stoppedFirst kern then none
  else ((List.range 8).map (BitVec.ofNat 3)).findSome? fun k =>
    (List.range 8).find? fun n => (c.slotAt n).ctx = some kern && (c.slotAt n).run = .free && (c.slotAt n).num = k

/-- Whether a context may start new tasks (19 table 19.2). -/
def Ctx.starts (c : Ctx) : Bool := c.state = .ready || c.state = .running || c.state = .parked

/-! ### Task end -/

/-- Whether the end of a slot's task can take place now: its sends fit in the injection queue, the release of its batch can
complete, and the lines of the fault record are settled. -/
def State.endReady (s : State) (core slot : Nat) : Bool :=
  s.injectRoom core slot &&
    (match (s.batchQueue core slot).map (fun q => q.2.2) <|> s.savedQueue core slot with
     | some q => s.releaseReady core slot q.scope
     | none => true) &&
    (match (s.slotOf core slot).ctx with
     | some k => s.errorsReady core k (s.slotOf core slot).perr.count
     | none => true)

/-- Clears SARM of a context when the task of the recorded slot ends (19 R355). -/
def Ctx.disarm (c : Ctx) (num : BitVec 3) : Ctx :=
  if c.budget.sarm && c.budget.slot = num then { c with budget := { c.budget with sarm := false } } else c

/-- The end of a slot's task (19 R359): results land, sends are injected, posted errors move to the fault record, where those of its
accesses still under way go too (04 R94), the slot is cleared, the deque of an owner is emptied (11 R216), the batch ends, the request to pre-empt is examined and the slot becomes free,
or goes on to a continuation (11 R230). -/
def State.endTask (s : State) (core slot : Nat) (next : Run := .free) : State :=
  let sl := s.slotOf core slot
  let name := match sl.ctx with
    | some k => endedSlot k
    | none => noSlot
  let s2 := ((((s.landSlot core slot).injectSends core slot).moveErrors core slot).endBatch core slot).renameSlot core slot name
  let s3 := s2.modCoreAt core fun c => if c.deque.owner = some slot then { c with deque := { c.deque with top := 0, bot := 0, owner := none } } else c
  match sl.ctx with
  | some k =>
    (((s3.modCtxOf core k fun c => c.disarm sl.num).modSlotOf core slot fun sl => { sl.emptied with run := if sl.ctx.isSome then next else .free }).settle core slot).kernelCheck
      (pkgOf core) k
  | none => s3.modSlotOf core slot fun sl => { sl.emptied with run := next }

/-- Ends the task of the current slot, which retires its last instruction, or waits until the end can take place. -/
def State.finishTask (s : State) (next : Run := .free) : State :=
  if s.endReady s.cur s.core.curSlot.val then
    (s.modCore fun c => c.count 0x0 1).endTask s.cur s.core.curSlot.val next
  else s.wait

/-! ### Pre-emption requests (19 R355, table 19.2) -/

/-- A request to pre-empt reaches a context: the budget restarts from LIMIT and the context drains; held in Loading and
Restoring. -/
def State.requestPreempt (s : State) (core kern : Nat) : State :=
  let start := s.cycleOf core
  ((s.modCtxOf core kern fun c =>
    if c.state = .loading || c.state = .restoring then { c with latePreempt := true }
    else if c.starts then
      { c with
        state := .draining
        latePreempt := false
        budget := { c.budget with pend := true, sarm := false, remain := c.budget.limit, start := start } }
    else c).modCoreAt core fun c =>
      { c with slots := c.slots.map fun sl => if sl.ctx = some kern && sl.run ≠ .free then { sl with evt := true } else sl }).modCoreAt core
        fun c => (c.settleCtx kern).countParked s.cycle

/-- Ticks of the budget clock that have counted since a start: every 1,024 cycles, from 1,024 cycles after the start on. -/
def budgetTicks (start now : Nat) : Nat := now / 1024 - (start + 1023) / 1024

/-- REMAIN as it stands at a cycle. -/
def Budget.left (b : Budget) (now : Nat) : BitVec 24 :=
  if b.sarm || (b.pend && b.remain ≠ 0) then BitVec.ofNat 24 (b.remain.toNat - budgetTicks b.start now) else b.remain

/-- Whether the count has reached zero at a cycle. -/
def Budget.expired (b : Budget) (now : Nat) : Bool :=
  if b.remain = 0 then b.sarm && decide (b.start / 1024 < now / 1024) else (b.sarm || b.pend) && decide (b.remain.toNat ≤ budgetTicks b.start now)

end Sys2Proof.Machine
end

