-- ==== Sys2Proof/Machine/Copies.lean ====
section
/-!
DEFINITION. Copies (15 R283 to R301): the shadow registers, shape records, launching, the progress of a channel, waiting and aborting.

Readings of the manual and choices that this file codes: assumption log 67, 75, 76, 77, 78, 79, 80, 81, 82, 83.
-/
namespace Sys2Proof.Machine

open Sys2Proof

/-! ### Shadow registers and shape records -/

/-- CPUT (15 R285). -/
def execCput (q : BitVec 3) (a x : BitVec 5) (s : State) : Host.Outcome State Fault Refusal :=
  issue (.cput q a x) [.g a] [] s fun s =>
    (s.modSlot fun sl => { sl with cx := AMap.set sl.cx (q.toNat * 16 + x.toNat) (s.readG a) }).retire

/-- CGET (15 R285). -/
def execCget (q : BitVec 3) (x d : BitVec 5) (s : State) : Host.Outcome State Fault Refusal :=
  issue (.cget q x d) [] [.g d] s fun s => (s.putG d (AMap.getD s.slot.cx (q.toNat * 16 + x.toNat) 0) 2 false).retire

/-- The first field of an image or base that SHAPE.MK refuses with DESCRIPTOR, by its offset (15 R287). -/
def shapeDescriptor (feature : Nat → Bool) (r : ShapeRec) : Option Nat :=
  (List.find? (fun (p : Bool × Nat) => p.1)
    [(r.ndim = 0 || decide (5 < r.ndim), 0),
     (!formatOk feature r.fmt r.blog, 1),
     (decide (4 < spaceOf r.base) || (formatOf r.base != 0 && formatOf r.base != r.fmt), 0x40)]).map Prod.snd

/-- The first field that SHAPE.MK refuses with SHAPE-MISALIGN, by its offset (15 R287). -/
def shapeMisaligned (r : ShapeRec) : Option Nat :=
  let n := r.ndim
  let es := formatBits r.fmt
  let unit := formatBytes r.fmt
  let gran := if es = 4 then 2 else if es = 6 then 4 else 1
  let blk := if 16 ≤ r.fmt then 2 ^ (r.blog + 3) else 1
  let dims := List.range 5
  (List.find? (fun (p : Bool × Nat) => p.1)
    (dims.map (fun d => (if d < n then r.box d == 0 else r.box d != 0, 2 + 2 * d)) ++
     dims.map (fun d => (if d < n then r.ext d == 0 || (decide (2 ≤ d) && decide (32767 < r.ext d)) else r.ext d != 0, 0xC + 4 * d)) ++
     [1, 2, 3, 4].map (fun d => (decide (n ≤ d) && r.str d != 0, 0x20 + 6 * (d - 1))) ++
     [(decide (r.fmt < 16) && r.aux != 0, 0x38),
      (decide (2 ≤ n) && (r.str 1 % unit != 0 || decide (r.str 1 * 8 < r.ext 0 * es)), 0x20)] ++
     [2, 3, 4].map (fun d => (decide (d < n) && decide (r.str d < r.str (d - 1) * r.ext (d - 1)), 0x20 + 6 * (d - 1))) ++
     [(r.ext 0 % gran != 0, 0xC), (r.box 0 % gran != 0, 2), (r.ext 0 % blk != 0, 0xC), (r.box 0 % blk != 0, 2),
      (decide (16 ≤ r.fmt) && r.aux = 0, 0x38), (r.fmt = 22 && n != 2, 0), (r.fmt = 22 && r.box 0 != r.ext 0, 2),
      (offsetOf r.base % unit != 0, 0x40)])).map Prod.snd

/-- SHAPE.MK (15 R287). -/
def execShapeMk (r : BitVec 3) (a b : BitVec 5) (sc : BitVec 3) (s : State) : Host.Outcome State Fault Refusal :=
  issue (.shapeMk r a b sc) [.g a, .g b] [] s fun s =>
    let ga := s.readG a
    match s.readBlock ga 64 64 true with
    | (s1, .trap c v t) => s1.trap c v t
    | (s1, .wait) => s1.wait
    | (s1, .ok v) =>
      let x : ShapeRec := { image := BitVec.ofNat 512 v, base := s.readG b }
      match shapeDescriptor s.hasFeature x, shapeMisaligned x with
      | some o, _ => s1.trap Cause.descriptor ga (BitVec.ofNat 64 o)
      | none, some o => s1.trap Cause.shapeMisalign ga (BitVec.ofNat 64 o)
      | none, none => (s1.modCtx fun c => { c with shapes := AMap.set c.shapes r.toNat x }).retire (stallOf sc)

/-- SHAPE.GET (15 R288). -/
def execShapeGet (d : BitVec 5) (r : BitVec 3) (n : BitVec 5) (sc : BitVec 3) (s : State) : Host.Outcome State Fault Refusal :=
  issue (.shapeGet d r n sc) [] [.g d] s fun s =>
    let x := AMap.getD s.ctx.shapes r.toNat {}
    (s.putG d (if n.toNat < 8 then BitVec.ofNat 64 (x.field (8 * n.toNat) 8) else x.base) 2 false).retire (stallOf sc)

/-! ### The checks of CLAUNCH (15 table 15.3) -/

/-- Whether a BAR register has a reserved bit set. -/
def barReserved (x : Nat) : Bool := x / 2 ^ 60 % 2 != 0 || x / 2 ^ 35 % 2 ^ 21 != 0

/-- Whether a BAR register names an unmapped barrier or a refused counter (code 0x0C). -/
def State.barRefused (s : State) (x : Nat) : Bool :=
  (x / 2 ^ 63 == 1 && AMap.getD s.ctx.bmap (x / 2 ^ 56 % 16) 0 == 0) ||
    (x / 2 ^ 62 % 2 == 1 && s.seqRefused (pkgOf s.cur) s.kern (BitVec.ofNat 64 (x % 2 ^ 35)))

/-- The barrier name of a BAR register as resolved at launch (16 R314); 0 without BEN. -/
def State.barResolved (s : State) (x : Nat) : Word := if x / 2 ^ 63 = 1 then AMap.getD s.ctx.bmap (x / 2 ^ 56 % 16) 0 else 0

/-- Whether a space is refused to the engines (06 table 6.3, code 0x04; a store of another package without feature 9 is refused
beside it, 09 table 9.2). -/
def spaceRefused (sup : Bool) (a : Word) : Bool := spaceOf a = 5 || spaceOf a = 7 || (spaceOf a = 6 && !sup)

/-- Whether a range of offsets of a pointer's space passes the window of a store (code 0x05). -/
def Ctx.pastWindow (c : Ctx) (sup : Bool) (a : Word) (r : Nat × Nat) : Bool :=
  let limit (code : Nat) := if sup then 0x20000 else (c.window code).size
  if 1 ≤ spaceOf a ∧ spaceOf a ≤ 3 then decide (limit (spaceOf a) < r.2) && decide (r.1 < r.2)
  else if spaceOf a = 4 then
    remoteStore a = 0 || (decide (limit (remoteStore a) < r.1 % 2 ^ 27 + (r.2 - r.1)) && decide (r.1 < r.2))
  else false

/-- Code 0x01: reserved bits and codes. -/
def Transfer.reservedBits (t : Transfer) : Bool :=
  let shape := t.reg 2
  let stride (i : Nat) : Bool := if t.kind = 0 then t.reg i != 0 else if i = t.kind + 2 then t.reg i / 2 ^ 48 != 0 else false
  let opts := t.reg 5
  t.kind = 3 || shape / 2 ^ 33 % 2 ^ 29 != 0 || (t.kind = 0 && t.len = 0) || (t.kind != 0 && shape % 2 ^ 33 / 8 != 0) || stride 3 || stride 4 ||
    opts / 2 ^ 58 != 0 || opts / 2 ^ 51 % 2 != 0 || opts / 2 ^ 48 % 4 != 0 || opts % 2 ^ 44 != 0 || decide (3 < t.rnd) || (!t.quant && t.rnd != 0) ||
    barReserved (t.reg 6) || t.reg 7 / 2 ^ 48 % 2 ^ 15 != 0 || t.reg 7 / 2 ^ 10 % 2 ^ 8 != 0 || t.reg 8 / 2 ^ 42 % 2 ^ 20 != 0

/-- The side array that a copy reads or writes through AUX, with its bytes. -/
def Transfer.side (t : Transfer) : Option (Word × Nat) :=
  let a := BitVec.ofNat 64 t.shape.aux
  if t.xe8 then some (a, 4 * (t.shape.ext 1 + 1)) else if t.quant && t.kind = 2 then some (a, t.scaleBytes) else none

/-- The pointers through which a copy accesses memory, which R69 checks: those of its sides, among them the base of a record, and AUX. -/
def Transfer.pointers (t : Transfer) : List Word := [t.src, t.dst] ++ (t.side.map Prod.fst).toList

/-- Code 0x06: formats that differ; the formats of a quantizing copy are code 0x08's. -/
def Transfer.formatsDiffer (t : Transfer) : Bool :=
  let f := t.named false
  let g := t.named true
  !(f.1 = 0 || g.1 = 0 || (f.1 = g.1 && (f.1 != 22 || f.2 = g.2)) || t.quant)

/-- Code 0x07: misalignment. -/
def Transfer.misaligned (t : Transfer) : Bool :=
  let ptr (dst : Bool) : Bool := t.kind != (if dst then 2 else 1) && offsetOf (if dst then t.dst else t.src) % formatBytes (t.format dst) != 0
  let pitch : Bool := t.kind != 0 &&
    (let unit := formatBytes (t.format (t.kind = 1)); t.reg (5 - t.kind) % 2 ^ 32 % unit != 0 || t.reg (5 - t.kind) / 2 ^ 32 % unit != 0)
  let origin : Bool := t.kind != 0 &&
    (let f := t.shape.fmt
     if 16 ≤ f then t.orig 0 % (2 ^ (t.shape.blog + 3) : Nat) != 0 else t.orig 0 * (formatBits f : Nat) % 8 != 0)
  ptr false || ptr true || pitch || origin || (t.kind = 0 && t.len * 8 % formatBits (t.format false) != 0)

/-- Code 0x08: quantize. -/
def Transfer.quantBad (t : Transfer) : Bool :=
  t.quant && (!(t.format false = 6 || t.format false = 7) || decide (t.format true < 16) || decide (21 < t.format true) || t.cols % 32 != 0)

/-- Code 0x09: distributor. -/
def Transfer.dealBad (t : Transfer) : Bool :=
  let x := t.reg 7
  let c := x / 2 ^ 40 % 256
  let st := x / 2 ^ 29 % 2 ^ 11
  let b := x % 2 ^ 10
  t.dealt && (c = 0 || st = 0 || b = 0 || decide (512 < b) || t.kind != 0 || spaceOf t.dst = 0 || decide (3 < spaceOf t.dst) || t.len % (64 * b) != 0 ||
    decide (2048 ≤ x / 2 ^ 18 % 2 ^ 11 + (c - 1) * st) || t.chained)

/-- Code 0x0A: chain. -/
def Transfer.chainBad (feature : Nat → Bool) (t : Transfer) : Bool :=
  let side (x : Nat) : Bool := x / 2 ^ 19 % 4 = 0 || x / 2 ^ 19 % 4 = 3 || !formatOk feature (x / 2 ^ 14 % 32) (x / 2 ^ 11 % 8)
  t.chained && (side (t.reg 8 / 2 ^ 21) || side (t.reg 8) || spaceOf t.dst = 0 || decide (4 < spaceOf t.dst))

/-- The range that code 0x05 checks of a side: of a dealt copy the last block of a target. -/
def Transfer.checked (t : Transfer) (dst : Bool) : Nat × Nat :=
  if dst && t.dealt then
    let o := offsetOf t.dst
    (o, o + (t.rows - 1) / Nat.max 1 (t.reg 7 / 2 ^ 40 % 256) * t.block + Nat.min t.block t.len)
  else t.range dst

/-- The channel that OPTS names. -/
def Transfer.channel (t : Transfer) : Nat := t.reg 5 / 2 ^ 52 % 64

/-- The error code of a launch to queue q (15 table 15.3), checks in the order of the table; fields whose feature is not accepted
carry the codes of 09 table 9.2. -/
def State.launchError (s : State) (q : Nat) (t : Transfer) : Option Nat :=
  let c := s.ctx
  let past (dst : Bool) := c.pastWindow t.sup (if dst then t.dst else t.src) (t.checked dst)
  let sidePast := match t.side with
    | some p => c.pastWindow t.sup p.1 (offsetOf p.1, offsetOf p.1 + p.2)
    | none => false
  let refused (a : Word) := spaceRefused t.sup a || s.foreignStore a
  let sideSpace := match t.side with
    | some p => refused p.1
    | none => false
  (List.find? (fun (p : Bool × Nat) => p.1)
    [(t.reservedBits || (t.quant && t.rnd = 2 && !s.hasFeature 4), 0x01),
     (decide (c.chan ≤ t.channel) || t.channel % 8 != q, 0x02),
     (t.kind != 0 && t.shape.ndim = 0, 0x12),
     (t.pointers.any fun a => !descriptorOk s.hasFeature a, 0x03),
     (refused t.src || refused t.dst || sideSpace, 0x04),
     (past false || past true || sidePast, 0x05),
     (t.formatsDiffer, 0x06),
     (t.misaligned, 0x07),
     (t.quantBad || (t.quant && !s.hasFeature 2), 0x08),
     (t.dealBad, 0x09),
     (t.chainBad s.hasFeature || (t.chained && !s.hasFeature 1), 0x0A),
     (t.resumed && (!t.sup || (!t.wmInAux (AMap.getD c.chans t.channel {}).wm.toNat &&
        (decide ((AMap.getD c.chans t.channel {}).wm.toNat < t.lo) || decide (t.hi < (AMap.getD c.chans t.channel {}).wm.toNat)))), 0x0B),
     (s.barRefused (t.reg 6), 0x0C),
     (decide (2 ^ 32 < t.len) || (t.kind != 0 && decide (2 ^ 32 < t.rows * t.cols * formatBits t.shape.fmt / 8)), 0x0D)]).map Prod.snd

/-! ### CLAUNCH -/

/-- The successor of a sequence number (15 R289, 14 R264). -/
def nextSeq (x : BitVec 32) : BitVec 32 := if x = BitVec.allOnes 32 then 1 else x + 1

/-- A transfer id (15 table 15.4). -/
def xferId (chan : Nat) (seq : BitVec 32) : Word := BitVec.ofNat 64 (chan % 8 * 2 ^ 45 + chan * 2 ^ 39 + seq.toNat)

/-- The id of a transfer. -/
def Transfer.id (t : Transfer) : Word := xferId t.chan t.seq

/-- Replaces a channel of a context. -/
def State.modChan (s : State) (core kern chan : Nat) (f : Channel → Channel) : State :=
  s.modCtxOf core kern fun c => { c with chans := AMap.set c.chans chan (f (AMap.getD c.chans chan {})) }

/-- The channel of a context. -/
def State.chanOf (s : State) (core kern chan : Nat) : Channel := AMap.getD (s.ctxOf core kern).chans chan {}

/-- The transfer that a CX set of the current slot describes. -/
def State.draft (s : State) (q : Nat) : Transfer :=
  let cx := (List.range 9).map fun i => (i, AMap.getD s.slot.cx (q * 16 + i) 0)
  let t : Transfer := { slot := s.core.curSlot.val, chan := 0, seq := 0, sup := s.slot.mode ≠ .task, cx := cx, shape := {} }
  let x := { t with chan := t.channel, shape := if t.kind = 1 ∨ t.kind = 2 then AMap.getD s.ctx.shapes (t.reg 2 % 8) {} else {} }
  { x with lo := (x.range true).1, hi := (x.range true).2 }

/-- The reference of a saved copy goes when the copy is launched again under its id (16 R302, 15 R300). -/
def State.dropSavedRef (s : State) (id : Word) : State :=
  match s.ctx.copyRefs.find? fun r => r.1 = id with
  | some r => (s.modCtx fun c => { c with copyRefs := c.copyRefs.erase r }).barRef r.2 false
  | none => s

/-- A launch that passed its checks: sequence numbers are taken, the barrier reference counted and the command queued (15 R289, R294,
16 R314). -/
def State.launchCopy (s : State) (q : Nat) (t : Transfer) : State :=
  let ch := AMap.getD s.ctx.chans t.chan {}
  let seq := nextSeq ch.seq
  let chain := nextSeq s.ctx.trussSeq
  let x : Transfer :=
    { t with
      seq := seq, bar := s.barResolved (t.reg 6), chainSeq := if t.chained then chain else 0, uid := s.core.nextCmd, after := s.fencedFor 1 }
  let s1 := (s.modCtx fun c =>
    { c with
      chans := AMap.set c.chans t.chan { ch with seq := seq, wrapped := ch.wrapped || ch.seq = BitVec.allOnes 32 }
      trussSeq := if t.chained then chain else c.trussSeq }).takeUid
  let s2 := if t.chained then s1.modSlot fun sl => { sl with trussLast := chain } else s1
  let s3 := (s2.barRef x.bar true).dropSavedRef x.id
  s3.modCore fun c => { c with copyq := AMap.set c.copyq q (AMap.getD c.copyq q [] ++ [(s.kern, x)]) }

/-- CLAUNCH (15 R289). -/
def execClaunch (q : BitVec 3) (d : BitVec 5) (s : State) : Host.Outcome State Fault Refusal :=
  issue (.claunch q d) [] [.g d] s fun s =>
    let t := s.draft q.toNat
    match s.launchError q.toNat t with
    | some code => (s.putG d (BitVec.ofNat 64 (2 ^ 63 + code)) 2 false).retire
    | none =>
      if 16 ≤ (AMap.getD s.core.copyq q.toNat []).length then s.wait
      else s.released 1 fun s =>
        ((s.launchCopy q.toNat t).putG d (xferId t.chan (nextSeq (AMap.getD s.ctx.chans t.chan {}).seq)) 2 false).retire

/-! ### Waiting and aborting -/

/-- The status word of a transfer (15 table 15.7). -/
def Transfer.status (t : Transfer) : Word :=
  let state := match t.st with
    | .complete => 0
    | .held => 2
    | .aborted => 3
    | .queued | .running | .faulted => 1
  BitVec.ofNat 64 (state * 2 ^ 62 + t.clip.toNat * 2 ^ 60 + (if t.st = .held then t.code.toNat * 2 ^ 40 else 0) + t.covered % 2 ^ 40)

/-- What a transfer id names (15 R297). -/
inductive XferName where
  | none
  | old
  | named (t : Transfer)
deriving DecidableEq, Repr

/-- How many numbers of a channel lie between a sequence number and the last one issued. -/
def Channel.age (ch : Channel) (seq : Nat) : Nat := (ch.seq.toNat + (2 ^ 32 - 1) - seq) % (2 ^ 32 - 1)

/-- The transfers that a channel holds: the copy on it, then the queued ones in launch order. -/
def Core.channelCopies (c : Core) (kern chan : Nat) : List Transfer :=
  (AMap.getD (c.ctxAt kern).chans chan {}).cur.toList ++
    ((AMap.getD c.copyq (chan % 8) []).filter fun p => p.1 = kern && p.2.chan = chan).map Prod.snd

/-- The transfer of an id of a context of the core. -/
def Core.findCopy (c : Core) (kern : Nat) (id : Word) : XferName :=
  let x := c.ctxAt kern
  let chan := id.toNat / 2 ^ 39 % 64
  let ch := AMap.getD x.chans chan {}
  let seq := id.toNat % 2 ^ 32
  if id.toNat / 2 ^ 48 ≠ 0 ∨ id.toNat / 2 ^ 32 % 2 ^ 7 ≠ 0 ∨ id.toNat / 2 ^ 45 % 8 ≠ chan % 8 ∨ x.chan ≤ chan ∨ seq = 0 ∨ ch.seq = 0 then .none
  else if (ch.seq.toNat < seq ∧ !ch.wrapped) ∨ 2 ^ 31 < ch.age seq then .none
  else
    match (c.channelCopies kern chan ++ ch.done).find? fun t => t.seq.toNat = seq with
    | some t => .named t
    | none => .old

/-- The status word that CSTATUS writes (15 table 15.7). -/
def XferName.status : XferName → Word
  | .none => BitVec.ofNat 64 (2 ^ 61)
  | .old => BitVec.ofNat 64 (2 ^ 59)
  | .named t => t.status

/-- CSTATUS (15 R297). -/
def execCstatus (a d : BitVec 5) (s : State) : Host.Outcome State Fault Refusal :=
  issue (.cstatus a d) [.g a] [.g d] s fun s => (s.putG d (s.core.findCopy s.kern (s.readG a)).status 2 false).retire

/-- Whether the transfer with a sequence number and every earlier one of its channel has completed, been aborted or gone Held. -/
def Core.copySettled (c : Core) (kern chan seq : Nat) : Bool :=
  let ch := AMap.getD (c.ctxAt kern).chans chan {}
  (c.channelCopies kern chan).all fun u => decide (ch.age u.seq.toNat < ch.age seq) || u.st = .held

/-- CWAIT (15 R297): a Held transfer raises its fault. -/
def execCwait (a d : BitVec 5) (s : State) : Host.Outcome State Fault Refusal :=
  issue (.cwait a d) [.g a] [.g d] s fun s =>
    let id := (s.readG a).toNat
    match s.core.findCopy s.kern (s.readG a) with
    | .named t =>
      if !s.core.copySettled s.kern t.chan t.seq.toNat then s.wait
      else if t.st = .held then
        s.trap (if t.code = 7 ∨ t.code = 8 then Cause.mce else Cause.engineFault) (t.code.setWidth 64) t.fault
      else ((s.acquire s.cur 0).putG d t.status 2 false).retire
    | .old =>
      if !s.core.copySettled s.kern (id / 2 ^ 39 % 64) (id % 2 ^ 32) then s.wait else ((s.acquire s.cur 0).putG d XferName.old.status 2 false).retire
    | .none => (s.putG d XferName.none.status 2 false).retire

/-- Adds a finished transfer to a channel's history of sixteen. -/
def Channel.record (ch : Channel) (t : Transfer) : Channel := { ch with done := (t :: ch.done).take 16 }

/-- Aborts an open transfer of a context (15 R298): its chained operation counts as discarded (R294), its barrier reference goes (16
R314), and a held channel is released. -/
def State.abortCopy (s : State) (core kern : Nat) (t : Transfer) : State :=
  let x := { t with st := .aborted }
  let s1 := s.modChan core kern t.chan fun ch =>
    match ch.cur with
    | some u => if u.seq = t.seq then ({ ch with cur := none, flt := false, held := false, code := 0 }).record x else ch.record x
    | none => ch.record x
  let s2 := s1.modCoreAt core fun c => { c with copyq := AMap.mapVals c.copyq fun q => q.filter fun p => !(p.1 = kern && p.2.chan = t.chan && p.2.seq = t.seq) }
  let s3 := if t.chained then s2.modSlotOf core t.slot fun sl => { sl with trussLost := true } else s2
  s3.barCount t.bar kern 0 core [.free t.bar]

/-- CABORT (15 R298). -/
def execCabort (a d : BitVec 5) (s : State) : Host.Outcome State Fault Refusal :=
  issue (.cabort a d) [.g a] [.g d] s fun s =>
    match s.core.findCopy s.kern (s.readG a) with
    | .named t =>
      if t.open then ((s.abortCopy s.cur s.kern t).putG d { t with st := .aborted }.status 2 false).retire
      else (s.putG d t.status 2 false).retire
    | x => (s.putG d x.status 2 false).retire

/-! ### Progress -/

/-- The clip message of a copy (15 table 15.6). -/
def Transfer.clipMessage (t : Transfer) : Vec :=
  let dim (d : Nat) : Nat :=
    let lo := (t.inLo d).toNat % 2 ^ 32
    lo + 2 ^ 32 * (if t.outside then 0 else (t.inHi d - t.inLo d).toNat % 2 ^ 32)
  BitVec.ofNat 512 (packLanes 64 ((0x01 * 2 ^ 56 + t.shape.ndim * 2 ^ 48 + t.id.toNat % 2 ^ 48) :: (List.range t.shape.ndim).map dim))

/-- The completion message of a copy. -/
def Transfer.doneMessage (t : Transfer) : Vec := BitVec.ofNat 512 (packLanes 64 [0x02 * 2 ^ 56 + t.id.toNat % 2 ^ 48, t.status.toNat])

/-- The completion of the copy on a channel (15 R296), n bytes of which are still to be counted: the count, the sequence increment and the
completion message in this order, then the end of the command and of its barrier reference; and the history. -/
def State.completeCopy (s : State) (core kern chan : Nat) (t : Transfer) (n : Nat) : State :=
  let x := { t with st := .complete, scales := [] }
  let events := doneEvents (pkgOf core) kern (s.ctxOf core kern).rank.toNat (t.reg 6) x.doneMessage ++ [.free t.bar, .copy core kern t.uid]
  ((s.modChan core kern chan fun ch => ({ ch with cur := none }).record x).modCoreAt core fun c => { c with ending := c.ending ++ [(kern, t.uid, t.slot)] }).barCount
    t.bar kern n core events

/-- Counts the slots of a ring that a landing filled: those whose last byte lies in a range of physical offsets of a store of a core, in TAIL order
as far as slots are free (13 R241). -/
def State.fillRing (s : State) (core kern n store lo hi : Nat) : State :=
  let c := s.ctxOf core kern
  let b := AMap.getD c.bindings n {}
  let base := (c.window store).base + b.base
  let first := (lo - base) / 2 ^ b.sz
  let new := (List.range (Nat.min b.slots ((hi - base) / 2 ^ b.sz) - first)).map (first + ·)
  if !b.bound || b.kind != 1 || b.store != store || new.isEmpty then s
  else
    let b1 := Binding.settled { b with filled := b.filled ++ new.filter fun i => !b.filled.contains i }
    let s1 := s.modCtxOf core kern fun c => { c with bindings := AMap.set c.bindings n b1 }
    if b1.fill = b.fill then s1 else s1.notify core kern b

/-- Counts the filled slots of every ring of a context. -/
def State.fillRings (s : State) (core kern store lo hi : Nat) : State :=
  ((s.ctxOf core kern).bindings.keys).foldl (fun s n => s.fillRing core kern n store lo hi) s

/-- The stores that destination bytes from n0 up to n1 of a copy lie in: core, store, and physical range, the watermark moving from w0
to w1. -/
def State.landedStores (s : State) (core kern : Nat) (t : Transfer) (n0 n1 w0 w1 : Nat) : List (Nat × Nat × Nat × Nat) :=
  let at_ (a : Word) (len : Nat) : List (Nat × Nat × Nat × Nat) :=
    let c := if spaceOf a = 4 then remoteCore a else core
    let code := if spaceOf a = 4 then remoteStore a else spaceOf a
    let o := s.sideBase c kern t.sup code + (if spaceOf a = 4 then offsetOf a % 2 ^ 27 else offsetOf a)
    [(c, code, o, o + len)]
  if t.dealt then
    (List.range (n1 / t.block + 1 - n0 / t.block)).flatMap fun i =>
      let j := n0 / t.block + i
      let a := Nat.max n0 (j * t.block)
      let b := Nat.min n1 ((j + 1) * t.block)
      if a < b then at_ (movePtr (t.dealtAt core j) (a - j * t.block : Nat)) (b - a) else []
  else
    let part (p : Word) (a b : Nat) := if 1 ≤ spaceOf p ∧ spaceOf p ≤ 4 then at_ (BitVec.ofNat 64 (p.toNat / 2 ^ 48 * 2 ^ 48 + a)) (b - a) else []
    let aux : Word := BitVec.ofNat 64 t.shape.aux
    if t.auxScales = 0 ∨ n1 < t.elemBytes then part t.dst w0 w1
    else if t.elemBytes ≤ n0 then part aux w0 w1
    else part t.dst w0 t.hi ++ part aux (offsetOf aux) w1

/-- Extends a covered prefix over landed runs. -/
def coverRuns (n : Nat) (l : List (Nat × Nat)) : Nat → Nat × List (Nat × Nat)
  | 0 => (n, l)
  | k + 1 =>
    match l.find? fun r => decide (r.1 ≤ n) && decide (n < r.1 + r.2) with
    | some r => coverRuns (r.1 + r.2) (l.filter (· != r)) k
    | none => (n, l)

/-- The progress of the copy on a channel after a run of destination bytes has landed or been passed over (15 R291, R296): the watermark
advances over the covered prefix and the clipped bytes behind it, its bytes count on the barrier, and a whole copy completes or enters its chained
operation next. -/
def State.advanceCopy (s : State) (core kern chan : Nat) (t : Transfer) (run : Nat × Nat) : State :=
  let p := coverRuns t.covered (t.landed ++ [run]) (t.landed.length + 1)
  let m := t.nextByte p.1
  let t1 := { t with covered := m, landed := p.2.filter fun r => decide (m < r.1 + r.2), counted := Nat.max t.counted m }
  if p.1 = t.covered then s.modChan core kern chan fun ch => { ch with cur := some t1 }
  else
    let wm := s.watermark core kern t1 m
    let s1 := s.modChan core kern chan fun ch => { ch with cur := some t1, wm := BitVec.ofNat 48 wm }
    let s2 := ((s.landedStores core kern t t.covered m (s.chanOf core kern chan).wm.toNat wm).foldl (fun s x => s.fillRings x.1 kern x.2.1 x.2.2.1 x.2.2.2)
      s1).setEvents core kern
    if s2.copyWhole core kern t1 m && !t1.chained then s2.completeCopy core kern chan t1 (t1.counted - t.counted)
    else s2.barCount t.bar kern (t1.counted - t.counted) core

/-- The act of a write of CWM (15 table 15.5, R299): a Faulted copy resumes from WM where FLT is cleared, and is Held where HELD is set. -/
def State.setCwm (s : State) (core kern chan : Nat) (value : Word) : State :=
  let wm := value.toNat % 2 ^ 48
  let flt := value.getLsbD 62
  let held := value.getLsbD 61
  let code := (value >>> 48).setWidth 8
  s.modChan core kern chan fun ch =>
    { ch with
      wm := BitVec.ofNat 48 wm, flt := flt, held := held, code := code
      cur := ch.cur.map fun t =>
        if t.st = .faulted && held then { t with st := .held, code := code }
        else if t.st = .faulted && !flt then { t with st := .running, covered := s.bytesBelow core kern t wm, landed := [] }
        else t }

/-- Starts a transfer on its channel (15 R284, R292, R300): a clipped copy posts its message first, and passes over the clipped bytes before its
first in bounds; a resumed copy takes the bytes below the channel's watermark as covered and counted, and stands Held or Faulted where the supervisor
has set HELD or FLT (19 R362).  A write of CWM that was ordered after the start follows (02 R55). -/
def State.startCopy (s : State) (core kern : Nat) (t : Transfer) : State :=
  let old := s.chanOf core kern t.chan
  let n := if t.resumed then s.bytesBelow core kern t old.wm.toNat else t.nextByte 0
  let st : XferState := if t.resumed && old.held then .held else if t.resumed && old.flt then .faulted else .running
  let x := { t with
    st := st, code := if st = .held then old.code else t.code, clip := t.clipped, from0 := n, covered := n, counted := n, landed := [], wmNext := none }
  let s1 := s.modChan core kern t.chan fun ch =>
    { ch with cur := some x, wm := if t.resumed then ch.wm else BitVec.ofNat 48 t.lo, flt := st = .faulted }
  let s2 := if t.clipped && !t.resumed then s1.postMail core kern t.clipMessage else s1
  let count := if t.resumed then 0 else n
  let s3 := if st = .running && s2.copyWhole core kern x n && !x.chained then s2.completeCopy core kern t.chan x count
    else s2.barCount t.bar kern count core
  match t.wmNext with
  | some v => s3.setCwm core kern t.chan v
  | none => s3

/-- COPY_START: the command at the head of a copy queue starts (15 R284). -/
def execCopyStart (core queue : Nat) (s : State) : Host.Outcome State Fault Refusal :=
  .next (match AMap.getD (s.coreAt core).copyq queue [] with
    | (kern, t) :: rest =>
      let ch := s.chanOf core kern t.chan
      if ch.cur.isSome || (ch.held && !t.resumed) || (s.ctxOf core kern).state = .saving || !(s.coreAt core).mayBegin t.after then s
      else (s.modCoreAt core fun c => { c with copyq := AMap.set c.copyq queue rest }).startCopy core kern t
    | [] => s)

/-! ### Landing -/

/-- The value of a source element of a quantizing copy. -/
def Transfer.sourceValue (t : Transfer) (x i : Nat) : FVal :=
  let b := t.bits false
  decodeF (if t.format false = 6 then .fp32 else .bf16) (x / 2 ^ (b * i) % 2 ^ b)

/-- The quantized block that starts at element k of a row, from the bytes x of its elements in bounds (15 R295): scale, the bits of the
elements placed from the block's first, and the generator. -/
def Transfer.quantBlock (t : Transfer) (row : CopyRow) (k x : Nat) (gen : BitVec 32) : Nat × Nat × BitVec 32 :=
  let lo := Nat.max row.first k
  let n := Nat.min row.last (k + 32) - lo
  let q := mxQuantize (t.format true - 16) (t.rnd = 2) (if t.rnd = 1 then .rz else if t.rnd = 3 then .nsat else .rne)
    ((List.range n).map (t.sourceValue x)) gen
  (q.1, packLanes (t.bits true) (q.2.1.map (· % 2 ^ t.bits true)) * 2 ^ (t.bits true * (lo - k)), if t.rnd = 2 then q.2.2 else gen)

/-- Reads the source elements in bounds of the block at element k of a row. -/
def State.readBlockSource (s : State) (core kern : Nat) (t : Transfer) (row : CopyRow) (k : Nat) : State × Except SideStop Nat :=
  let lo := Nat.max row.first k
  let n := Nat.min row.last (k + 32) - lo
  let b := t.bits false / 8
  if n = 0 then (s, .ok 0) else s.sideRead core kern t.sup (movePtr row.src (lo * b : Nat)) (n * b)

/-- Lands m quantized blocks of a row from element k on; the first number of the row's blocks is blk. -/
def State.landBlocks (s : State) (core kern : Nat) (t : Transfer) (row : CopyRow) (blk k : Nat) (gen : BitVec 32) :
    Nat → State × Except SideStop (Transfer × BitVec 32)
  | 0 => (s, .ok (t, gen))
  | m + 1 =>
    let b := t.bits true
    let lo := Nat.max row.first k
    let hi := Nat.min row.last (k + 32)
    if hi ≤ lo then State.landBlocks s core kern t row (blk + 1) (k + 32) gen m
    else
      match s.readBlockSource core kern t row k with
      | (s1, .error e) => (s1, .error e)
      | (s1, .ok x) =>
        let q := t.quantBlock row k x gen
        let o := lo * b / 8
        let n := (hi * b + 7) / 8 - o
        let v := q.2.1 * 2 ^ (b * k) / 2 ^ (8 * o)
        let whole := lo * b % 8 = 0 && hi * b % 8 = 0
        let a := movePtr row.dst (o : Nat)
        match (if whole then (s1, .ok v) else s1.sideRead core kern t.sup a n) with
        | (s2, .error e) => (s2, .error e)
        | (s2, .ok old) =>
          let v1 := if whole then v else mergeBits old v (fullMask (b * (hi - lo)) * 2 ^ (b * lo - 8 * o)) n
          match s2.sideWrite core kern t.sup a n v1 with
          | (s3, some e) => (s3, .error e)
          | (s3, none) =>
            State.landBlocks s3 core kern { t with scales := AMap.set t.scales blk q.1 } row (blk + 1) (k + 32) q.2.2 m

/-- Lands m scale bytes from block j on; a block without an element in bounds has none. -/
def State.landScales (s : State) (core kern : Nat) (t : Transfer) (j : Nat) : Nat → State × Except SideStop Transfer
  | 0 => (s, .ok t)
  | m + 1 =>
    let row := t.row core (j * 32 / t.cols)
    let k := j * 32 % t.cols
    if Nat.min row.last (k + 32) ≤ Nat.max row.first k then State.landScales s core kern t (j + 1) m
    else
      let scale : State × Except SideStop Nat := match AMap.find? t.scales j with
        | some x => (s, .ok x)
        | none =>
          match s.readBlockSource core kern t row k with
          | (s1, .ok x) => (s1, .ok (t.quantBlock row k x 1).1)
          | r => r
      match scale with
      | (s1, .error e) => (s1, .error e)
      | (s1, .ok x) =>
        match s1.sideWrite core kern t.sup (t.scaleAt j) 1 x with
        | (s2, some e) => (s2, .error e)
        | (s2, none) => State.landScales s2 core kern { t with scales := AMap.erase t.scales j } (j + 1) m

/-- Bytes that land together at an address (15 R290, 07 R172). -/
def landingUnit (a : Word) : Nat := if spaceOf a = 0 ∨ spaceOf a = 6 then 8 else 64

/-- Whether a landing may begin or end at byte o of a row: at an end of the row or of its moved bytes, or between two landing units. -/
def CopyRow.cut (row : CopyRow) (o : Nat) : Bool :=
  o = 0 || o = row.bytes || o = row.lo || o = row.hi || (offsetOf row.dst + o) % landingUnit row.dst == 0

/-- Bytes of a quantized block. -/
def Transfer.blockBytes (t : Transfer) : Nat := 4 * t.bits true

/-- Whether a landing may cover n bytes from byte o of a row: within the row, between cuts, and of a quantizing copy in whole blocks. -/
def Transfer.mayLand (t : Transfer) (row : CopyRow) (o n : Nat) : Bool :=
  decide (o + n ≤ row.bytes) && n != 0 && row.cut o && row.cut (o + n) && (!t.quant || (o % t.blockBytes = 0 && n % t.blockBytes = 0))

/-- Lands n bytes of a row from byte o on (15 R290, R292, R295): the transfer and the generator after it. -/
def State.landRow (s : State) (core kern : Nat) (t : Transfer) (r : Nat) (row : CopyRow) (o n : Nat) (gen : BitVec 32) :
    State × Except SideStop (Transfer × BitVec 32) :=
  if t.quant then
    s.landBlocks core kern t row (r * t.cols / 32 + o / t.blockBytes) (32 * (o / t.blockBytes)) gen (n / t.blockBytes)
  else
    let a := Nat.max o row.lo
    let b := Nat.min (o + n) row.hi
    if b ≤ a then (s, .ok (t, gen))
    else
      match s.sideRead core kern t.sup (movePtr row.src (a : Nat)) (b - a) with
      | (s1, .error e) => (s1, .error e)
      | (s1, .ok v) =>
        match s1.sideWrite core kern t.sup (movePtr row.dst (a : Nat)) (b - a) v with
        | (s2, some e) => (s2, .error e)
        | (s2, none) => (s2, .ok (t, gen))

/-- Lands destination bytes first to first + n - 1 of the copy on a channel; none where they are no landing. -/
def State.landCopy (s : State) (core kern : Nat) (t : Transfer) (gen : BitVec 32) (first n : Nat) :
    Option (State × Except SideStop (Transfer × BitVec 32)) :=
  if !t.xe8 && t.elemBytes ≤ first then
    let j := first - t.elemBytes
    if n = 0 ∨ t.scaleBytes < j + n then none
    else
      match s.landScales core kern t j n with
      | (s1, .ok x) => some (s1, .ok (x, gen))
      | (s1, .error e) => some (s1, .error e)
  else
    match s.copyAt core kern t first with
    | (s1, .error e) => some (s1, .error e)
    | (s1, .ok (r, o)) =>
      if t.rows ≤ r then none
      else
        match s1.copyRow core kern t r with
        | (s2, .error e) => some (s2, .error e)
        | (s2, .ok row) => if t.mayLand row o n then some (s2.landRow core kern t r row o n gen) else none

/-- Whether a run of destination bytes is new: beyond the covered prefix and no part of it landed.  The draws of a stochastic rounding
come in element order, so the elements of such a copy land in order. -/
def Transfer.isNew (t : Transfer) (first n : Nat) : Bool :=
  decide (t.covered ≤ first) && (t.landed.all fun r => decide (first + n ≤ r.1) || decide (r.1 + r.2 ≤ first)) &&
    (!(t.quant && t.rnd = 2) || first == t.covered)

/-- COPY_LANDING: a run of destination bytes of the copy on a channel lands or is passed over (15 R290 to R296). -/
def execCopyLanding (core kern chan first count : Nat) (s : State) : Host.Outcome State Fault Refusal :=
  let ch := s.chanOf core kern chan
  .next (match ch.cur with
    | some t =>
      if t.st = .running && (s.ctxOf core kern).state ≠ .saving && t.isNew first count then
        (match s.landCopy core kern t ch.gen first count with
         | some (s1, .ok (x, gen)) =>
           ((s1.modChan core kern chan fun ch => { ch with gen := gen }).modCoreAt core fun c => c.count 0xC count).advanceCopy core kern chan x (first, count)
         | _ => s)
      else s
    | none => s)

/-- The least landing at a byte of a copy. -/
def State.leastLanding (s : State) (core kern : Nat) (t : Transfer) (n : Nat) : Nat :=
  match s.copyAt core kern t n with
  | (s1, .ok (r, o)) =>
    (match s1.copyRow core kern t r with
     | (_, .ok row) =>
       let units := if t.quant then (List.range 24).map fun i => (i + 1) * t.blockBytes
         else [landingUnit row.dst - (offsetOf row.dst + o) % landingUnit row.dst] ++ [row.lo - o, row.hi - o].filter (· != 0)
       ((units.filter (t.mayLand row o)).foldl Nat.min (row.bytes - o))
     | (_, .error _) => 1)
  | (_, .error _) => 1

/-- Why the copy on a channel cannot go on at its first byte that is not covered. -/
def State.copyStop (s : State) (core kern : Nat) (t : Transfer) (gen : BitVec 32) : Option SideStop :=
  match s.landCopy core kern t gen t.covered (if !t.xe8 && t.elemBytes ≤ t.covered then 1 else s.leastLanding core kern t t.covered) with
  | some (_, .error e) => some e
  | _ => none

/-! ### Faults (15 R299) -/

/-- CWM of a channel (15 table 15.5). -/
def Channel.cwm (ch : Channel) : Word :=
  let busy : Bool := match ch.cur with
    | some t => t.st = .running || t.st = .faulted
    | none => false
  BitVec.ofNat 64 (busy.toNat * 2 ^ 63 + ch.flt.toNat * 2 ^ 62 + ch.held.toNat * 2 ^ 61 + ch.code.toNat * 2 ^ 48 + ch.wm.toNat)

/-- COPY_TRANSLATION_FAULT: the copy on a channel meets a page that does not translate; it waits while the supervisor queue is full. -/
def execCopyTranslationFault (core kern chan : Nat) (s : State) : Host.Outcome State Fault Refusal :=
  let ch := s.chanOf core kern chan
  .next (match ch.cur with
    | some t =>
      (match (if t.st = .running && (s.ctxOf core kern).state ≠ .saving then s.copyStop core kern t ch.gen else none) with
       | some (.fault a _) =>
         if !s.recordReady core kern then s
         else
           let cwm := ({ ch with flt := true }).cwm
           (match s.appendRecord core kern [1, t.id, a, cwm, 1, 0, 0, 0] with
            | some s1 => s1.modChan core kern chan fun ch => { ch with flt := true, cur := some { t with st := .faulted, fault := a } }
            | none => s)
       | _ => s)
    | none => s)

/-- COPY_FAULT: any other fault holds the channel. -/
def execCopyFault (core kern chan : Nat) (code : BitVec 8) (addr : BitVec 64) (s : State) : Host.Outcome State Fault Refusal :=
  let ch := s.chanOf core kern chan
  .next (match ch.cur with
    | some t =>
      if t.st = .running && (s.ctxOf core kern).state ≠ .saving && s.copyStop core kern t ch.gen = some (.error code.toNat addr) then
        s.modChan core kern chan fun ch => { ch with held := true, code := code, cur := some { t with st := .held, code := code, fault := addr } }
      else s
    | none => s)

/-- A supervisor's write of CWM (15 table 15.5, R299).  It comes after the copies of the channel that wait in its queue (02 R55), unless a Faulted copy
waits for it (assumption log 77).  A channel at or above CHAN ignores it. -/
def State.writeCwm (s : State) (core kern chan : Nat) (value : Word) : State :=
  if (s.ctxOf core kern).chan ≤ chan then s
  else
    let mine (p : Nat × Transfer) : Bool := p.1 == kern && p.2.chan == chan
    let q := AMap.getD (s.coreAt core).copyq (chan % 8) []
    let faulted : Bool := match (s.chanOf core kern chan).cur with
      | some t => t.st = .faulted
      | none => false
    match ((List.range q.length).reverse.find? fun i => (q[i]?).any mine) with
    | some i =>
      if faulted then s.setCwm core kern chan value
      else s.modCoreAt core fun c => { c with copyq := AMap.set c.copyq (chan % 8) (q.modify i fun p => (p.1, { p.2 with wmNext := some value })) }
    | none => s.setCwm core kern chan value

/-- CWM_RESUME: a supervisor's write that clears FLT of a faulted channel. -/
def execCwmResume (core kern chan : Nat) (value : BitVec 64) (s : State) : Host.Outcome State Fault Refusal :=
  .next (if (s.chanOf core kern chan).flt && !value.getLsbD 62 && !value.getLsbD 61 then s.writeCwm core kern chan value else s)

/-- CWM_HOLD: a supervisor's write that sets HELD. -/
def execCwmHold (core kern chan : Nat) (value : BitVec 64) (s : State) : Host.Outcome State Fault Refusal :=
  .next (if value.getLsbD 61 then s.writeCwm core kern chan value else s)

/-- A supervisor's write of CSEQ (19 R363): 0 counts as 2^32 - 1. -/
def State.writeCseq (s : State) (core kern chan : Nat) (value : Word) : State :=
  if (s.ctxOf core kern).chan ≤ chan then s else s.modChan core kern chan fun ch => { ch with seq := value.setWidth 32 }

/-- CSEQ_WRITE: a supervisor sets the last sequence number of a channel. -/
def execCseqWrite (core kern chan : Nat) (value : BitVec 64) (s : State) : Host.Outcome State Fault Refusal :=
  .next (s.writeCseq core kern chan value)

/-! ### Chained operations (14 R277, 15 R294) -/

/-- A pointer of a chained operation as APTR or BPTR builds it. -/
def chainPointer (x : Nat) : Word :=
  BitVec.ofNat 64 (x / 2 ^ 19 % 4 * 2 ^ 61 + x / 2 ^ 14 % 32 * 2 ^ 56 + x / 2 ^ 11 % 8 * 2 ^ 53 + x % 2 ^ 11 * 64)

end Sys2Proof.Machine
end

