-- ==== Sys2Proof/Machine/Rings.lean ====
section
/-!
DEFINITION. Queue registers: QBIND, QPUSH, QPOP (13 R239 to R245) and the sequence counters (13 R255, R256).

Readings of the manual and choices that this file codes: assumption log 67, 143, 159.
-/
namespace Sys2Proof.Machine

open Sys2Proof

/-! ### QBIND -/

/-- Whether a bind word has a reserved code or size, or a nonzero field that its KIND leaves zero (13 R240). -/
def bindReserved (w : Word) : Bool :=
  let b : Binding := { word := w }
  let reserved := w.toNat / 2 ^ 56 % 8 != 0 || w.toNat / 2 ^ 52 % 4 != 0 || w.toNat / 2 ^ 32 % 2 ^ 16 != 0
  match b.kind with
  | 0 => w != 0
  | 1 => reserved || b.store = 0 || decide (2047 < b.tag) || b.slots = 0 || decide (4096 < b.slots) ||
      (if b.stage then decide (b.sz < 6) else b.sz != 3 && b.sz != 6)
  | 2 => reserved || b.stage || b.store != 0 || b.sz != 6 || b.tag != 0 || b.slots != 0
  | 3 => reserved || b.stage || b.store != 0 || b.sz != 6 || b.slots != 0
  | _ => true

/-- Whether a transfer by a core of a kernel lands in a ring of the kernel's context on a core (13 R246): through its own store, space 4 or a deal
(06 R149). -/
def Transfer.fillsRing (t : Transfer) (from_ core : Nat) (c : Ctx) (b : Binding) : Bool :=
  let base := (if t.sup then (c.window b.store).base else 0) + b.base
  let overlaps (o n : Nat) := decide (o < base + b.slots * 2 ^ b.sz) && decide (base < o + n)
  if t.dealt then
    spaceOf t.dst == b.store &&
      (List.range (Nat.min t.rows (t.reg 7 / 2 ^ 40 % 256))).any fun k => remoteCore (t.dealtAt from_ k) == core &&
        overlaps (offsetOf t.dst) ((t.rows + t.reg 7 / 2 ^ 40 % 256 - 1) / Nat.max 1 (t.reg 7 / 2 ^ 40 % 256) * t.block)
  else if spaceOf t.dst = 4 then remoteCore t.dst == core && remoteStore t.dst == b.store && overlaps (t.lo % 2 ^ 27) (t.hi - t.lo)
  else from_ == core && spaceOf t.dst == b.store && overlaps t.lo (t.hi - t.lo)

/-- Whether a landing that has begun or been launched is still to fill a ring: a copy in a queue or on a channel of any core of the kernel, or a
message that has matched a post. -/
def State.ringBusy (s : State) (core kern : Nat) (b : Binding) : Bool :=
  let x := s.ctxOf core kern
  b.kind = 1 &&
    ((s.cores.any fun c =>
        (c.2.copyq.any fun q => q.2.any fun t => t.1 == kern && t.2.fillsRing c.1 core x b) ||
        (c.2.ctxAt kern).chans.any fun ch => match ch.2.cur with
          | some t => t.st ≠ .complete && t.st ≠ .aborted && t.fillsRing c.1 core x b
          | none => false) ||
     s.dies.any fun d => d.2.landings.any fun l => l.post.kern == kern && (l.post.transfer).fillsRing l.post.core core x b)

/-- QBIND (13 R240): an open binding drains first. -/
def execQbind (q : BitVec 3) (a : BitVec 5) (sc : BitVec 3) (s : State) : Host.Outcome State Fault Refusal :=
  issue (.qbind q a sc) [.g a] [] s fun s =>
    let w := s.readG a
    let b : Binding := { word := w }
    let old := s.binding q.toNat
    if bindReserved w then s.trap Cause.spacePermission w 6
    else if b.kind = 1 && decide ((s.ctx.window b.store).size < b.base + b.slots * 2 ^ b.sz) then s.trap Cause.spacePermission w 1
    else if old.bound && s.ringBusy s.cur s.kern old then (s.setBinding q.toNat { old with closing := true }).wait
    else (s.setBinding q.toNat { word := w, slot := s.slot.num, bound := b.kind != 0, free := if b.kind = 1 then b.slots else 0 }).retire (stallOf sc)

/-! ### QPUSH and QPOP -/

/-- The pointer to a slot of a stage-mode ring (13 R242). -/
def Binding.pointer (b : Binding) (i : Nat) : Word := BitVec.ofNat 64 (b.store * 2 ^ 61 + b.base + i * 2 ^ b.sz)

/-- QPUSH (13 R241, R242): a push of 8 bytes, or the release of the oldest held stage. -/
def execQpush (q : BitVec 3) (a : BitVec 5) (sc : BitVec 3) (s : State) : Host.Outcome State Fault Refusal :=
  issue (.qpush q a sc) [.g a] [] s fun s =>
    let b := s.binding q.toNat
    let x := s.readG a
    if !b.bound || b.kind != 1 || (!b.stage && b.sz != 3) then s.trap Cause.illegal ((encode (.qpush q a sc)).setWidth 64)
    else if b.stage then
      if b.held = 0 || b.pointer ((b.head + b.slots - b.held) % b.slots) != x then s.trap Cause.queueOverflow x 5
      else ((s.setBinding q.toNat (Binding.settled { b with held := b.held - 1, free := b.free + 1 })).notify s.cur s.kern b).retire (stallOf sc)
    else if b.closing || b.free = 0 then s.wait
    else (s.pushQ q.toNat (x.setWidth 512)).retire (stallOf sc)

/-- QPOP (13 R241, R242): a pop of 8 bytes, or the pointer to the stage at HEAD. -/
def execQpop (d : BitVec 5) (q : BitVec 3) (sc : BitVec 3) (s : State) : Host.Outcome State Fault Refusal :=
  issue (.qpop d q sc) [] [.g d] s fun s =>
    let b := s.binding q.toNat
    if !b.bound || b.kind != 1 || (!b.stage && b.sz != 3) then s.trap Cause.illegal ((encode (.qpop d q sc)).setWidth 64)
    else if b.closing || b.fill = 0 then s.wait
    else if b.stage then
      (((s.setBinding q.toNat { b with fill := b.fill - 1, held := b.held + 1, head := (b.head + 1) % b.slots }).notify s.cur s.kern b).putG d
        (b.pointer b.head) 4 false).retire (stallOf sc)
    else if s.popPoisoned q.toNat then s.trap Cause.mce b.headAddress
    else
      let p := s.popQ q.toNat
      (p.1.putG d (p.2.setWidth 64) 4 false).retire (stallOf sc)

/-! ### Two slots in one cycle -/

/-- The queue registers that an instruction of the two-pipe class pops, and those that it pushes (02 R42). -/
def queueUse (i : Instr) : List Nat × List Nat :=
  let w := encode i
  let field (k : Nat) : BitVec 5 := (w >>> k).setWidth 5
  let queues (l : List (BitVec 5)) : List Nat := (l.filter isQ).map fun r => r.toNat - 24
  let major := (w >>> 26).toNat
  (queues (if major = 0x25 then [field 16] else [field 16, field 11]), queues (if major = 0x24 || major = 0x29 then [] else [field 21]))

/-- The queue registers that the next instruction of a slot of the current core pops and pushes. -/
def State.nextQueues (s : State) (slot : Nat) : List Nat × List Nat :=
  match (s.besides slot).fetch with
  | (_, .word w) => ((decode w).map queueUse).getD ([], [])
  | _ => ([], [])

/-- Whether two slots of the current core run tasks of one context. -/
def State.oneContext (s : State) (a b : Nat) : Bool := (s.core.slotAt a).ctx = (s.core.slotAt b).ctx && (s.core.slotAt a).ctx.isSome

/-- Whether the next instructions of two slots of one context both pop, or both push, one queue, which takes one step per cycle in each
direction (13 R244). -/
def State.ringClash (s : State) (a b : Nat) : Bool :=
  let x := s.nextQueues a
  let y := s.nextQueues b
  let c := s.core.ctxAt ((s.core.slotAt a).ctx.getD 0)
  let bound (n : Nat) : Binding := AMap.getD c.bindings n {}
  s.oneContext a b && ((x.1.any fun n => y.1.any fun m => n == m || (bound n).shares (bound m)) || x.2.any fun n => y.2.contains n)

/-- Whether the next instruction of one slot pops a ring that the next instruction of another slot of its context pushes: in one cycle the push is
counted first (13 R244). -/
def State.pushFirst (s : State) (a b : Nat) : Bool := s.oneContext a b && (s.nextQueues a).1.any fun n => (s.nextQueues b).2.contains n

/-! ### SQINC and SQREAD -/

/-- Runs a body on a counter of the current kernel: SPACE-PERMISSION for a refused handle, an error reply from a bent that no path
reaches or where the kernel holds no context, which a posted access records (04 R94). -/
def State.withCounter (s : State) (h : Word) (posted : Bool) (stall : Nat) (body : State → State) : State :=
  let pkg := pkgOf s.cur
  let failed (code : Nat) :=
    if posted then (s.postedError s.cur s.core.curSlot.val Cause.remoteError h code (code = 3) (s.failedLink (dieOf s.cur) (dieOfBent (seqBent pkg h)))).retire stall
    else s.trap Cause.remoteError h (BitVec.ofNat 64 code)
  if s.seqRefused pkg s.kern h then s.trap Cause.spacePermission h 4
  else
    match s.route (dieOf s.cur) (dieOfBent (seqBent pkg h)) with
    | .wait => s.wait
    | .error c => failed c
    | .go => if (s.seqAddress pkg s.kern h).isNone then failed 1 else body s

/-- SQINC (13 R256): a release, then the addition in one step. -/
def execSqinc (d a b : BitVec 5) (sc : BitVec 3) (s : State) : Host.Outcome State Fault Refusal :=
  issue (.sqinc d a b sc) [.g a, .g b] [.g d] s fun s =>
    let h := s.readG a
    let pkg := pkgOf s.cur
    let port := (s.seqAddress pkg s.kern h).getD 0
    s.withCounter h (d = 0) (stallOf sc) fun s => s.released (seqScope h) fun s =>
      let s1 := (s.taking (seqBent pkg h) port s.cur).seqAdd pkg s.kern h (s.readG b).toNat
      (s1.putG d (BitVec.ofNat 64 (s1.seqValue (pkgOf s.cur) s.kern h)) 12 false).retire (stallOf sc)

/-- SQREAD (13 R256): the value, then an acquire. -/
def execSqread (d a : BitVec 5) (sc : BitVec 3) (s : State) : Host.Outcome State Fault Refusal :=
  issue (.sqread d a sc) [.g a] [.g d] s fun s =>
    let h := s.readG a
    s.withCounter h false (stallOf sc) fun s =>
      ((s.putG d (BitVec.ofNat 64 (s.seqValue (pkgOf s.cur) s.kern h)) 12 false).acquire s.cur (seqScope h)).retire (stallOf sc)

end Sys2Proof.Machine
end

