-- ==== Sys2Proof/Machine/Queues.lean ====
section
/-!
DEFINITION. Node queues, bin sets, the wait list and donation queues (13 R246 to R254, R257 to R259).

The operations of a queue engine take place in the step of the instruction that asks for them; a donation reaches its engine
in a step of its own.

Readings of the manual and choices that this file codes: assumption log 63, 64, 65, 66, 150, 159.
-/
namespace Sys2Proof.Machine

open Sys2Proof

/-! ### Descriptors (13 R247, R248) -/

/-- The answer of reading a descriptor at package scope: its physical address and image. -/
inductive DescRead where
  | ok (pa image : Nat)
  | trap (cause : BitVec 8) (tval tinfo : Word)
  | wait
deriving DecidableEq, Repr

/-- Reads a descriptor of 64 bytes at package scope: the bent writes back and drops its copy, and the home answers. -/
def State.readDescriptor (s : State) (a : Word) : State × DescRead :=
  match s.readBlock a 64 64 false with
  | (s1, .trap c v t) => (s1, .trap c v t)
  | (s1, .wait) => (s1, .wait)
  | (s1, .ok _) =>
    match s1.checkAccess .load 64 a with
    | (s2, .ok (.mem pa _)) =>
      match s2.homeRoute (bentOf s2.cur) pa with
      | .wait => (s2, .wait)
      | .error c => (s2, .trap Cause.remoteError a (BitVec.ofNat 64 c))
      | .go =>
        let s3 := s2.dropLine (bentOf s2.cur) (pa / 256)
        (s3, .ok pa (s3.memRead pa 64))
    | (s2, .trap c v t) => (s2, .trap c v t)
    | (s2, _) => (s2, .wait)

/-- Whether CFG has a reserved code or a value out of range (13 table 13.5). -/
def cfgBad (cfg : Nat) : Bool :=
  let kind := cfg / 2 ^ 62
  let scope := cfg / 2 ^ 59 % 8
  let batch := cfg / 2 ^ 24 % 32
  let nlog := cfg / 2 ^ 16 % 16
  let rsz := cfg % 256
  kind = 3 || decide (scope < 2) || scope = 7 || cfg / 2 ^ 48 % 2 ^ 11 != 0 || cfg / 2 ^ 32 % 2 ^ 16 = 0 || cfg / 2 ^ 29 % 8 != 0 ||
    decide (batch < 1) || decide (16 < batch) || (kind = 1 && batch != 16) || cfg / 2 ^ 20 % 16 != 0 || decide (nlog < 4) ||
    cfg / 2 ^ 8 % 256 != 0 || rsz = 0 || decide ((if kind = 1 then 4 else 16) < rsz)

/-- The bent key of a queue handle. -/
def handleBent (h : Nat) : Nat := h / 2 ^ 40 % 256 * 128 + h / 2 ^ 12 % 128

/-- The handle of an open queue (13 table 13.6). -/
def queueHandle (bent e cfg : Nat) : Nat :=
  2 ^ 63 + bent / 128 * 2 ^ 40 + cfg % 32 * 2 ^ 32 + bent % 128 * 2 ^ 12 + cfg / 2 ^ 62 * 2 ^ 8 + e

/-- Whether the context that opened a queue is being saved, or is saved: the queue takes no records (13 R246, R259). -/
def State.queueSaved (s : State) (q : OpenQueue) : Bool :=
  let st := (s.ctxOf q.core q.kern).state
  st = .saving || st = .saved || st = .restoring

/-- A queue that an instruction names: open, at a bent and entry, or to be opened in the own bent at a free entry. -/
structure NamedQueue where
  bent : Nat
  entryno : Nat
  q : OpenQueue
  pa : Nat
  opened : Bool
deriving DecidableEq, Repr

/-- Opens the descriptor of a named queue if it is not open: the engine takes the entry, zeroes ENQCNT and DONECNT and sets
HANDLE. -/
def State.openNamed (s : State) (n : NamedQueue) : State :=
  if n.opened then s
  else
    (s.bump.modBentAt n.bent fun b => { b with queues := AMap.set b.queues n.entryno n.q }).engineWrite n.bent n.pa 24
      (2 ^ 128 * queueHandle n.bent n.entryno n.q.cfg.toNat)

/-- Opens or finds the queue of a descriptor and goes on with it (13 R248).  The body sees a queue that is not open yet; it opens it
with the rest of its effect. -/
def State.withQueue (s : State) (a : Word) (bins : Bool) (body : State → NamedQueue → State) : State :=
  match s.readDescriptor a with
  | (s1, .trap c v t) => s1.trap c v t
  | (s1, .wait) => s1.wait
  | (s1, .ok pa image) =>
    let h := descWord image 5
    if h / 2 ^ 63 = 1 then
      let bent := handleBent h
      match s1.route (dieOf s1.cur) (dieOfBent bent) with
      | .wait => s1.wait
      | .error c => s1.trap Cause.remoteError a (BitVec.ofNat 64 c)
      | .go =>
        match AMap.find? (s1.bentAt bent).queues (h % 256) with
        | none => s1.trap Cause.remoteError a 1
        | some q =>
          if (q.kind = 1) ≠ bins then s1.trap Cause.spacePermission a 6
          else if s1.queueSaved q || !s1.quietRange bent pa 64 then s1.wait
          else body s1 ⟨bent, h % 256, q, pa + 24, true⟩
    else
      let cfg := descWord image 2
      let bent := bentOf s1.cur
      if cfgBad cfg || (cfg / 2 ^ 62 = 1) ≠ bins then s1.trap Cause.spacePermission a 6
      else
        match (List.range 256).find? fun e => !AMap.has (s1.bentAt bent).queues e with
        | none => s1.trap Cause.queueOverflow a 3
        | some e =>
          match s1.checkAccess .store 64 a with
          | (s2, .trap c v t) => s2.trap c v t
          | (s2, .wait) => s2.wait
          | (s2, .ok _) =>
            body s2 ⟨bent, e, { desc := a, core := s2.cur, kern := s2.kern, cfg := BitVec.ofNat 64 cfg,
                                ring := BitVec.ofNat 64 (descWord image 1), entry := BitVec.ofNat 64 (descWord image 0), uid := s2.fresh },
              pa + 24, false⟩

/-! ### Appending a record -/

/-- The address of the slot of a queue's ring that record number i takes. -/
def OpenQueue.slotAddress (q : OpenQueue) (i : Nat) : Nat := q.ring.toNat % 2 ^ 48 + i % q.slots * q.size

/-- Whether every slot of a queue's ring is taken. -/
def OpenQueue.full (q : OpenQueue) : Bool := decide (q.donecnt + q.slots ≤ q.enqcnt)

/-- Replaces an open queue. -/
def State.setQueue (s : State) (bent e : Nat) (q : OpenQueue) : State := s.modBentAt bent fun b => { b with queues := AMap.set b.queues e q }

/-- Counts a record in and cuts the batches that are due (13 R249, R250); pieces are the slot's physical bytes. -/
def State.appendAt (s : State) (bent e : Nat) (q : OpenQueue) (pieces : List (Nat × Nat)) (v : Nat) : State :=
  let q1 := OpenQueue.cutBatches { q with enqcnt := q.enqcnt + 1, arrivals := q.arrivals ++ [s.cycle] } none 64
  ((s.engineWritePieces bent pieces v).setQueue bent e q1).descWrite bent q1 0x18 q1.enqcnt

/-- The space of a queue's kernel. -/
def State.queueSpace (s : State) (bent : Nat) (q : OpenQueue) : BitVec 12 × Word := s.kernelSpace (pkgOfBent bent) q.kern q.core

/-! ### ENQ -/

/-- The refusal of an engine's range to an instruction that waits for the engine: its own trap, a reply, or a wait. -/
def State.rangeStop (s : State) (r : EngineRange) : State :=
  match r with
  | .fault va t => s.trap PageUse.store.cause (BitVec.ofNat 64 va) (BitVec.ofNat 64 t)
  | .error va c => s.trap Cause.remoteError (BitVec.ofNat 64 va) (BitVec.ofNat 64 c)
  | .ok _ => s.wait
  | .wait => s.wait

/-- ENQ (13 R249). -/
def execEnq (d a b : BitVec 5) (sc : BitVec 3) (s : State) : Host.Outcome State Fault Refusal :=
  issue (.enq d a b sc) [.g a, .g b] [.g d] s fun s =>
    let desc := s.readG a
    s.withQueue desc false fun s n =>
      if b = 0 then (((s.taking n.bent 0 s.cur).openNamed n).putG d (BitVec.ofNat 64 (queueHandle n.bent n.entryno n.q.cfg.toNat)) 12 false).retire (stallOf sc)
      else
        match s.readBlock (s.readG b) n.q.size 16 true with
        | (s1, .trap c v t) => s1.trap c v t
        | (s1, .wait) => s1.wait
        | (s1, .ok v) => s1.released n.q.scope fun s =>
          if n.q.full then s.trap Cause.queueOverflow desc 1
          else
            match s.engineRange n.bent (s.queueSpace n.bent n.q) .store (n.q.slotAddress n.q.enqcnt) n.q.size 2 with
            | (s2, .ok pieces) =>
              ((((s2.taking n.bent 0 s2.cur).openNamed n).appendAt n.bent n.entryno n.q pieces v).putG d (BitVec.ofNat 64 n.q.enqcnt) 12 false).retire (stallOf sc)
            | (s2, r) => s2.rangeStop r

/-! ### Bins (13 R252 to R254) -/

/-- The bins of a kernel in a bent, numbered from kern * 64. -/
def Bent.binsOf (b : Bent) (kern : Nat) : List Nat := (List.range (AMap.getD b.binOwner kern 0)).map (kern * 64 + ·)

/-- Whether the next buffer of a bin set is free: the batch that used it has ended. -/
def OpenQueue.bufferFree (q : OpenQueue) : Bool := q.batches.all fun b => b.st = .ended || b.first != q.nextBuffer

/-- The arrival cycle of the oldest record of a bin. -/
def Bin.oldest (b : Bin) : Nat := b.arrivals.headD 0

/-- Launches a bin: its records go to the next buffer of its set and a batch is ready for dispatch; none while no buffer is free or
the buffer cannot be written. -/
def State.launchBin (s : State) (bent number : Nat) : Option State :=
  match AMap.find? (s.bentAt bent).bins number with
  | some b =>
    match AMap.find? (s.bentAt bent).queues b.set with
    | some q =>
      if !q.bufferFree then none
      else
        let bytes := b.recs.flatMap id
        match s.engineRange bent (s.queueSpace bent q) .store (q.ring.toNat % 2 ^ 48 + q.nextBuffer * (16 * q.size)) bytes.length 2 with
        | (s1, .ok pieces) =>
          some (((s1.engineWritePieces bent pieces (packLanes 8 (bytes.map BitVec.toNat))).setQueue bent b.set
            { q with
              batches := q.batches ++ [{ first := q.nextBuffer, count := b.recs.length, key := b.key }]
              nextBuffer := (q.nextBuffer + 1) % q.slots }).modBentAt bent fun x => { x with bins := AMap.erase x.bins number })
        | _ => none
    | none => none
  | none => none

/-- Launches bins in a list's order where buffers are free. -/
def State.launchBins (s : State) (bent : Nat) (numbers : List Nat) : State :=
  numbers.foldl (fun s n => (s.launchBin bent n).getD s) s

/-- The bins that p selects, in the order of their oldest records. -/
def Bent.binsOldestFirst (b : Bent) (p : Bin → Bool) : List Nat :=
  ((b.bins.filter fun x => p x.2).mergeSort fun x y =>
    decide (x.2.oldest < y.2.oldest) || (x.2.oldest == y.2.oldest && decide (x.1 ≤ y.1))).map Prod.fst

/-- The bytes of a record read as a number. -/
def recordBytes (n v : Nat) : List (BitVec 8) := (List.range n).map fun i => BitVec.ofNat 8 (v / 2 ^ (8 * i))

/-- Appends a record to a bin; at 16 records the bin is launched, or waits for a buffer. -/
def State.fillBin (s : State) (n : NamedQueue) (number : Nat) (b : Bin) (v : Nat) (d : BitVec 5) (stall : Nat) : State :=
  let q := (AMap.find? (s.bentAt n.bent).queues n.entryno).getD n.q
  let count := b.recs.length + 1
  let b1 : Bin := { b with recs := b.recs ++ [recordBytes n.q.size v], arrivals := b.arrivals ++ [s.cycle], due := b.due || count = 16 }
  let q1 := { q with enqcnt := q.enqcnt + 1 }
  let s1 := ((s.setQueue n.bent n.entryno q1).modBentAt n.bent fun x => { x with bins := AMap.set x.bins number b1 }).descWrite n.bent q1 0x18 q1.enqcnt
  let s2 := if count = 16 then (s1.launchBin n.bent number).getD s1 else s1
  (s2.putG d (BitVec.ofNat 64 count) 12 false).retire stall

/-- Whether the evicted bin's set has a free buffer. -/
def State.setHasBuffer (s : State) (bent number : Nat) : Bool :=
  match AMap.find? (s.bentAt bent).bins number with
  | some b => match AMap.find? (s.bentAt bent).queues b.set with
    | some q => q.bufferFree
    | none => false
  | none => false

/-- The bin unit takes a record with its key (13 R253). -/
def State.spawnBin (s : State) (desc : Word) (n : NamedQueue) (v : Nat) (d : BitVec 5) (stall : Nat) : State :=
  let key := v % 2 ^ 16
  let bt := s.bentAt n.bent
  let kern := n.q.kern
  let fresh : Bin := { kern := kern, set := n.entryno, key := key, recs := [], arrivals := [] }
  match (bt.binsOf kern).find? fun i => match AMap.find? bt.bins i with
    | some b => b.set = n.entryno && b.key = key
    | none => false with
  | some i =>
    let b := (AMap.find? bt.bins i).getD fresh
    if 16 ≤ b.recs.length then s.trap Cause.queueOverflow desc 2 else (s.openNamed n).fillBin n i b v d stall
  | none =>
    match (bt.binsOf kern).find? fun i => !AMap.has bt.bins i with
    | some i => (s.openNamed n).fillBin n i fresh v d stall
    | none =>
      match (bt.binsOldestFirst fun b => b.kern = kern).head? with
      | some i =>
        if !s.setHasBuffer n.bent i then s.trap Cause.queueOverflow desc 2
        else
          match s.launchBin n.bent i with
          | some s1 => (s1.openNamed n).fillBin n i fresh v d stall
          | none => s.wait
      | none => s.trap Cause.queueOverflow desc 8

/-- SPAWNB (13 R253). -/
def execSpawnb (d a b : BitVec 5) (sc : BitVec 3) (s : State) : Host.Outcome State Fault Refusal :=
  issue (.spawnb d a b sc) [.g a, .g b] [.g d] s fun s =>
    let desc := s.readG a
    s.withQueue desc true fun s n =>
      match s.readBlock (s.readG b) n.q.size 16 true with
      | (s1, .trap c v t) => s1.trap c v t
      | (s1, .wait) => s1.wait
      | (s1, .ok v) =>
        if ((s1.bentAt n.bent).binsOf n.q.kern).isEmpty then s1.trap Cause.queueOverflow desc 8
        else s1.released n.q.scope fun s => s.spawnBin desc n v d (stallOf sc)

/-- BINFLUSH (13 R254): every nonempty bin of the set is due; those with a free buffer are launched now, oldest record first. -/
def execBinflush (a : BitVec 5) (sc : BitVec 3) (s : State) : Host.Outcome State Fault Refusal :=
  issue (.binflush a sc) [.g a] [] s fun s =>
    s.withQueue (s.readG a) true fun s n =>
      let mine (b : Bin) := b.set == n.entryno && b.kern == n.q.kern
      let s1 := (s.openNamed n).modBentAt n.bent fun b => { b with bins := AMap.mapVals b.bins fun x => if mine x then { x with due := true } else x }
      (s1.launchBins n.bent ((s1.bentAt n.bent).binsOldestFirst mine)).retire (stallOf sc)

/-! ### Examination and dispatch -/

/-- TIMEOUT_EXAMINATION (13 R250, R253): as at the last multiple of 64 cycles, queues whose oldest record has waited TMO cut a batch, and
bins whose oldest record has waited that long launch where a buffer is free. -/
def execTimeoutExamination (bent : Nat) (s : State) : Host.Outcome State Fault Refusal :=
  let now := s.cycle / 64 * 64
  let s1 := s.modBentAt bent fun b => { b with queues := AMap.mapVals b.queues fun q => if s.queueSaved q then q else q.cutBatches (some now) 64 }
  .next (s1.launchBins bent ((s1.bentAt bent).binsOldestFirst fun b =>
    match AMap.find? (s1.bentAt bent).queues b.set with
    | some q => !s1.queueSaved q && decide (b.oldest + q.timeout ≤ now)
    | none => false))

/-- BIN_LAUNCH_ON_BUFFER_FREE (13 R253): full and flushed bins launch where a buffer has become free, oldest record first. -/
def execBinLaunchOnBufferFree (bent : Nat) (s : State) : Host.Outcome State Fault Refusal :=
  .next (s.launchBins bent ((s.bentAt bent).binsOldestFirst fun b => b.due))

/-- The core that the next batch of a queue goes to: after the core that the engine of the bent chose last, the first core of the bent with a free
slot in a context of the kernel that may start tasks (13 R250). -/
def State.dispatchCore (s : State) (bent : Nat) (q : OpenQueue) : Option (Nat × Nat) :=
  ((List.range 16).map fun i => bent * 16 + ((s.bentAt bent).lastCore + 1 + i) % 16).findSome? fun c =>
    if s.hasCtx c q.kern && (s.ctxOf c q.kern).starts && (s.coreAt c).active && !(s.coreAt c).outOfPlacement && (s.dieAt (dieOf c)).inPlacement then
      ((s.coreAt c).freeSlot q.kern).map fun n => (c, n) else none

/-- Whether the task of a batch has still to issue its first instruction. -/
def State.batchStarting (s : State) (pkg kern : Nat) (b : Batch) : Bool :=
  match b.st with
  | .running rank seq =>
    match s.rankCore pkg kern rank with
    | some core => (s.coreAt core).slots.toList.any fun sl =>
        sl.ctx = some kern && !sl.run.quiet && sl.seq.toNat = seq && sl.lastIssue = 0
    | none => false
  | .cut => false
  | .ended => false

/-- The batch of a queue that is dispatched next: the oldest that waits, while fewer than 64 are under way (13 R250) and none of the queue has still
to issue its first instruction (13 R251). -/
def State.nextDispatch (s : State) (bent : Nat) (q : OpenQueue) : Option Batch :=
  if (q.batches.any (s.batchStarting (pkgOfBent bent) q.kern)) || 64 ≤ (q.batches.filter fun b => b.st ≠ .ended && b.st ≠ .cut).length then none
  else q.batches.find? fun b => b.st = .cut

/-- What the task of a batch starts with (13 R250, R253). -/
def OpenQueue.task (q : OpenQueue) (bent e : Nat) (b : Batch) : NewTask :=
  let addr := if q.kind = 1 then q.ring.toNat % 2 ^ 48 + b.first * (16 * q.size) else q.slotAddress b.first
  { kind := if q.kind = 1 then 4 else 3
    origin := BitVec.ofNat 48 addr
    pc := q.entry
    regs := [(4, BitVec.ofNat 64 addr), (5, BitVec.ofNat 64 b.count)] ++
      (if q.kind = 1 then [(6, BitVec.ofNat 64 b.key), (7, q.desc)] else [(6, q.desc)])
    batch := some (bent, e) }

/-- BATCH_DISPATCH (13 R250, R251): the first batch of a queue that waits becomes a task; its start is an acquire at SCOPE, or at
domain scope for a donation queue. -/
def execBatchDispatch (bent idx : Nat) (s : State) : Host.Outcome State Fault Refusal :=
  match AMap.find? (s.bentAt bent).queues idx with
  | some q =>
    match s.nextDispatch bent q, s.dispatchCore bent q with
    | some b, some (core, slot) =>
      let q1 := { q with
        batches := q.batches.map fun (x : Batch) =>
          if x = b then { x with st := .running (s.ctxOf core q.kern).rank.toNat ((s.ctxOf core q.kern).taskCtr + 1).toNat } else x }
      let s1 := (s.setQueue bent idx q1).modBentAt bent fun x => { x with lastCore := core % 16 }
      .next ((s1.acquire core (if q.kind = 2 then 5 else q.scope)).startTask core slot q.kern (q.task bent idx b))
    | _, _ => .next s
  | none => .next s

/-! ### The wait list (13 R257) -/

/-- The used pairs of a TASKQ block. -/
def taskPairs (v : Nat) : List (Word × Word) :=
  ((List.range 4).map fun p => (BitVec.ofNat 64 (descWord v (2 * p)), BitVec.ofNat 64 (descWord v (2 * p + 1)))).filter fun p => p.1 ≠ 0

/-- TASKQ (13 R257). -/
def execTaskq (d a b : BitVec 5) (sc : BitVec 3) (s : State) : Host.Outcome State Fault Refusal :=
  issue (.taskq d a b sc) [.g a, .g b] [.g d] s fun s =>
    let block := s.readG a
    let desc := s.readG b
    let pkg := pkgOf s.cur
    match s.readBlock block 64 64 false with
    | (s1, .trap c v t) => s1.trap c v t
    | (s1, .wait) => s1.wait
    | (s1, .ok v) =>
      match s1.readBlock desc 64 64 false with
      | (s2, .trap c v t) => s2.trap c v t
      | (s2, .wait) => s2.wait
      | (s2, .ok _) =>
        let pairs := taskPairs v
        match pairs.find? fun p => s2.seqRefused pkg s2.kern p.1, pairs.find? fun p => (s2.seqAddress pkg s2.kern p.1).isNone with
        | some p, _ => s2.trap Cause.spacePermission p.1 4
        | none, some p => s2.trap Cause.remoteError p.1 1
        | none, none =>
          s2.withQueue desc false fun s n =>
            match s.readBlock (BitVec.ofNat 64 (block.toNat + 64)) n.q.size 16 false with
            | (s3, .trap c v t) => s3.trap c v t
            | (s3, .wait) => s3.wait
            | (s3, .ok r) => s3.released n.q.scope fun s =>
              if 256 ≤ s.bent.waits.length then s.trap Cause.queueOverflow desc 4
              else
                (((s.openNamed n).modBent fun x => { x with waits := x.waits ++
                  [{ core := s.cur, kern := s.kern, desc := desc, queue := n.q.uid, pairs := pairs, record := recordBytes n.q.size r }] }).putG d 0 12
                    false).retire (stallOf sc)

/-- The open queue with a uid: its bent, its entry and itself. -/
def State.findQueue (s : State) (uid : Nat) : Option (Nat × Nat × OpenQueue) :=
  s.bents.findSome? fun b => (List.find? (fun (q : Nat × OpenQueue) => q.2.uid = uid) b.2.queues).map fun q => (b.1, q.1, q.2)

/-- The acquires of a ready entry at each pair's SCOPE, for the cores of the bent that holds the queue, where its task will start. -/
def State.waitAcquire (s : State) (home : Nat) (w : TaskWait) : State :=
  if w.pairs.any fun p => 3 ≤ seqScope p.1 then ((coresOfBent home).foldl State.dropClean s).advanceEpoch home else s

/-- Takes an entry off the wait list of a bent, or replaces it. -/
def State.setWait (s : State) (bent idx : Nat) (w : Option TaskWait) : State :=
  s.modBentAt bent fun b => { b with waits := match w with
    | some x => b.waits.set idx x
    | none => b.waits.eraseIdx idx }

/-- A failed append: a queue-append record for the supervisor of the issuing context, and the entry is held (13 R257, 19 R356). -/
def State.appendFailed (s : State) (bent idx : Nat) (w : TaskWait) (va code : Nat) : State :=
  if !s.recordReady w.core w.kern then s
  else
    let tail := s.recordTail w.core w.kern
    match s.appendRecord w.core w.kern [4, w.desc, BitVec.ofNat 64 va, BitVec.ofNat 64 code, 0, 0, 0, 0] with
    | some s1 => s1.setWait bent idx (some { w with failed := some tail })
    | none => s

/-- Appends the record of a ready entry as ENQ does; a full queue and a queue that is saved hold it. -/
def State.appendWait (s : State) (bent idx : Nat) (w : TaskWait) : State :=
  match s.findQueue w.queue with
  | some (home, e, q) =>
    if q.full || s.queueSaved q || s.route (dieOfBent bent) (dieOfBent home) ≠ .go then s
    else
      let s0 := s.waitAcquire home w
      match s0.engineRange home (s0.queueSpace home q) .store (q.slotAddress q.enqcnt) q.size 2 with
      | (s1, .ok pieces) => (s1.setWait bent idx none).appendAt home e q pieces (packLanes 8 (w.record.map BitVec.toNat))
      | (s1, .fault va t) => s1.appendFailed bent idx w va t
      | (s1, .error va c) => s1.appendFailed bent idx w va c
      | (s1, .wait) => s1
  | none => s

/-- Whether the queue of an entry can take its record now. -/
def State.waitRoom (s : State) (bent : Nat) (w : TaskWait) : Bool :=
  match s.findQueue w.queue with
  | some (home, _, q) => !q.full && !s.queueSaved q && s.route (dieOfBent bent) (dieOfBent home) = .go
  | none => false

/-- Whether entry idx of a wait list is next among those that became ready on one increment, or that were ready when they were added: an
earlier one comes first unless its append has failed or a queue of its own holds it. -/
def State.waitTurn (s : State) (bent idx : Nat) (w : TaskWait) : Bool :=
  ((s.bentAt bent).waits.take idx).all fun x =>
    x.group != w.group || x.kern != w.kern || !s.waitReady x || x.failed.isSome || (x.queue != w.queue && !s.waitRoom bent x)

/-- TASKQ_READY_APPEND (13 R257): a ready entry is appended, those that became ready on one increment in TASKQ order. -/
def execTaskqReadyAppend (bent idx : Nat) (s : State) : Host.Outcome State Fault Refusal :=
  match (s.bentAt bent).waits[idx]? with
  | some w => .next (if w.failed = none && s.waitReady w && s.waitTurn bent idx w then s.appendWait bent idx w else s)
  | none => .next s

/-- TASKQ_APPEND_RETRY (13 R257): a failed append is tried again once its record is consumed. -/
def execTaskqAppendRetry (bent idx : Nat) (s : State) : Host.Outcome State Fault Refusal :=
  match (s.bentAt bent).waits[idx]? with
  | some w =>
    match w.failed with
    | some i => .next (if s.recordReady w.core w.kern && !s.recordOutstanding w.core w.kern i then s.appendWait bent idx { w with failed := none } else s)
    | none => .next s
  | none => .next s

/-! ### Donation (13 R258) -/

/-- DONATE (13 R258): the record is sent after a release at domain scope, and the slot waits for the code. -/
def execDonate (d a b : BitVec 5) (sc : BitVec 3) (s : State) : Host.Outcome State Fault Refusal :=
  issue (.donate d a b sc) [.g a, .g b] [.g d] s fun s =>
    let h := s.readG a
    let n := h.toNat
    let rsz := n / 2 ^ 32 % 32
    if n / 2 ^ 63 = 0 || n / 2 ^ 48 % 2 ^ 15 != 0 || n / 2 ^ 37 % 8 != 0 || n / 2 ^ 19 % 2 ^ 13 != 0 || n / 2 ^ 10 % 4 != 0 || n / 2 ^ 8 % 4 != 2 ||
        rsz = 0 || decide (16 < rsz) then s.trap Cause.spacePermission h 6
    else if n / 2 ^ 40 % 256 ≠ pkgOf s.cur ∧ !s.hasFeature 9 then s.trap Cause.spacePermission h 10
    else
      match s.readBlock (s.readG b) (rsz * 16) 16 true with
      | (s1, .trap c v t) => s1.trap c v t
      | (s1, .wait) => s1.wait
      | (s1, .ok v) => s1.released 5 fun s =>
        let id := s.core.nextReq
        (s.modCore fun c => { c with
          donations := c.donations ++ [{ id := id, slot := c.curSlot.val, d := d, handle := h, record := recordBytes (rsz * 16) v }]
          nextReq := id + 1 }).awaitReply id (stallOf sc)

/-- The code of a donation that is not accepted, for a queue that it found or not. -/
def donationCode (q : Option OpenQueue) (saved : Bool) (bytes : Nat) : Nat :=
  match q with
  | some q => if saved || q.kind != 2 || q.size != bytes then 2 else if q.full then 1 else 0
  | none => 2

/-- The end of a DONATE with its code. -/
def State.donated (s : State) (core : Nat) (x : Donation) (code : Nat) : State :=
  let r : Word := if code = 0 then 0 else BitVec.ofNat 64 (2 ^ 63 + code)
  let s1 := (s.modCoreAt core fun c => { c with donations := c.donations.filter fun y => y.id != x.id }).landSlot core x.slot
  ((s1.modSlotOf core x.slot fun sl =>
    { sl.setG x.d r false with
      pc := sl.pc + 4, nextIssue := Nat.max sl.nextIssue (s1.cycle + 1), run := .ready, fill := [], fillErr := [], walkFault := none }).modCoreAt core
      fun c => c.count 0x0 1).settle core x.slot

/-- DONATION_ARRIVAL (13 R258): a record reaches its engine, which queues it or refuses it, and the code returns; a target that no path
reaches has code 3.  Records of one cycle are taken in increasing core key, which is package and then core number. -/
def execDonationArrival (core req : Nat) (s : State) : Host.Outcome State Fault Refusal :=
  match (s.coreAt core).donations.find? fun x => x.id == req with
  | some x =>
    let bent := handleBent x.handle.toNat
    let e := x.handle.toNat % 256
    match s.route (dieOf core) (dieOfBent bent) with
    | .wait => .next s
    | .error _ => .next (s.donated core x 3)
    | .go =>
      let q := AMap.find? (s.bentAt bent).queues e
      let saved := match q with
        | some q => s.queueSaved q
        | none => false
      let code := donationCode q saved x.record.length
      match q with
      | some q =>
        if code ≠ 0 then .next (s.donated core x code)
        else
          match s.engineRange bent (s.queueSpace bent q) .store (q.slotAddress q.enqcnt) q.size 2 with
          | (s1, .ok pieces) => .next (((s1.taking bent 1 core).appendAt bent e q pieces (packLanes 8 (x.record.map BitVec.toNat))).donated core x 0)
          | _ => .next s
      | none => .next (s.donated core x code)
  | none => .next s

end Sys2Proof.Machine
end

