-- ==== Sys2Proof/Machine/Messages.lean ====
section
/-!
DEFINITION. Messages (17): buffered sends, delivery to mailboxes and channels, wakes and handlers, posted receives and the receive
engine of a die.

Readings of the manual and choices that this file codes: assumption log 84, 85, 86.
-/
namespace Sys2Proof.Machine

open Sys2Proof

/-! ### Destination words (17 table 17.1) -/

/-- Whether a destination word has KIND 3, a reserved bit set or a field out of range; block tells SENDB from SENDI. -/
def State.destRefused (s : State) (w : Word) (block : Bool) : Bool :=
  let n := w.toNat
  let kind := n / 2 ^ 62
  let ilen := n / 2 ^ 56 % 64
  let ranks := match s.kernelAt (pkgOf s.cur) s.kern with
    | some k => k.cores.length
    | none => 1
  kind = 3 || n / 2 ^ 53 % 8 != 0 || (block && (kind != 2 || ilen != 0)) || (kind = 0 && decide (47 < ilen)) ||
    (if kind = 2 then n / 2 ^ 40 % 2 ^ 11 != 0
     else n / 2 ^ 51 % 4 != 0 || n / 2 ^ 32 % 256 != 0 || decide (ranks ≤ n / 2 ^ 40 % 2 ^ 11)) ||
    (kind = 1 && n / 2 ^ 16 % 2 ^ 16 != 0)

/-- Whether a destination word needs a feature that is not accepted. -/
def State.destFeature (s : State) (w : Word) : Bool :=
  w.toNat / 2 ^ 62 = 2 && (!s.hasFeature 6 || (w.toNat / 2 ^ 32 % 256 != pkgOf s.cur && !s.hasFeature 9))

/-- Adds a send to those of the current task. -/
def State.bufferSend (s : State) (b : BufferedSend) : State :=
  (s.modSlot fun sl => { sl with sends := sl.sends ++ [{ b with uid := s.core.nextCmd, after := s.fencedFor 2 }] }).takeUid

/-- SENDI (17 R319). -/
def execSendi (a b : BitVec 5) (sc : BitVec 3) (s : State) : Host.Outcome State Fault Refusal :=
  issue (.sendi a b sc) [.g a, .g b] [] s fun s =>
    let w := s.readG a
    let n := w.toNat / 2 ^ 56 % 64 + 1
    if s.destRefused w false then s.trap Cause.spacePermission w 6
    else if s.destFeature w then s.trap Cause.spacePermission w 10
    else
      match (if b = 0 then (s, .ok 0) else s.readBlock (s.readG b) n 8 true) with
      | (s1, .trap c v t) => s1.trap c v t
      | (s1, .wait) => s1.wait
      | (s1, .ok v) =>
        if 32 ≤ s1.slot.sends.length then s1.trap Cause.queueOverflow w 6
        else
          (s1.bufferSend
            { block := false, dest := w, payload := BitVec.ofNat 512 v, fmt := if b = 0 then 0 else BitVec.ofNat 5 (formatOf (s.readG b)),
              sendId := 0 }).retire (stallOf sc)

/-- A transfer that has only a linear source side: the SRC and LEN of a send block. -/
def sendSource (sup : Bool) (src len : Nat) : Transfer :=
  { slot := 0, chan := 0, seq := 0, sup := sup, shape := {}, cx := [(0, BitVec.ofNat 64 src), (2, BitVec.ofNat 64 len)] }

/-- The error code of a send block in image v with destination word w (17 R320). -/
def State.sendbError (s : State) (w : Word) (v : Nat) : Option Nat :=
  let src := BitVec.ofNat 64 (descWord v 0)
  let len := descWord v 1
  let act := descWord v 2
  let sup : Bool := s.slot.mode ≠ .task
  (List.find? (fun (p : Bool × Nat) => p.1)
    [(len = 0 || barReserved act || descWord v 3 != 0, 0x01),
     (!descriptorOk s.hasFeature src, 0x03),
     (decide (3 < spaceOf src), 0x04),
     (s.ctx.pastWindow sup src (offsetOf src, offsetOf src + len), 0x05),
     (offsetOf src % formatBytes (formatOf src) != 0 || len * 8 % formatBits (formatOf src) != 0, 0x07),
     (s.barRefused act, 0x0C),
     (decide (2 ^ 32 < len), 0x0D),
     (s.destRefused w true || s.destFeature w, 0x0E)]).map Prod.snd

/-- SENDB (17 R320). -/
def execSendb (d a b : BitVec 5) (sc : BitVec 3) (s : State) : Host.Outcome State Fault Refusal :=
  issue (.sendb d a b sc) [.g a, .g b] [.g d] s fun s =>
    let w := s.readG a
    match s.readBlock (s.readG b) 32 32 true with
    | (s1, .trap c v t) => s1.trap c v t
    | (s1, .wait) => s1.wait
    | (s1, .ok v) =>
      match s1.sendbError w v with
      | some code => (s1.putG d (BitVec.ofNat 64 (2 ^ 63 + code)) 2 false).retire (stallOf sc)
      | none =>
        if 32 ≤ s1.slot.sends.length then s1.trap Cause.queueOverflow w 6
        else
          let id := nextSeq s1.core.sendCtr
          ((((s1.modCore fun c => { c with sendCtr := id }).bufferSend
            { block := true, dest := w, payload := BitVec.ofNat 512 v, fmt := BitVec.ofNat 5 (formatOf (BitVec.ofNat 64 (descWord v 0))), sendId := id,
              bar := s1.barResolved (descWord v 2), sup := s1.slot.mode ≠ .task }).putG d (id.setWidth 64) 2 false).retire (stallOf sc))

/-! ### Packets (17 R321, R322) -/

/-- The position of the first injected packet of a core that p selects and that no earlier packet to its target precedes. -/
def Core.nextPacket (c : Core) (p : Packet → Bool) : Option (Nat × Packet) :=
  (List.range c.inject.length).findSome? fun i => (c.inject[i]?).bind fun x =>
    if x.injected && p x && (c.inject.take i).all (fun y => y.target != x.target) then some (i, x) else none

/-- A refused packet waits 256 cycles, then twice as long at each refusal up to 16,384. -/
def State.refusePacket (s : State) (core i : Nat) (p : Packet) : State :=
  let b := if p.backoff = 0 then 256 else Nat.min 16384 (2 * p.backoff)
  s.setPacket core i { p with refused := true, backoff := b, due := s.cycle + b }

/-- The mailbox entry of a core message (17 table 17.4). -/
def mailEntry (kind src : Nat) (p : Packet) (id : BitVec 32) : Vec :=
  let w := p.send.dest.toNat
  let head := kind * 2 ^ 56 + w / 2 ^ 56 % 64 * 2 ^ 50 + src % 256 * 2 ^ 40 + p.rank * 2 ^ 29
  BitVec.ofNat 512 (head + 2 ^ 64 * (id.toNat * 2 ^ 32 + w % 2 ^ 32) + 2 ^ 128 * (p.send.payload.toNat % 2 ^ 384))

/-- Places a packet in the mailbox of a context, or refuses it. -/
def State.placeMail (s : State) (core i : Nat) (p : Packet) (target kind : Nat) : State :=
  let c := s.ctxOf target p.kern
  if 64 ≤ c.mailbox.length then s.refusePacket core i p
  else
    ((s.dropPacket core i).modCtxOf target p.kern fun c =>
      { c with msgCtr := c.msgCtr + 1, mailbox := c.mailbox ++ [mailEntry kind (pkgOf core) p (c.msgCtr + 1)] }).setEvents target p.kern

/-- Whether a channel of a context can take an entry for a tag: it has room, or it is none of the sixteen that hold entries and there are fewer
(17 R318). -/
def Ctx.channelRoom (c : Ctx) (tag : Nat) : Bool :=
  match AMap.find? c.channels tag with
  | some l => decide (l.length < 16)
  | none => decide (c.channels.length < 16)

/-- Delivers a packet of KIND 0 or 1 to the context of its rank (17 R322).  A context that has moved since the packet was sent refuses it, like
one that is saved. -/
def State.deliverPacket (s : State) (core i : Nat) (p : Packet) : State :=
  match p.toCore with
  | none => s.failPacket core i p
  | some target =>
    match s.route (dieOf core) (dieOf target) with
    | .wait => s
    | .error _ => s.failPacket core i p
    | .go =>
      let c := s.ctxOf target p.kern
      if s.rankCore (pkgOf core) p.kern p.rankTo ≠ some target && (s.rankCore (pkgOf core) p.kern p.rankTo).isSome then s.refusePacket core i p
      else if !s.hasCtx target p.kern || (c.state = .free && c.entry.isNone) || c.state = .faulted then s.failPacket core i p
      else if !c.takesMail || c.state = .free then s.refusePacket core i p
      else if p.kind = 0 then s.placeMail core i p target 3
      else
        let tag := p.send.dest.toNat % 2 ^ 16
        match List.find? (fun (b : Nat × Binding) => b.2.bound && b.2.kind = 3 && b.2.tag = tag) c.bindings with
        | none => s.placeMail core i p target 4
        | some _ =>
          if !c.channelRoom tag then s.refusePacket core i p
          else
            let s1 := (s.dropPacket core i).modCtxOf target p.kern fun c =>
              { c with channels := AMap.set c.channels tag (AMap.getD c.channels tag [] ++ [p.send.payload]) }
            (c.bindings.filter fun b => b.2.bound && b.2.kind = 3 && b.2.tag = tag).foldl (fun s b => s.notify target p.kern b.2) s1

/-- PACKET_DELIVERY: the first mailbox or route-tag packet of an injection queue that is on its way reaches its rank. -/
def execPacketDelivery (core : Nat) (s : State) : Host.Outcome State Fault Refusal :=
  let s1 := s.injectAll core
  .next (match (s1.coreAt core).nextPacket fun p => p.kind != 2 && !p.refused with
    | some (i, p) => s1.deliverPacket core i p
    | none => s1)

/-- SEND_ERROR_REPLY: the error of a dropped send goes to the fault record of the sending context. -/
def execSendErrorReply (core : Nat) (s : State) : Host.Outcome State Fault Refusal :=
  .next (match (s.coreAt core).sendErrors with
    | (kern, rank, cause, addr) :: rest =>
      let s1 := s.modCoreAt core fun c => { c with sendErrors := rest }
      (match s.rankCore (pkgOf core) kern rank with
       | some k => if s.saveAreaQuiet k kern 0x600 64 then s1.recordErrors k kern cause addr 1 else s
       | none => s1)
    | [] => s)

/-! ### Wakes and handlers (17 R323 to R325) -/

/-- QWAKE (17 R323). -/
def execQwake (a b : BitVec 5) (sc : BitVec 3) (s : State) : Host.Outcome State Fault Refusal :=
  issue (.qwake a b sc) [.g a, .g b] [] s fun s =>
    let x := s.readG a
    let n := x.toNat % 8
    let q := s.binding n
    if x.toNat / 8 ≠ 0 then s.trap Cause.spacePermission x 6
    else if !q.bound || (q.kind != 2 && q.kind != 3) then s.trap Cause.illegal ((encode (.qwake a b sc)).setWidth 64)
    else (s.setBinding n { q with wake := s.readG b }).retire (stallOf sc)

/-- MSGDONE (17 R325).  Sends that find the injection queue full wait behind it. -/
def execMsgdone (sc : BitVec 3) (s : State) : Host.Outcome State Fault Refusal :=
  issue (.msgdone sc) [] [] s fun s =>
    match s.slot.handler with
    | some h =>
      if h.released || h.aborted then s.retire (stallOf sc)
      else ((s.injectSends s.cur s.core.curSlot.val).modSlot fun sl => { sl with handler := some { h with released := true } }).retire (stallOf sc)
    | none => s.retire (stallOf sc)

/-- Whether a slot of a context runs a task that p selects. -/
def Core.runs (c : Core) (kern : Nat) (p : Slot → Bool) : Bool := c.slots.toList.any fun sl => sl.ctx = some kern && sl.run ≠ .free && p sl

/-- HANDLER_START: a mailbox with a wake entry starts a handler on its head entry in a free slot (17 R323). -/
def execHandlerStart (core kern queue : Nat) (s : State) : Host.Outcome State Fault Refusal :=
  let c := s.ctxOf core kern
  let b := AMap.getD c.bindings queue {}
  .next (if !b.bound || b.kind != 2 || b.wake = 0 || !c.starts || (s.coreAt core).runs kern (fun sl => sl.handler.isSome) then s
    else
      match c.mailbox, (s.coreAt core).freeSlot kern with
      | e :: rest, some slot =>
        (((s.modCtxOf core kern fun c => { c with mailbox := rest }).refill core kern).notify core kern b).startTask core slot kern
          { kind := 6, pc := b.wake, v0 := e, handler := some { queue := queue, entry := e, released := false }
            regs := [(4, e.setWidth 64), (5, (e >>> 64).setWidth 64), (6, BitVec.ofNat 64 queue)] }
      | _, _ => s)

/-- WAKE_TASK_START: a channel with a wake entry starts a task in a free slot (17 R323). -/
def execWakeTaskStart (core kern queue : Nat) (s : State) : Host.Outcome State Fault Refusal :=
  let c := s.ctxOf core kern
  let b := AMap.getD c.bindings queue {}
  .next (if !b.bound || b.kind != 3 || b.wake = 0 || !c.starts || (s.coreAt core).runs kern (fun sl => sl.wakeOf = some queue) ||
        (AMap.getD c.channels b.tag []).isEmpty then s
    else
      match (s.coreAt core).freeSlot kern with
      | some slot => s.startTask core slot kern { kind := 5, pc := b.wake, regs := [(4, BitVec.ofNat 64 queue)], wakeOf := some queue }
      | none => s)

/-! ### Posts (17 R326, R327, R330) -/

/-- Capacity of a post in bytes. -/
def Post.capacity (p : Post) : Nat := p.transfer.elemBytes

/-- Whether a post lands in local stores. -/
def Post.local_ (p : Post) : Bool := spaceOf p.transfer.dst != 0

/-- Whether a message matches a post (17 R327). -/
def Post.matches_ (p : Post) (m : TwoSided) : Bool :=
  let src := m.pkg % 256 * 2 ^ 11 + m.rank
  p.asid = m.asid && Nat.land (Nat.xor src (p.word 0 % 2 ^ 19)) (p.word 0 / 2 ^ 32 % 2 ^ 19) = 0 &&
    Nat.land (Nat.xor m.tag.toNat (p.word 1 % 2 ^ 32)) (p.word 1 / 2 ^ 32) = 0

/-- The error code of a receive descriptor (17 R326). -/
def State.rpostError (s : State) (p : Post) : Option Nat :=
  let t := p.transfer
  let w3 := p.word 3
  let act := p.word 5
  let d := s.dieAt (dieOf s.cur)
  let past := s.ctx.pastWindow p.sup t.dst (t.range true)
  (List.find? (fun (x : Bool × Nat) => x.1)
    [(p.word 0 / 2 ^ 51 != 0 || p.word 0 / 2 ^ 19 % 2 ^ 13 != 0 || t.kind = 1 || t.kind = 3 || w3 / 2 ^ 33 % 2 ^ 29 != 0 ||
        (t.kind = 0 && (t.len = 0 || decide (2 ^ 32 < t.len))) || (t.kind = 2 && w3 % 2 ^ 33 / 8 != 0) || (if t.kind = 0 then p.word 4 != 0 else p.word 4 / 2 ^ 48 != 0) ||
        barReserved act || p.word 6 != 0 || p.word 7 != 0, 0x01),
     (t.kind = 2 && t.shape.ndim = 0, 0x12),
     (!descriptorOk s.hasFeature t.dst, 0x03),
     (decide (4 < spaceOf t.dst) || s.foreignStore t.dst, 0x04),
     (past, 0x05),
     (if t.kind = 0 then offsetOf t.dst % formatBytes (t.format true) != 0 || t.len * 8 % formatBits (t.format true) != 0
        else (if 16 ≤ t.shape.fmt then t.orig 0 % (2 ^ (t.shape.blog + 3) : Nat) != 0 else t.orig 0 * (formatBits t.shape.fmt : Nat) % 8 != 0), 0x07),
     (s.barRefused act, 0x0C),
     (t.clipped, 0x0F),
     (act / 2 ^ 61 = 0, 0x10),
     (decide (4096 ≤ d.posts.length) ||
        (p.local_ && decide (128 ≤ (d.posts.filter fun x => x.core = s.cur && x.kern = s.kern && x.local_).length)), 0x11)]).map Prod.snd

/-- Takes a post to the list of its die, or to the oldest unexpected message that it matches: whether one matched. -/
def State.enterPost (s : State) (die : Nat) (p : Post) : State × Bool :=
  match (s.dieAt die).umq.findIdx? (p.matches_) with
  | some i =>
    (s.modDieAt die fun d =>
      match d.umq[i]? with
      | some m => { d with umq := d.umq.eraseIdx i, landings := d.landings ++ [{ post := p, msg := m, clear := !m.rendezvous }] }
      | none => d, true)
  | none => (s.modDieAt die fun d => { d with posts := d.posts ++ [p] }, false)

/-- RPOST (17 R326). -/
def execRpost (d a b : BitVec 5) (sc : BitVec 3) (s : State) : Host.Outcome State Fault Refusal :=
  issue (.rpost d a b sc) [.g a, .g b] [.g d] s fun s =>
    match s.readBlock (s.readG a) 64 64 true with
    | (s1, .trap c v t) => s1.trap c v t
    | (s1, .wait) => s1.wait
    | (s1, .ok v) =>
      let id := nextSeq s1.ctx.postCtr
      let words := (List.range 8).map fun i => BitVec.ofNat 64 (descWord v i)
      let shaped := descWord v 3 / 2 ^ 62 = 2
      let p : Post :=
        { id := id, core := s1.cur, kern := s1.kern, asid := s1.ctx.asid, words := words, cookie := s1.readG b, sup := s1.slot.mode ≠ .task
          shape := if shaped then AMap.getD s1.ctx.shapes (descWord v 3 % 8) {} else {}
          bar := s1.barResolved (descWord v 5) }
      match s1.rpostError p with
      | some code => (s1.putG d (BitVec.ofNat 64 (2 ^ 63 + code)) 12 false).retire (stallOf sc)
      | none =>
        if !s1.core.mayBegin (s1.fencedFor 3) then s1.wait
        else s1.released 1 fun s =>
          let q := ((s.modCtx fun c => { c with postCtr := id }).barRef p.bar true).enterPost (dieOf s.cur) p
          (q.1.putG d (BitVec.ofNat 64 (id.toNat + (if q.2 then 2 ^ 62 else 0))) 12 false).retire (stallOf sc)

/-- RCANCEL (17 R330). -/
def execRcancel (d a : BitVec 5) (sc : BitVec 3) (s : State) : Host.Outcome State Fault Refusal :=
  issue (.rcancel d a sc) [.g a] [.g d] s fun s =>
    let x := s.readG a
    let id : BitVec 32 := x.setWidth 32
    let mine (p : Post) : Bool := p.core = s.cur && p.kern = s.kern && p.id = id
    let answer (s : State) (n : Nat) := (s.putG d (BitVec.ofNat 64 n) 12 false).retire (stallOf sc)
    if x.toNat / 2 ^ 32 ≠ 0 then s.trap Cause.spacePermission x 6
    else
      match s.dies.findSome? (fun e => (e.2.posts.find? mine).map fun p => (e.1, p)) with
      | some (n, p) =>
        answer (((s.modDieAt n fun d => { d with posts := d.posts.filter fun p => !mine p }).modCtx fun c => { c with cancelled := c.cancelled ++ [id] }).barRef
          p.bar false) 0
      | none =>
        if s.dies.any fun e => e.2.landings.any fun l => mine l.post then answer s 1
        else if id = 0 ∨ s.ctx.postCtr.toNat < id.toNat ∨ s.ctx.cancelled.contains id then answer s 3
        else answer s 2

/-! ### The receive engine (17 R327 to R331) -/

/-- Bytes that a message takes in the UMQ. -/
def TwoSided.room (m : TwoSided) : Nat := 64 + (if m.rendezvous then 0 else (m.len + 63) / 64 * 64)

/-- An arrival at the receive engine of a die: the first matching post, or the tail of the UMQ; none where the UMQ lacks room. -/
def State.enterMessage (s : State) (die : Nat) (m : TwoSided) : Option State :=
  let d := s.dieAt die
  match d.posts.findIdx? (fun p => p.matches_ m) with
  | some i =>
    some (s.modDieAt die fun d =>
      match d.posts[i]? with
      | some p => { d with posts := d.posts.eraseIdx i, landings := d.landings ++ [{ post := p, msg := m, clear := !m.rendezvous }] }
      | none => d)
  | none =>
    if d.umq.foldl (fun n x => n + x.room) m.room ≤ 2 ^ ((s.pkgAt (die / 4)).umqsize.toNat + 20) then
      some (s.modDieAt die fun d => { d with umq := d.umq ++ [m] })
    else none

/-- The header of a packet to a receive engine. -/
def Packet.header (p : Packet) (core : Nat) : TwoSided :=
  let v := p.send.payload.toNat
  { core := core, kern := p.kern, pkg := pkgOf core, rank := p.rank, asid := p.asid, tag := BitVec.ofNat 32 p.send.dest.toNat, fmt := p.send.fmt.toNat
    len := p.len, bytes := [], rendezvous := p.send.block && !p.eager, sendId := p.send.sendId
    src := if p.send.block then BitVec.ofNat 64 (descWord v 0) else 0
    act := BitVec.ofNat 64 p.act
    bar := p.send.bar, sup := p.send.sup }

/-- An injected packet of KIND 2 reaches its engine (17 R327, R328).  Where no path leads there it is dropped with an error reply; a header whose
block has not been read ends its send with STATUS 3. -/
def State.sendTwoSided (s : State) (core i : Nat) (p : Packet) : State :=
  let die := destDie p.send.dest
  match s.route (dieOf core) die with
  | .wait => s
  | .error _ => if p.send.block && !p.eager then s.sendFailed core i p else s.failPacket core i p
  | .go =>
    match s.enterMessage die { p.header core with bytes := p.bytes } with
    | some s1 => s1.dropPacket core i
    | none => s.refusePacket core i p

/-- RECEIVE_ARRIVAL: the first two-sided message of an injection queue that is on its way reaches its receive engine. -/
def execReceiveArrival (core : Nat) (s : State) : Host.Outcome State Fault Refusal :=
  let s1 := s.injectAll core
  .next (match (s1.coreAt core).nextPacket fun p => p.kind = 2 && !p.refused with
    | some (i, p) => s1.sendTwoSided core i p
    | none => s1)

/-- PACKET_RETRY: the first refused packet whose back-off has passed is sent again (17 R322, R327), to the core that holds its rank then. -/
def execPacketRetry (core : Nat) (s : State) : Host.Outcome State Fault Refusal :=
  .next (match (s.coreAt core).nextPacket fun p => p.refused && decide (p.due ≤ s.cycle) with
    | some (i, p) =>
      if p.kind = 2 then s.sendTwoSided core i p
      else s.deliverPacket core i { p with toCore := s.rankCore (pkgOf core) p.kern p.rankTo }
    | none => s)

/-- Replaces a landing of a die, or removes it. -/
def State.setLanding (s : State) (die idx : Nat) (l : Option Landing) : State :=
  s.modDieAt die fun d => { d with landings := match l with
    | some x => d.landings.set idx x
    | none => d.landings.eraseIdx idx }

/-- CLEAR_TO_SEND: the engine answers a matched rendezvous header (17 R328). -/
def execClearToSend (die idx : Nat) (s : State) : Host.Outcome State Fault Refusal :=
  .next (match (s.dieAt die).landings[idx]? with
    | some l => if l.clear || s.route die (dieOf l.msg.core) = .wait then s else s.setLanding die idx (some { l with clear := true })
    | none => s)

/-- How a payload lands: 0 unchanged, 1 converted, 2 refused (17 R329). -/
def landingKind (f g : Nat) : Nat :=
  if f = g ∨ f = 0 ∨ g = 0 then 0
  else if f = 6 ∧ (g = 7 ∨ g = 8) ∨ (f = 7 ∨ f = 8) ∧ g = 6 then 1
  else 2

/-- The floating format of codes 6 to 8. -/
def landingFmt (f : Nat) : Fmt := if f = 6 then .fp32 else if f = 7 then .bf16 else .fp16

/-- The kind of a landing. -/
def Landing.kind (l : Landing) : Nat := landingKind l.msg.fmt (l.post.transfer.named true).1

/-- Bytes of source for n bytes of destination, or the other way round, in whole elements (assumption log 134). -/
def Landing.scale (l : Landing) (n : Nat) (toSource : Bool) : Nat :=
  let f := formatBits l.msg.fmt / 8
  let g := formatBits (l.post.transfer.named true).1 / 8
  if l.kind = 1 then (if toSource then n / g * f else n / f * g) else n

/-- Destination bytes of a landing. -/
def Landing.total (l : Landing) : Nat := if l.kind = 2 then 0 else Nat.min (l.scale l.msg.len false) l.post.capacity

/-- The converted bytes of a run of a landing (17 R329). -/
def Landing.convert (l : Landing) (v n : Nat) : Nat :=
  if l.kind = 1 then
    let f := landingFmt l.msg.fmt
    let g := landingFmt (l.post.transfer.named true).1
    packLanes g.width ((List.range (n * 8 / g.width)).map fun i => roundF g .rne (decodeF f (v / 2 ^ (f.width * i) % 2 ^ f.width)))
  else v

/-- The source bytes of a run of a landing; the sender of a rendezvous is its rank's context, which must be on its core. -/
def State.landingSource (s : State) (l : Landing) (n : Nat) : State × Except SideStop Nat :=
  let m := l.msg
  let o := l.scale l.done true
  let k := l.scale n true
  if !m.rendezvous then (s, .ok (ofBytes ((m.bytes.drop o).take k)))
  else
    match s.rankCore m.pkg m.kern m.rank with
    | none => (s, .error (.error 4 m.src))
    | some core =>
      let c := s.ctxOf core m.kern
      if !c.takesMail then (s, .error .wait)
      else s.sideRead core m.kern m.sup (movePtr m.src (o : Nat)) k

/-- Whether a run of n bytes may land next at byte o of a row of a landing. -/
def Landing.mayLand (l : Landing) (row : CopyRow) (o n : Nat) : Bool :=
  decide (o + n ≤ row.bytes) && n != 0 && (row.cut (o + n) || l.done + n = l.total) && decide (l.done + n ≤ l.total) &&
    (l.kind != 1 || n * 8 % formatBits (l.post.transfer.named true).1 = 0)

/-- A piece of a landing that stopped: on the sender's side or not. -/
abbrev PieceStop := Bool × SideStop

/-- Lands the next n bytes of a landing; none where they are no landing. -/
def State.landMessage (s : State) (l : Landing) (n : Nat) : Option (State × Except PieceStop Unit) :=
  let p := l.post
  let t := p.transfer
  match s.copyAt p.core p.kern t l.done with
  | (s1, .error e) => some (s1, .error (false, e))
  | (s1, .ok (r, o)) =>
    if t.rows ≤ r then none
    else
      match s1.copyRow p.core p.kern t r with
      | (s2, .error e) => some (s2, .error (false, e))
      | (s2, .ok row) =>
        if !l.mayLand row o n then none
        else
          match s2.landingSource l n with
          | (s3, .error e) => some (s3, .error (true, e))
          | (s3, .ok v) =>
            match s3.sideWrite p.core p.kern p.sup (movePtr row.dst (o : Nat)) n (l.convert v n) with
            | (s4, some e) => some (s4, .error (false, e))
            | (s4, none) => some (s4, .ok ())

/-- The end of a landing (17 R329) whose last n bytes are still to be counted: the receiver's events with a status, in the order of 15 R296, its
barrier reference, and for a rendezvous the sender's events. -/
def State.endLanding (s : State) (die idx : Nat) (l : Landing) (status : Nat) (n : Nat := 0) : State :=
  let p := l.post
  let m := l.msg
  let entry := packLanes 64 [5 * 2 ^ 56 + status * 2 ^ 48 + p.id.toNat, m.sendId.toNat * 2 ^ 32 + m.tag.toNat, m.pkg % 256 * 2 ^ 11 + m.rank, l.done, m.len,
    p.cookie.toNat]
  let s1 := (s.setLanding die idx none).barCount p.bar p.kern n p.core
    (doneEvents (pkgOf p.core) p.kern (s.ctxOf p.core p.kern).rank.toNat (p.word 5) (BitVec.ofNat 512 entry) ++ [.free p.bar])
  if m.rendezvous then
    match s1.rankCore m.pkg m.kern m.rank with
    | some core => s1.sendDone core m.kern m.rank m.act.toNat m.bar m.sendId m.len (if status = 3 then 3 else 0)
    | none => s1
  else s1

/-- The status of a landing that ends after its last byte. -/
def Landing.status (l : Landing) : Nat := if l.kind = 2 then 2 else if l.post.capacity < l.scale l.msg.len false then 1 else 0

/-- What follows a landed run: its bytes count on the barrier, and the landing ends with its last byte. -/
def State.advanceLanding (s : State) (die idx : Nat) (l : Landing) (n : Nat) : State :=
  let x := { l with done := l.done + n, fault := none }
  if x.done = x.total then s.endLanding die idx x x.status n
  else (s.barCount l.post.bar l.post.kern n l.post.core).setLanding die idx (some x)

/-- MESSAGE_LANDING: the next count bytes of a landing land; with no byte to land it ends (17 R329). -/
def execMessageLanding (die idx count : Nat) (s : State) : Host.Outcome State Fault Refusal :=
  .next (match (s.dieAt die).landings[idx]? with
    | some l =>
      if !l.clear || s.faultOpen l.fault then s
      else if count = 0 then (if l.total = l.done then s.endLanding die idx l l.status else s)
      else
        (match s.landMessage l count with
         | some (s1, .ok _) => s1.advanceLanding die idx l count
         | _ => s)
    | none => s)

/-- The least run that may land next. -/
def State.leastRun (s : State) (l : Landing) : Nat :=
  let p := l.post
  let t := p.transfer
  match s.copyAt p.core p.kern t l.done with
  | (s1, .ok (r, o)) =>
    (match s1.copyRow p.core p.kern t r with
     | (_, .ok row) =>
       (([landingUnit row.dst - (offsetOf row.dst + o) % landingUnit row.dst, row.bytes - o].filter (l.mayLand row o)).foldl Nat.min (l.total - l.done))
     | (_, .error _) => 1)
  | (_, .error _) => 1

/-- LANDING_FAULT: a landing cannot go on (17 R331).  A translation fault goes to the supervisor queue of the context on its side; one that
the supervisor could not service, and any error, ends the message with STATUS 3. -/
def execLandingFault (die idx : Nat) (s : State) : Host.Outcome State Fault Refusal :=
  .next (match (s.dieAt die).landings[idx]? with
    | some l =>
      if !l.clear || s.faultOpen l.fault || l.total = l.done then s
      else
        (match s.landMessage l (s.leastRun l) with
         | some (_, .error (sender, e)) =>
           (match e with
            | .wait => s
            | .error _ _ => s.endLanding die idx l 3
            | .fault a _ =>
              if e.repeats l.fault then s.endLanding die idx l 3
              else
                let core := if sender then (s.rankCore l.msg.pkg l.msg.kern l.msg.rank).getD l.msg.core else l.post.core
                (match s.recordMessageFault sender core (if sender then l.msg.kern else l.post.kern) (if sender then l.msg.sendId else l.post.id) a l.done with
                 | some (s1, f) => s1.setLanding die idx (some { l with fault := some f })
                 | none => s))
         | _ => s)
    | none => s)

end Sys2Proof.Machine
end

