-- ==== Sys2Proof/Machine/Pages.lean ====
section
/-!
DEFINITION. Pages: subscriptions (08 R183 to R185), the page walkers and the miss table (21 R371, R375), writes to page-table lines (08
R186, 21 R376, R377) and rehoming (21 R378, R379).

Readings of the manual and choices that this file codes: assumption log 51, 52, 53, 54, 55, 121.
-/
namespace Sys2Proof.Machine

open Sys2Proof

/-! ### Subscriptions -/

/-- The lines of a page that a bent holds in any of its caches. -/
def State.heldLines (s : State) (bent page : Nat) : List Nat :=
  ((List.range 128).map (page * 128 + ·)).filter fun l => AMap.has (s.bentAt bent).l2 l || (coresOfBent bent).any fun k => AMap.has (s.coreAt k).l1 l

/-- Whether the lines of a page that a bent holds are settled. -/
def State.pageQuiet (s : State) (bent page : Nat) : Bool := (s.heldLines bent page).all (s.quiet bent)

/-- The status word of a refused SUBS (08 table 8.7). -/
def subsError (code : Nat) : Word := BitVec.ofNat 64 (2 ^ 63 + code * 2 ^ 56)

/-- Adds a lease of a context, or extends the one it has (08 R184). -/
def addLease (l : List Lease) (core kern expiry length : Nat) : List Lease :=
  if l.any fun x => x.core = core && x.kern = kern then
    l.map fun x => if x.core = core && x.kern = kern then { x with expiry := Nat.max x.expiry expiry, length := length } else x
  else l ++ [⟨core, kern, expiry, length⟩]

/-- The expiry of the lease of a context on a page. -/
def State.leaseExpiry (s : State) (bent page core kern : Nat) : Nat :=
  (((AMap.getD (s.bentAt bent).subs page []).find? fun x => x.core = core && x.kern = kern).map Lease.expiry).getD 0

/-- The answer of a subscription: its end, a refusal with its code, an unreachable home with its reply code, or a wait. -/
inductive SubsAnswer where
  | expiry (t : Nat)
  | refused (code : Nat)
  | error (code : Nat)
  | wait
deriving DecidableEq, Repr

/-- Subscribes the bent of a core to a page for a context until a time (08 R184).  The lines of a page lie on all three stacks of its home
die, whose directories therefore hold the same entries; a full directory refuses a page only where the page needs a new entry
(assumption log 127). -/
def State.subscribe (s : State) (core kern page expiry length : Nat) : State × SubsAnswer :=
  let bent := bentOf core
  let home := homeOf (page * 2 ^ 15)
  let lease (s : State) : State × SubsAnswer :=
    let s1 := s.modBentAt bent fun b => { b with subs := AMap.set b.subs page (addLease (AMap.getD b.subs page []) core kern expiry length) }
    (s1, .expiry (s1.leaseExpiry bent page core kern))
  if (s.rehomeOf page).isSome then (s, .wait)
  else if s.subscribed bent page then lease s
  else if 256 ≤ (s.bentAt bent).subs.length then (s, .refused 1)
  else
    match s.homeRoute bent (page * 2 ^ 15) with
    | .wait => (s, .wait)
    | .error c => (s, .error c)
    | .go =>
      let dir := (s.dieAt home).subDir 0
      if !AMap.has dir page && decide (8192 ≤ dir.length) then (s, .refused 2)
      else if 16 ≤ (AMap.getD dir page []).length then (s, .refused 3)
      else if !s.pageQuiet bent page then (s, .wait)
      else
        let s1 := s.modDieAt home fun d => d.modSubDirs fun m => AMap.set m page (AMap.getD m page [] ++ [bent])
        lease ((s.heldLines bent page).foldl (fun s l => s.dropLine bent l) s1)

/-- SUBS (08 R184). -/
def execSubs (d a b : BitVec 5) (sc : BitVec 3) (s : State) : Host.Outcome State Fault Refusal :=
  issue (.subs d a b sc) [.g a, .g b] [.g d] s fun s =>
    let x := s.readG a
    let n := (s.readG b).toNat
    let answer (s : State) (v : Word) := (s.putG d v 14 false).retire (stallOf sc)
    match s.checkAccess .load 1 x with
      | (s1, .trap c v t) => s1.trap c v t
      | (s1, .ok (.mem pa _)) =>
        if n = 0 ∨ n / 2 ^ 20 ≠ 0 then answer s1 (subsError 4)
        else
          match s1.subscribe s1.cur s1.kern (pa / 2 ^ 15) (s1.time (pkgOf s1.cur) + 1000 * n) n with
          | (s2, .expiry t) => answer s2 (BitVec.ofNat 64 (t % 2 ^ 56))
          | (s2, .refused c) => answer s2 (subsError c)
          | (s2, .error c) => s2.trap Cause.remoteError x (BitVec.ofNat 64 c)
          | (s2, .wait) => s2.wait
      | (s1, .ok _) => s1.trap Cause.spacePermission x
      | (s1, .wait) => s1.wait

/-- The base page that an address of the current context maps to, if any. -/
def State.pageOf (s : State) (va : Nat) : Option Nat :=
  if s.slot.ctx = none then some (va / 2 ^ 15)
  else
    match s.walk (bentOf s.cur) s.ctx.asid s.ctx.ptroot va with
    | .leaf level pte _ _ => some (leafPA level pte va / 2 ^ 15)
    | .fault _ _ => none

/-- UNSUBS (08 R185): an unmapped address, a page without a lease and an address of another space that passes check 4 are no effect. -/
def execUnsubs (a : BitVec 5) (sc : BitVec 3) (s : State) : Host.Outcome State Fault Refusal :=
  issue (.unsubs a sc) [.g a] [] s fun s =>
    let x := s.readG a
    if spaceOf x ≠ 0 then
      match s.checkAccess .load 1 x with
      | (s1, .trap c v t) => s1.trap c v t
      | (s1, _) => s1.retire (stallOf sc)
    else if !descriptorOk s.hasFeature x then s.trap Cause.descriptor x
    else
      match s.pageOf (offsetOf x) with
      | some page =>
        if !s.pageQuiet (bentOf s.cur) page then s.wait
        else (s.dropLeases (bentOf s.cur) fun p l => p = page && l.core = s.cur && l.kern = s.kern).retire (stallOf sc)
      | none => s.retire (stallOf sc)

/-- LEASE_EXPIRY: the leases of a page whose time has come end (08 R185). -/
def execLeaseExpiry (bent page : Nat) (s : State) : Host.Outcome State Fault Refusal :=
  .next (if s.pageQuiet bent page then s.dropLeases bent fun p l => p = page && decide (l.expiry ≤ s.time (pkgOfBent bent)) else s)

/-- SUBSCRIPTION_PUSH: the oldest push of a home on its way to a bent updates its line, whose L1 copies are invalidated, or is dropped (08
R183). -/
def execSubscriptionPush (bent : Nat) (s : State) (home : Nat := 0) : Host.Outcome State Fault Refusal :=
  .next (match (s.bentAt bent).pushes.findIdx? fun p => homeOf (p.line * 256) == home, (s.bentAt bent).pushes.find? fun p => homeOf (p.line * 256) == home with
    | some i, some p =>
      let s1 := s.modBentAt bent fun b => { b with pushes := b.pushes.eraseIdx i }
      if AMap.has (s.bentAt bent).l2 p.line && !s.quiet bent p.line then s else s1.applyPush bent p
    | _, _ => s)

/-! ### Writes to page-table lines -/

/-- Whether an access of a bent to a range of memory has not been performed: a request, a store held in an L1D, or a write-through. -/
def State.accessPending (s : State) (bent pa n : Nat) : Bool :=
  let through : UpMsg → Bool
    | .wt x _ _ _ => decide (x * 64 < pa + n) && decide (pa < x * 64 + 64)
    | _ => false
  (coresOfBent bent).any (fun k =>
    let c := s.coreAt k
    (c.requests.any fun r => !r.done && spaceOf r.addr = 0 && decide (r.pa < pa + n) && decide (pa < r.pa + r.op.size)) ||
    (c.l1.any fun l => decide (l.1 * 256 < pa + n) && decide (pa < l.1 * 256 + 256) && l.2.sec.toList.any fun x => !x.held.isEmpty) ||
    c.toL2.any (fun m => through m.2)) ||
  (s.bentAt bent).missq.any (fun m => through m.2) ||
  (s.bentAt bent).l2.any fun l => l.2.dir.toList.any fun d => d.queue.any fun m => through m.2

/-- Bytes that a leaf of a level maps. -/
def leafSize (level : Nat) : Nat := 2 ^ levelShift level

/-- PT_INVALIDATION: the oldest invalidation at a bent drops the translations derived from its line, once the accesses that they
translated have been performed; walks that read the line start again, and the bent acknowledges (08 R186, 21 R377). -/
def execPtInvalidation (bent : Nat) (s : State) : Host.Outcome State Fault Refusal :=
  .next (match (s.bentAt bent).ptInv with
    | line :: _ =>
      let derived (e : TlbEntry) : Bool := e.lines.contains line
      let dropped := ((s.bentAt bent).tlb ++ (s.bentAt bent).trussTlb.toList.flatten ++ (coresOfBent bent).flatMap fun k => (s.coreAt k).utlb).filter derived
      if (dropped.any fun e => s.accessPending bent (leafPA e.level e.pte 0) (leafSize e.level)) || !s.quiet bent line then s
      else
        let s1 := ((s.tlbDrop bent derived).dropLine bent line).modBentAt bent fun b =>
          { b with
            ptInv := b.ptInv.drop 1
            walks := b.walks.map fun w => if w.walking && w.lines.contains line then { w with walking := false, lines := [] } else w }
        s1.modDieAt (homeOf (line * 256)) fun d =>
          let first := (d.ptWrites.findIdx? fun w => w.addr / 256 = line && w.waiting.contains bent).getD d.ptWrites.length
          { d with
            ptWrites := d.ptWrites.mapIdx fun i w => if i = first then { w with waiting := w.waiting.filter (· != bent) } else w
            ptSharers := match AMap.find? d.ptSharers line with
              | some l => AMap.set d.ptSharers line { l with sharers := l.sharers.filter (· != bent) }
              | none => d.ptSharers }
    | [] => s)

/-- PT_WRITE_PERFORM: a write to a page-table line that every sharer has acknowledged is performed, after every earlier write to the line
and not while its entry is being rehomed; a rehome request takes a slot then (21 R376, R378). -/
def execPtWritePerform (die idx : Nat) (s : State) : Host.Outcome State Fault Refusal :=
  .next (match (s.dieAt die).ptWrites[idx]? with
    | some w =>
      let earlier := ((s.dieAt die).ptWrites.take idx).any fun x => x.addr / 256 = w.addr / 256
      let final := match s.rehomeOf (w.addr / 2 ^ 15) with
        | some r => r.phase.isFinal
        | none => false
      let busy := ((s.dieAt die).rehomes ++ (s.dieAt die).rehomeQueue).any fun r => decide (r.entry < w.addr + w.size) && decide (w.addr < r.entry + 8)
      if !w.waiting.isEmpty || earlier || final || busy then s
      else
        let s1 := s.modDieAt die fun d => { d with ptWrites := d.ptWrites.eraseIdx idx }
        if s1.isRehomeRequest w.addr w.size w.value w.mask then s1.startRehome w.addr w.size w.value w.mask w.source
        else s1.homePerform w.addr w.size w.value w.mask
    | none => s)

/-! ### Walks -/

/-- The lines that a walk's result read, with their levels. -/
def WalkResult.lines : WalkResult → List (Nat × Nat)
  | .leaf _ _ l _ => l
  | .fault _ l => l

/-- TABLE_WALK_START: one of the sixteen walkers of a bent takes the entry of the miss table that has waited longest; the bent becomes a
sharer of the lines it reads (21 R375, 08 R186). -/
def execTableWalkStart (bent : Nat) (s : State) : Host.Outcome State Fault Refusal :=
  let l := (s.bentAt bent).walks
  .next (if 16 ≤ (l.filter WalkEntry.walking).length then s
    else
      match l.findIdx? fun w => !w.walking, l.find? fun w => !w.walking with
      | some i, some w =>
        let r := s.walk bent w.asid w.root (w.page * 2 ^ 15)
        if r.lines.any fun x => s.homeRoute bent (x.1 * 256) = .wait then s
        else (s.markPt bent r.lines).modBentAt bent fun b => { b with walks := b.walks.set i { w with walking := true, lines := r.lines.map Prod.fst } }
      | _, _ => s)

/-- Answers one access that waited for a walk: its slot executes the instruction again, and takes the fault if there is one. -/
def State.answerWalk (s : State) (u : WalkUser) (page fault : Nat) : State :=
  if (s.slotOf u.core u.slot).run = .waiting then
    (s.modSlotOf u.core u.slot fun sl =>
      { sl with run := .ready, walkFault := if fault = 0 then none else some (page, BitVec.ofNat 64 fault) }).settle u.core u.slot
  else s

/-- TABLE_WALK_COMPLETE: a walk ends with a leaf, which is cached if it permits an access, or with a fault; poisoned tells a walk that met
poison or an error reply (21 R371, R374). -/
def execTableWalkComplete (bent idx : Nat) (poisoned : Bool) (s : State) : Host.Outcome State Fault Refusal :=
  .next (match (s.bentAt bent).walks[idx]? with
    | some w =>
      if !w.walking then s
      else
        let va := w.page * 2 ^ 15
        let s1 := s.modBentAt bent fun b => { b with walks := b.walks.eraseIdx idx }
        (match s.walk bent w.asid w.root va with
         | .leaf level pte lines ptrs =>
           if poisoned then s
           else
             let fault (u : WalkUser) : Nat := s.leafFault (pkgOfBent bent) false u.sup (PageUse.ofCode u.kind) level pte va
             let s2 := if w.users.any fun u => fault u = 0 then (s1.ptrInstall bent w.asid va lines ptrs).tlbInstall bent (mkTlb w.asid level pte va lines) else s1
             w.users.foldl (fun s u => s.answerWalk u w.page (fault u)) s2
         | .fault t _ => if poisoned = decide (t % 16 = 7) then w.users.foldl (fun s u => s.answerWalk u w.page t) s1 else s)
    | none => s)

/-- MISS_TABLE_RETRY: an access that found the miss table full is made again after 16 cycles (21 R375). -/
def execMissTableRetry (bent : Nat) (s : State) : Host.Outcome State Fault Refusal :=
  .next (match (s.bentAt bent).missRetry with
    | (core, slot, due) :: rest =>
      let s1 := s.modBentAt bent fun b => { b with missRetry := rest }
      if s.cycle < due then s
      else if (s1.slotOf core slot).run = .waiting then (s1.modSlotOf core slot fun sl => { sl with run := .ready }).settle core slot else s1
    | [] => s)

/-- A write of PTROOT (21 R373): the translations of the context's ASID leave the caches of the core's bent. -/
def State.writePtroot (s : State) (core kern : Nat) (value : Word) : State :=
  if s.hasCtx core kern then
    (s.modCtxOf core kern fun c => { c with ptroot := value &&& 0xFFFFFFFFF000 }).tlbDrop (bentOf core) fun e => e.asid = (s.ctxOf core kern).asid
  else s

/-- PTROOT_WRITE (21 R373). -/
def execPtrootWrite (core kern : Nat) (value : BitVec 64) (s : State) : Host.Outcome State Fault Refusal := .next (s.writePtroot core kern value)

/-! ### Rehoming -/

/-- Copies a line of the old frame of a rehoming to the new one, with its poison. -/
def State.copyLine (s : State) (r : Rehome) (i : Nat) : State :=
  let a := r.old * 2 ^ 15 + i * 256
  let b := r.new * 2 ^ 15 + i * 256
  { s with
    mem := Memory.writeNat s.mem b 256 (s.memRead a 256)
    poison := (s.poison.filter fun g => !(decide (b / 8 ≤ g) && decide (g < b / 8 + 32))) ++
      (s.poison.filter fun g => decide (a / 8 ≤ g) && decide (g < a / 8 + 32)).map fun g => g - a / 8 + b / 8 }

/-- Copies the listed lines. -/
def State.copyLines (s : State) (r : Rehome) (l : List Nat) : State := l.foldl (fun s i => s.copyLine r i) s

/-- The path between the two frames of a rehoming. -/
def State.rehomeRoute (s : State) (r : Rehome) : Route := s.route (homeOf (r.old * 2 ^ 15)) (homeOf (r.new * 2 ^ 15))

/-- Replaces a rehoming of a die. -/
def State.setRehome (s : State) (die idx : Nat) (r : Rehome) : State := s.modDieAt die fun d => { d with rehomes := d.rehomes.set idx r }

/-- Ends a rehoming: its slot is free for the request that has waited longest. -/
def State.endRehome (s : State) (die idx : Nat) : State :=
  s.modDieAt die fun d =>
    let l := d.rehomes.eraseIdx idx
    match d.rehomeQueue with
    | r :: rest => if l.length < 64 then { d with rehomes := l ++ [r], rehomeQueue := rest } else { d with rehomes := l }
    | [] => { d with rehomes := l }

/-- A rehoming whose link is declared Failed ends with the entry unchanged: its held writes are performed, and the store's error is a posted
error of the storer (21 R379, 04 R94). -/
def State.failRehome (s : State) (die idx : Nat) (r : Rehome) : State :=
  let s1 := r.held.foldl (fun s w => s.homePerform w.addr w.size w.value w.mask) (s.endRehome die idx)
  match r.source with
  | some (core, slot) =>
    s1.postedError core slot Cause.remoteError (BitVec.ofNat 64 r.entry) 3 true (s1.failedLink (homeOf (r.old * 2 ^ 15)) (homeOf (r.new * 2 ^ 15)))
  | none => s1

/-- REHOME_COPY_DONE: the copy of the page ends; a lost link ends the rehoming (21 R379 step 1). -/
def execRehomeCopyDone (die idx : Nat) (s : State) : Host.Outcome State Fault Refusal :=
  .next (match (s.dieAt die).rehomes[idx]? with
    | some r =>
      if r.phase ≠ .copying then s
      else
        (match s.rehomeRoute r with
         | .wait => s
         | .error _ => s.failRehome die idx r
         | .go => (s.copyLines r (List.range 128)).setRehome die idx { r with phase := .recopying 0 })
    | none => s)

/-- The bents of the domain that a recall of a page goes to; the caches of any other bent are as after reset. -/
def State.recallTargets (s : State) : List Nat := s.bents.keys.filter fun b => s.domain.contains (pkgOfBent b)

/-- REHOME_RECOPY_DONE: a pass copies the lines that the map marked; an empty map or the fourth pass begins the final block (step 2). -/
def execRehomeRecopyDone (die idx : Nat) (s : State) : Host.Outcome State Fault Refusal :=
  .next (match (s.dieAt die).rehomes[idx]? with
    | some r =>
      (match r.phase with
       | .recopying k =>
         (match s.rehomeRoute r with
          | .wait => s
          | .error _ => s.failRehome die idx r
          | .go =>
            (s.copyLines r r.marked).setRehome die idx
              { r with marked := [], phase := if r.marked.isEmpty || decide (3 ≤ k) then .final s.recallTargets else .recopying (k + 1) })
       | _ => s)
    | none => s)

/-- Writes the dirty bytes of a page's line in a bent to its frame and invalidates the line (step 3). -/
def State.recallForRehome (s : State) (bent line : Nat) : State :=
  let s1 := s.recallLine bent line
  let s2 := match AMap.find? (s1.bentAt bent).l2 line with
    | some l => if l.dirty = 0 then s1 else s1.homePerform (line * 256) 256 l.data.toNat l.dirty.toNat
    | none => s1
  s2.modBentAt bent fun b => { b with l2 := AMap.erase b.l2 line, dirtyList := b.dirtyList.filter (· != line) }

/-- PAGE_RECALL: the recall of a rehoming in its final block reaches a bent (step 3). -/
def execPageRecall (die idx bent : Nat) (s : State) : Host.Outcome State Fault Refusal :=
  .next (match (s.dieAt die).rehomes[idx]? with
    | some r =>
      (match r.phase with
       | .final waiting =>
         if !waiting.contains bent || !s.pageQuiet bent r.old then s
         else
           (match s.route (homeOf (r.old * 2 ^ 15)) (dieOfBent bent) with
            | .wait => s
            | .error _ => s.failRehome die idx r
            | .go =>
              ((s.heldLines bent r.old).foldl (fun s l => s.recallForRehome bent l) s).modRehomes r.old fun r =>
                { r with phase := .final (waiting.filter (· != bent)) })
       | _ => s)
    | none => s)

/-- Moves the subscriptions of a page to its new frame. -/
def State.moveSubs (s : State) (old new : Nat) : State :=
  let l := AMap.getD ((s.dieAt (homeOf (old * 2 ^ 15))).subDir 0) old []
  if l.isEmpty then s
  else
    let s1 := (s.modDieAt (homeOf (old * 2 ^ 15)) fun d => d.modSubDirs fun m => AMap.erase m old).modDieAt (homeOf (new * 2 ^ 15)) fun d =>
      d.modSubDirs fun m => AMap.set m new l
    l.foldl (fun s b => s.modBentAt b fun x =>
      { x with
        subs := AMap.set (AMap.erase x.subs old) new (AMap.getD x.subs old [])
        pushes := x.pushes.filter fun p => p.line / 128 != old }) s1

/-- REHOME_SWITCH: after the recall the marked lines are copied and the sharers of the entry's line are invalidated; once they have
acknowledged, the entry names the new frame, the subscriptions move, and the held writes are forwarded in order (step 4). -/
def execRehomeSwitch (die idx : Nat) (s : State) : Host.Outcome State Fault Refusal :=
  .next (match (s.dieAt die).rehomes[idx]? with
    | some r =>
      if r.phase ≠ .final [] then s
      else
        (match s.rehomeRoute r with
         | .wait => s
         | .error _ => s.failRehome die idx r
         | .go =>
           let line := r.entry / 256
           let sharers := (AMap.getD (s.dieAt die).ptSharers line ⟨3, []⟩).sharers
           if !sharers.isEmpty then
             sharers.foldl (fun s b => s.modBentAt b fun x => if x.ptInv.contains line then x else { x with ptInv := x.ptInv ++ [line] }) s
           else
             let value := r.value.toNat % 2 ^ 55 + r.value.toNat / 2 ^ 57 * 2 ^ 57
             let s1 := ((s.copyLines r r.marked).endRehome die idx).homePerform r.entry 8 value (fullMask 8)
             r.held.foldl (fun s w => s.homeWrite (r.new * 2 ^ 15 + w.addr % 2 ^ 15) w.size w.value w.mask w.source) (s1.moveSubs r.old r.new))
    | none => s)

end Sys2Proof.Machine
end

