-- ==== Sys2Proof/Machine/Placement.lean ====
section
/-!
DEFINITION. The levels of a launch record and the choice of units for its groups (09 R189, 10 R203 to R205, R208 to R211): what a
context asks of its core, what the bents and dies have left, the predicted flux of the thermal regions, and the least dear placement.

Readings of the manual and choices that this file codes: assumption log 128, 129, 130.
-/
namespace Sys2Proof.Machine

open Sys2Proof

/-! ### Levels (09 R189, 10 R203) -/

/-- A level entry. -/
structure Level where
  kind : Nat
  scope : Nat
  count : Nat
deriving DecidableEq, Repr

/-- Level j of a record. -/
def levelAt (record : BitVec 2048) (j : Nat) : Level :=
  ⟨recordField record (0x60 + 8 * j) 1, recordField record (0x60 + 8 * j + 1) 1, recordField record (0x60 + 8 * j + 4) 4⟩

/-- NLEV of a record. -/
def recordLevels (record : BitVec 2048) : Nat := recordField record 0x28 1

/-- The levels of a record, outermost first. -/
def levelsOf (record : BitVec 2048) : List Level := (List.range (Nat.min 8 (recordLevels record))).map (levelAt record)

/-- Cores of a unit of a kind (10 table 10.1). -/
def kindSize (kind : Nat) : Nat :=
  if kind = 0 then 1 else if kind = 1 then 4 else if kind = 2 then 16 else if kind = 3 then 512 else 2048

/-- Least SCOPE of a kind. -/
def leastScope (kind : Nat) : Nat := if kind ≤ 4 then kind else 5

/-- Cores of one group of each level: C_0, C_1 and so on (10 R208). -/
def groupSizes : List Level → List Nat
  | [] => []
  | l :: r =>
    match groupSizes r with
    | [] => [kindSize l.kind]
    | c :: cs => (match r with
      | m :: _ => m.count * c
      | [] => c) :: c :: cs

/-- The core count of a kernel (10 R204). -/
def coreCount (ls : List Level) : Nat :=
  match ls, groupSizes ls with
  | l :: _, c :: _ => l.count * c
  | _, _ => 0

/-- The level rules of R203 that give status 0x03. -/
def levelsOk (record : BitVec 2048) : Bool :=
  let n := recordLevels record
  let ls := levelsOf record
  decide (1 ≤ n) && decide (n ≤ 8) &&
    (ls.all fun l => decide (l.scope ≤ 6) && decide (1 ≤ l.count) && decide (leastScope l.kind ≤ l.scope)) &&
    ((ls.zip (ls.drop 1)).all fun p => decide (p.2.kind < p.1.kind)) &&
    ((List.range ls.length).all fun j => let l := levelAt record j; decide (l.kind < 5) || (j == 0 && l.count == 1))

/-- Whether each level fits in its enclosing unit (10 R203), from a unit of size cores inward. -/
def levelsFit (size : Nat) : List Level → Bool
  | [] => true
  | l :: r => decide (l.count * kindSize l.kind ≤ size) && levelsFit (kindSize l.kind) r

/-! ### Placement (10 R203 to R211) -/

/-- What a context of a kernel asks of its core (09 table 9.1). -/
structure Needs where
  slots : Nat
  chan : Nat
  stores : List Nat
  barriers : Nat
  bins : Nat
  seqs : Nat
deriving DecidableEq, Repr

/-- Bytes rounded up to 4 KiB. -/
def round4k (n : Nat) : Nat := (n + 4095) / 4096 * 4096

/-- The needs of a record: its windows in the order A, W, C. -/
def needsOf (record : BitVec 2048) : Needs :=
  let f := recordField record
  ⟨f 0x2B 1, f 0x2C 2, [round4k (f 0x34 4), round4k (f 0x30 4), round4k (f 0x38 4)], f 0x3C 2, f 0x3E 1, f 0x40 2⟩

/-- The lowest base at which size units fit beside used ranges below a limit. -/
def firstFit (used : List (Nat × Nat)) (size limit : Nat) : Option Nat :=
  if size = 0 then some 0
  else
    ((0 :: used.map fun u => u.1 + u.2).filter fun b =>
      decide (b + size ≤ limit) && used.all fun u => u.2 == 0 || decide (b + size ≤ u.1) || decide (u.1 + u.2 ≤ b)).min?

/-- The contexts of a core that use its resources, without those of excluded kernels and those only in a save area. -/
def Core.resident (c : Core) (excluded : List Nat) : List Ctx :=
  AMap.vals (c.ctxs.filter fun p => !p.2.away && !excluded.contains p.1)

/-- The bases for the windows of a new context on a core, in the order A, W, C. -/
def Core.windowBases (c : Core) (excluded : List Nat) (stores : List Nat) : Option (List Nat) :=
  ((List.range 3).zip stores).mapM fun p =>
    firstFit ((c.resident excluded).map fun x => ((x.window (p.1 + 1)).base, (x.window (p.1 + 1)).size)) p.2 0x20000

/-- The physical slots of a core that a new context can take. -/
def Core.openSlots (c : Core) (excluded : List Nat) : List Nat :=
  (List.range 8).filter fun n =>
    match (c.slotAt n).ctx with
    | none => (c.slotAt n).run = .free || c.halted
    | some k => excluded.contains k || (c.ctxAt k).away

/-- Whether a core runs firmware. -/
def Core.inFirmware (c : Core) : Bool :=
  !c.halted && (List.range 8).any fun n => (c.slotAt n).ctx = none && (c.slotAt n).run ≠ .free && (c.slotAt n).mode = .firmware

/-- The thermal region of a core key: die key and region number (10 R211). -/
def regionOf (core : Nat) : Nat × Nat := (dieOf core, bentOf core % 32 / 4)

/-- Cores of a region that hold a context, of kernels that are not excluded. -/
def State.heldCores (s : State) (die region : Nat) (excluded : List Nat) : List Nat :=
  (List.range 64).filterMap fun i =>
    let k := die * 512 + region * 64 + i
    if ((s.coreAt k).resident excluded).isEmpty then none else some k

/-- Flux that a set of cores of one region adds by the estimates of the package, one for each core and one for each truss that serves
any of them (10 R211). -/
def State.estimatedFlux (s : State) (pkg : Nat) (cores : List Nat) : Nat :=
  (s.pkgAt pkg).coreFlux * cores.eraseDups.length + (s.pkgAt pkg).trussFlux * ((cores.map (· / 4)).eraseDups).length

/-- The flux that placement reckons with in a region: the higher of its predicted and its measured flux (10 R211, 26 R407). -/
def State.regionFlux (s : State) (die region : Nat) (excluded : List Nat) : Nat :=
  Nat.max (s.estimatedFlux (die / 4) (s.heldCores die region excluded)) (AMap.getD (s.dieAt die).thermal region {}).flux

/-- Whether a region may take contexts on further cores: it is not degraded and they do not raise it above 200 W/cm². -/
def State.regionAdmits (s : State) (die region : Nat) (cores excluded : List Nat) : Bool :=
  let held := s.heldCores die region excluded
  !(AMap.getD (s.dieAt die).thermal region {}).degraded &&
    decide (s.regionFlux die region excluded + (s.estimatedFlux (die / 4) (held ++ cores) - s.estimatedFlux (die / 4) held) ≤ 200)

/-- Copy channels that the contexts of a die hold on an engine. -/
def State.engineChannels (s : State) (die engine : Nat) (excluded : List Nat) : Nat :=
  s.cores.foldl (fun n c => if dieOf c.1 = die then
    ((c.2.resident excluded).foldl (fun n x => n + (x.chan + 7 - engine) / 8) n) else n) 0

/-- Whether a core can take a context: it is healthy and in placement, and slots and windows are free. -/
def State.coreFits (s : State) (core : Nat) (need : Needs) (excluded : List Nat) : Bool :=
  let c := s.coreAt core
  let d := s.dieAt (dieOf core)
  s.hasDie (dieOf core) && !c.outOfPlacement && !c.resetting && d.inPlacement && d.phase = .running && !c.inFirmware &&
    decide (need.slots ≤ (c.openSlots excluded).length) && (c.windowBases excluded need.stores).isSome

/-- Whether a bent has the barriers, bins and counters for n contexts of a kernel; bins and counters that it holds there already serve it. -/
def State.bentFits (s : State) (bent n : Nat) (need : Needs) (kern : Nat) (excluded : List Nat) : Bool :=
  let b := s.bentAt bent
  let held := AMap.has b.seqOwner kern
  decide ((b.bars.filter fun e => !excluded.contains e.2.kern).length + need.barriers * n ≤ 1024) &&
    decide (((b.binOwner.filter fun e => !excluded.contains e.1).foldl (fun t e => t + e.2) 0) + (if held then 0 else need.bins) ≤ 64) &&
    (held || (firstFit ((AMap.vals (b.seqOwner.filter fun e => !excluded.contains e.1))) need.seqs 2048).isSome)

/-- Whether the engines of a die have channels for n contexts more. -/
def State.channelsFit (s : State) (die n : Nat) (need : Needs) (excluded : List Nat) : Bool :=
  (List.range 8).all fun e => decide (s.engineChannels die e excluded + n * ((need.chan + 7 - e) / 8) ≤ 64)

/-! ### The least cost of a placement (10 R210) -/

/-- What a choice of cores for some groups comes to: its cost in ns, its lowest core number, and the flux that it adds to the region. -/
structure Choice where
  ns : Nat
  low : Nat
  flux : Nat := 0
deriving DecidableEq, Repr

/-- The choice of no core. -/
def Choice.none : Choice := { ns := 0, low := 2048 }

/-- Two choices in different units. -/
def Choice.add (a b : Choice) : Choice := ⟨a.ns + b.ns, Nat.min a.low b.low, a.flux + b.flux⟩

/-- Whether a choice comes before another: a lower cost, or the same with a lowest core that is no higher. -/
def Choice.le (a b : Choice) : Bool := decide (a.ns < b.ns) || (a.ns == b.ns && decide (a.low ≤ b.low))

/-- Adds a choice to those kept, none of which comes before another with no more flux. -/
def keepChoice (l : List Choice) (c : Choice) : List Choice :=
  if l.any fun x => x.le c && decide (x.flux ≤ c.flux) then l else l.filter (fun x => !(c.le x && decide (c.flux ≤ x.flux))) ++ [c]

/-- The choices that a unit offers, by the number of groups. -/
abbrev Choices := List (List Choice)

/-- The choices of either of two lists. -/
def mergeChoices : Choices → Choices → Choices
  | [], t => t
  | x :: xs, [] => x :: xs
  | x :: xs, y :: ys => y.foldl keepChoice x :: mergeChoices xs ys

/-- The choices of up to most groups in two units together. -/
def joinChoices (most : Nat) (a b : Choices) : Choices :=
  ((b.foldl (fun (p : Choices × Nat) y =>
    (mergeChoices p.1 (List.replicate p.2 [] ++ a.map fun x => x.flatMap fun c => y.map c.add), p.2 + 1)) ([], 0)).1).take (most + 1)

/-- The choices of up to most groups in several units together. -/
def joinAll (most : Nat) (l : List Choices) : Choices := l.foldl (joinChoices most) [[Choice.none]]

/-- Choices of n > 0 groups as f makes them. -/
def mapChoices (t : Choices) (f : Nat → Choice → Option Choice) : Choices :=
  ((List.range t.length).zip t).map fun p => if p.1 = 0 then p.2 else (p.2.filterMap (f p.1)).foldl keepChoice []

/-- The levels that lie within a package, down to single cores. -/
def innerLevels (ls : List Level) : List Level :=
  let whole := match ls.getLast? with
    | some l => if l.kind = 0 then ls else ls ++ [Level.mk 0 0 (kindSize l.kind)]
    | none => []
  whole.dropWhile fun l => decide (4 ≤ l.kind)

/-- What a kernel that is to be placed asks for, and the kernels whose resources count as free. -/
structure Search where
  pkg : Nat
  need : Needs
  excluded : List Nat
  /-- The kernel has a level of kind bent. -/
  byBent : Bool

/-- Cores in one group of the first of some inner levels. -/
def groupCores (ls : List Level) : Nat := (groupSizes ls).headD 1

/-- The choices of a unit of a kind, whose own groups are one level's: with that level, one group of which the next level fills its part. -/
def unitChoices (kind : Nat) (inner : List Level → Nat → Choices) (ls : List Level) (most : Nat) : Choices :=
  match ls with
  | l :: m :: r => if l.kind = kind then [[Choice.none], (inner (m :: r) m.count).getD m.count []] else inner ls most
  | _ => inner ls most

/-- The choices of one core. -/
def State.coreChoices (s : State) (x : Search) (core : Nat) : Choices :=
  if s.coreFits core x.need x.excluded then
    [[Choice.none], [{ ns := if (s.coreAt core).gated then 300 else 0, low := numOf core
                       flux := if ((s.coreAt core).resident x.excluded).isEmpty then (s.pkgAt x.pkg).coreFlux else 0 }]]
  else [[Choice.none]]

/-- The choices of a quad: its truss adds to the flux unless a core of it holds a context already. -/
def State.quadChoices (s : State) (x : Search) (quad : Nat) : List Level → Nat → Choices :=
  unitChoices 1 fun _ most =>
    let cores := (List.range 4).map (quad * 4 + ·)
    let used := cores.any fun k => !((s.coreAt k).resident x.excluded).isEmpty
    mapChoices (joinAll most (cores.map (s.coreChoices x))) fun _ c => some (if used then c else { c with flux := c.flux + (s.pkgAt x.pkg).trussFlux })

/-- The choices of a bent, which has the tables for the contexts and wakes if it is gated. -/
def State.bentChoices (s : State) (x : Search) (bent : Nat) (ls : List Level) (most : Nat) : Choices :=
  if x.byBent && (s.bentAt bent).degraded then [[Choice.none]]
  else
    mapChoices (unitChoices 2 (fun ls most => joinAll most ((List.range 4).map fun q => s.quadChoices x (bent * 4 + q) ls most)) ls most) fun n c =>
      if s.bentFits bent (n * groupCores ls) x.need 65536 x.excluded then
        some (if (s.bentAt bent).gated then { c with ns := c.ns + 2000 } else c)
      else none

/-- The choices of a thermal region of a die: not degraded, and not raised above 200 W/cm² (10 R211). -/
def State.regionChoices (s : State) (x : Search) (die region : Nat) (ls : List Level) (most : Nat) : Choices :=
  if (AMap.getD (s.dieAt die).thermal region {}).degraded then [[Choice.none]]
  else
    mapChoices (joinAll most ((List.range 4).map fun b => s.bentChoices x (die * 32 + region * 4 + b) ls most)) fun _ c =>
      if s.regionFlux die region x.excluded + c.flux ≤ 200 then some { c with flux := 0 } else none

/-- The choices of a die, whose engines have the channels. -/
def State.dieChoices (s : State) (x : Search) (die : Nat) (ls : List Level) (most : Nat) : Choices :=
  mapChoices (unitChoices 3 (fun ls most => joinAll most ((List.range 8).map fun r => s.regionChoices x die r ls most)) ls most) fun n c =>
    if s.channelsFit die (n * groupCores ls) x.need x.excluded then some c else none

/-- The best choice under pack: level-0 groups beyond the first die that has one cost 50 ns each. -/
def bestPack (dies : List Choices) (n beyond : Nat) : List Choice :=
  (List.range dies.length).foldl (fun l i =>
    let first := [] :: (dies.getD i []).drop 1
    let later := (dies.drop (i + 1)).map fun t => mapChoices t fun k c => some { c with ns := c.ns + beyond * k }
    ((later.foldl (joinChoices n) first).getD n []).foldl keepChoice l) []

/-- Deals k level-0 groups to the dies, one at a time from die d on, passing over dies without another admissible unit. -/
def dealGroups (dies : List Choices) (counts : List Nat) (d : Nat) : Nat → Option (List Nat)
  | 0 => some counts
  | k + 1 =>
    match ((List.range dies.length).map fun i => (d + i) % dies.length).find? fun i => !((dies.getD i []).getD (counts.getD i 0 + 1) []).isEmpty with
    | some i => dealGroups dies (counts.set i (counts.getD i 0 + 1)) (i + 1) k
    | none => none

/-- The best choice under spread. -/
def bestSpread (dies : List Choices) (n : Nat) : List Choice :=
  match dealGroups dies (dies.map fun _ => 0) 0 n with
  | some counts => (dies.zip counts).foldl (fun l p => (l.flatMap fun c => ((p.1.getD p.2 []).map c.add))) [Choice.none]
  | none => []

/-- The best placement of a record in a package: its cost and its lowest core; none where nothing fits. -/
def State.bestChoice (s : State) (pkg : Nat) (record : BitVec 2048) (excluded : List Nat) : Option Choice :=
  let ls := levelsOf record
  let inner := innerLevels ls
  let x : Search := { pkg := pkg, need := needsOf record, excluded := excluded, byBent := ls.any fun l => l.kind == 2 }
  match inner with
  | l :: _ =>
    let dies := (List.range 4).map fun d => s.dieChoices x (pkg * 4 + d) inner l.count
    let whole := (ls.headD l).kind ≥ 4
    (if recordField record 0x2A 1 = 1 && !whole then bestSpread dies l.count else bestPack dies l.count (if whole then 0 else 50)).head?
  | [] => none

/-- Whether a kernel can be placed at all when the resources of excluded kernels are free. -/
def State.kernelFits (s : State) (pkg : Nat) (record : BitVec 2048) (excluded : List Nat) : Bool := (s.bestChoice pkg record excluded).isSome

/-! ### A placement -/

/-- k lists of n entries each. -/
def chunksOf {α : Type} (n : Nat) (l : List α) : Nat → List (List α)
  | 0 => []
  | k + 1 => l.take n :: chunksOf n (l.drop n) k

/-- Whether a list of core numbers, by rank, is a placement of the levels in a unit of size cores: every group in one unit of its kind,
the units in rising order, and every core of an innermost unit used (10 R204, R208). -/
def shapeOk (size : Nat) : List Level → List Nat → Bool
  | [], cores => match cores with
    | c :: _ => cores == (List.range size).map (c / size * size + ·)
    | [] => false
  | l :: r, cores =>
    let sz := kindSize l.kind
    let groups := chunksOf (cores.length / l.count) cores l.count
    let units := groups.map fun g => g.headD 0 / sz
    (groups.all fun g => g.all fun c => c / sz == g.headD 0 / sz) && ((units.zip (units.drop 1)).all fun p => decide (p.1 < p.2)) &&
      groups.all fun g => shapeOk sz r g

/-- The groups of level 0 of a placement. -/
def topGroups (ls : List Level) (cores : List Nat) : List (List Nat) :=
  match ls with
  | l :: _ => chunksOf (cores.length / l.count) cores l.count
  | [] => []

/-- Level-0 groups of a placement beyond the first die used. -/
def beyondFirst (ls : List Level) (cores : List Nat) : Nat :=
  let dies := (topGroups ls cores).map fun g => dieOf (g.headD 0)
  (dies.filter (· != dies.min?.getD 0)).length

/-- The cost of a placement in ns (10 R210). -/
def State.placementCost (s : State) (ls : List Level) (cores : List Nat) : Nat :=
  2000 * (((cores.map bentOf).eraseDups).filter fun b => (s.bentAt b).gated).length + 300 * (cores.filter fun c => (s.coreAt c).gated).length +
    50 * beyondFirst ls cores

/-- Whether a candidate can take a kernel: its shape, its cores, bents and channels, and the regions that it would heat.  A kernel that
resumes (kern) keeps its barrier entries. -/
def State.candidateOk (s : State) (pkg : Nat) (record : BitVec 2048) (cores : List Nat) (resumed : Option Nat := none) : Bool :=
  let need := if resumed.isSome then { needsOf record with barriers := 0 } else needsOf record
  let ls := levelsOf record
  cores.length == coreCount ls && (cores.all fun c => pkgOf c == pkg) && shapeOk 2048 ls (cores.map numOf) &&
    (cores.all fun c => s.coreFits c need []) &&
    ((cores.map bentOf).eraseDups.all fun b => s.bentFits b (cores.filter fun c => bentOf c = b).length need (resumed.getD 65536) []) &&
    ((cores.map dieOf).eraseDups.all fun d => s.channelsFit d (cores.filter fun c => dieOf c = d).length need []) &&
    ((cores.map regionOf).eraseDups.all fun r => s.regionAdmits r.1 r.2 (cores.filter fun c => regionOf c = r) []) &&
    (!(ls.any fun l => l.kind == 2) || cores.all fun c => !(s.bentAt (bentOf c)).degraded)

/-- Whether a candidate deals its level-0 groups to the dies as a spread record asks: one at a time in increasing die number, passing over
dies without another admissible unit (10 R210). -/
def State.spreadOk (s : State) (pkg : Nat) (record : BitVec 2048) (cores : List Nat) : Bool :=
  let ls := levelsOf record
  let inner := innerLevels ls
  let x : Search := { pkg := pkg, need := needsOf record, excluded := [], byBent := ls.any fun l => l.kind == 2 }
  let groups := topGroups ls cores
  recordField record 0x2A 1 != 1 || decide (4 ≤ (ls.headD ⟨0, 0, 0⟩).kind) ||
    dealGroups ((List.range 4).map fun d => s.dieChoices x (pkg * 4 + d) inner groups.length) [0, 0, 0, 0] 0 groups.length ==
      some ((List.range 4).map fun d => (groups.filter fun g => numOf (g.headD 0) / 512 == d).length)

/-- Whether no candidate betters a placement: none has a lower cost, nor the same cost with a smaller lowest core (10 R210). -/
def State.bestOf (s : State) (pkg : Nat) (record : BitVec 2048) (cores : List Nat) : Bool :=
  let low := ((cores.map numOf).min?).getD 0
  let cost := s.placementCost (levelsOf record) cores
  (s.bestChoice pkg record []).any fun c => (if recordField record 0x2A 1 = 1 then c.ns + 50 * beyondFirst (levelsOf record) cores else c.ns) == cost && c.low == low

end Sys2Proof.Machine
end

