-- ==== Sys2Proof/Machine/Kernels.lean ====
section
/-!
DEFINITION. Kernels (09, 10): features, admission, the doorbell page, LAUNCH, placement and loading of contexts, the root task, requests
to pre-empt, resume and abort, and retirement.

Readings of the manual and choices that this file codes: assumption log 11, 21, 101, 103, 118, 119, 131.
-/
namespace Sys2Proof.Machine

open Sys2Proof

/-! ### Features (09 R191) -/

/-- FEATURE_COMMIT (09 R191, 26 R408): refused with BUSY while a kernel holds a KERNID; else the accepted set and PKGNO
reach every core, and DONE is set. -/
def execFeatureCommit (pkg : Nat) (s : State) : Host.Outcome State Fault Refusal :=
  .next (s.modPkgAt pkg fun p =>
    if p.kernels.isEmpty then
      { p with feat := p.featacc &&& p.featoff, corePkg := p.pkgno, negDone := true, negBusy := false, committed := true }
    else { p with negBusy := true })

/-! ### Admission (09 R196) -/

/-- The reserved bytes and reserved codes of a record, and the descriptors of ENTRY and DONE (check 1). -/
def recordReserved (record : BitVec 2048) : Bool :=
  let f := recordField record
  let n := recordLevels record
  let done := f 0x58 8
  f 0x2E 2 == 0 && f 0x3F 1 == 0 && f 0x42 2 == 0 && f 0x44 4 / 2 ^ 24 == 0 && f 0xA0 96 == 0 && decide (f 0x2A 1 ≤ 1) &&
    (List.range 8).all (fun j => if j < n then f (0x60 + 8 * j + 2) 2 == 0 && decide (f (0x60 + 8 * j) 1 ≤ 6) else f (0x60 + 8 * j) 8 == 0) &&
    f 0 8 / 2 ^ 48 == 0 && (done / 2 ^ 48 == 0 || done / 2 ^ 48 == 6 * 2 ^ 13) && done % 16 == 0

/-- The limits of 09 table 9.1. -/
def recordLimits (record : BitVec 2048) : Bool :=
  let f := recordField record
  decide (f 0x29 1 ≤ 7) && decide (1 ≤ f 0x2B 1) && decide (f 0x2B 1 ≤ 8) && decide (f 0x2C 2 ≤ 64) && decide (f 0x30 4 ≤ 0x20000) &&
    decide (f 0x34 4 ≤ 0x20000) && decide (f 0x38 4 ≤ 0x20000) && decide (f 0x3C 2 ≤ 16) && decide (f 0x3E 1 ≤ 64) && decide (f 0x40 2 ≤ 2048)

/-- Exposed, healthy cores of a package (01 R24).  A die in a warm reset has its cores still: what asks for them waits in Admitted. -/
def State.healthyCores (s : State) (pkg : Nat) : Nat :=
  512 * (s.pkgAt pkg).dies.length - (s.cores.filter fun c => pkgOf c.1 = pkg && s.hasDie (dieOf c.1) && c.2.outOfPlacement).length

/-- The status of the admission checks in the order of 09 table 9.5; 0 where all pass.  DESIGN CHOICE (assumption log 131): a record that
passes check 1 before the first commit is refused with status 0x02, and a SCOPE of 7 or more fails check 3. -/
def State.admission (s : State) (pkg : Nat) (record : BitVec 2048) : Nat :=
  let p := s.pkgAt pkg
  if !recordReserved record then 1
  else if !p.committed || recordField record 8 32 != Nat.land (recordField record 8 32) p.feat.toNat then 2
  else if !levelsOk record then 3
  else if !recordLimits record || !levelsFit 2048 (levelsOf record) || decide (s.healthyCores pkg < coreCount (levelsOf record)) then 4
  else if recordField record 0 8 % 4 != 0 || recordField record 0x48 8 % 4096 != 0 || recordField record 0x50 8 % 128 != 0 then 5
  else if 256 ≤ p.kernels.length then 6
  else 0

/-- The next KERNID: increasing modulo 2^16, skipping 0 and every value held (09 R197); at most 257 are tried. -/
def nextKernid (held : List Nat) (last : Nat) : Nat → Nat
  | 0 => last
  | k + 1 =>
    let n := (last + 1) % 2 ^ 16
    if n = 0 ∨ held.contains n then nextKernid held n k else n

/-- Submits a record: an admitted kernel takes a KERNID; a refused one leaves a completion record with state 3 where DONE is a
valid address (09 R196). -/
def State.submit (s : State) (pkg : Nat) (record : BitVec 2048) (queue parent : Option Nat) (asid : BitVec 12) (root : Word) : State × Nat × Nat :=
  let p := s.pkgAt pkg
  let status := s.admission pkg record
  let k : Kernel := { kernid := 0, record := record, state := .submitted, queue := queue, parent := parent, asid := asid, ptroot := root,
                      prio := recordField record 0x29 1, order := p.nextOrder }
  if status = 0 then
    let id := nextKernid p.kernels.keys p.nextKern.toNat 258
    (s.modPkgAt pkg fun p =>
      { p with
        kernels := AMap.set p.kernels id { k with kernid := BitVec.ofNat 16 id, state := .admitted }
        nextKern := BitVec.ofNat 16 id
        nextOrder := p.nextOrder + 1 }, 0, id)
  else
    let done := recordField record 0x58 8
    if (done / 2 ^ 48 = 0 ∨ done / 2 ^ 48 = 6 * 2 ^ 13) ∧ done % 16 = 0 then (s.completion pkg k 3 status 0 0, status, 0) else (s, status, 0)

/-! ### Doorbell (09 R194, R195) -/

/-- QTAIL_WRITE (09 R195). -/
def execQtailWrite (pkg queue : Nat) (value : BitVec 32) (s : State) : Host.Outcome State Fault Refusal :=
  .next (if queue < 8 then s.modPkgAt pkg fun p => { p with hostq := AMap.set p.hostq queue { AMap.getD p.hostq queue {} with tail := value } } else s)

/-- Slots of a queue's ring. -/
def HostQueue.ring (h : HostQueue) : Nat := 2 ^ (h.size.toNat + 1)

/-- Whether an enabled queue holds records. -/
def HostQueue.holds (h : HostQueue) : Bool := h.ctl.getLsbD 0 && h.tail.toNat % h.ring != h.head.toNat % h.ring

/-- Whether the lines of the completion record are settled. -/
def State.doneReady (s : State) (pkg : Nat) (record : BitVec 2048) (asid : BitVec 12) (root : Word) (core : Nat) : Bool :=
  let done := recordField record 0x58 8
  if done / 2 ^ 61 = 6 then true
  else
    match s.engineXlat (bentOf core) asid root .store (done % 2 ^ 48) with
    | (_, .ok pa) => pkgOf core == pkg && s.quietRange (bentOf core) pa 16
    | (_, .fault _) => true

/-- What a read of the doorbell page gives at the offset of a register (09 table 9.4); other offsets read zero. -/
def Pkg.doorbell (p : Pkg) (off : Nat) : Nat :=
  if off % 8 = 0 ∧ off < 0x20 then p.featoff.toNat / 2 ^ (8 * off) % 2 ^ 64
  else if off % 8 = 0 ∧ off < 0x40 then p.featacc.toNat / 2 ^ (8 * (off - 0x20)) % 2 ^ 64
  else if off = 0x40 then p.negDone.toNat * 2 + p.negBusy.toNat * 4
  else if 0x100 ≤ off ∧ off < 0x300 then
    let h := AMap.getD p.hostq ((off - 0x100) / 0x40) {}
    match (off - 0x100) % 0x40 with
    | 0x00 => h.base.toNat
    | 0x08 => h.size.toNat
    | 0x10 => h.root.toNat
    | 0x18 => h.asid.toNat
    | 0x20 => h.tail.toNat
    | 0x24 => h.head.toNat
    | 0x28 => h.ctl.toNat
    | _ => 0
  else if off = 0x418 then p.cmdstat.toNat
  else 0

/-- LAUNCH_RECORD_READ (09 R195, R196): the next record of the highest queue that holds any is copied, QHEAD advances and the
record is submitted. -/
def execLaunchRecordRead (pkg queue : Nat) (record : BitVec 2048) (s : State) : Host.Outcome State Fault Refusal :=
  let h := AMap.getD (s.pkgAt pkg).hostq queue {}
  let first := (List.range 8).reverse.find? fun q => (AMap.getD (s.pkgAt pkg).hostq q {}).holds
  .next (if first = some queue ∧ s.doneReady pkg record h.asid h.root (pkg * 2048) then
      ((s.modPkgAt pkg fun p => { p with hostq := AMap.set p.hostq queue { h with head := BitVec.ofNat 32 ((h.head.toNat + 1) % h.ring) } }).submit
        pkg record (some queue) none h.asid h.root).1
    else s)

/-! ### LAUNCH (09 R198) -/

/-- Replaces a byte of a record. -/
def recordSetByte (record : BitVec 2048) (off v : Nat) : BitVec 2048 :=
  BitVec.ofNat 2048 (record.toNat - recordField record off 1 * 2 ^ (8 * off) + v % 256 * 2 ^ (8 * off))

/-- LAUNCH (09 R198). -/
def execLaunch (d a : BitVec 5) (sc : BitVec 3) (s : State) : Host.Outcome State Fault Refusal :=
  issue (.launch d a sc) [.g a] [.g d] s fun s =>
    match s.readBlock (s.readG a) 256 256 false with
    | (s1, .trap c v t) => s1.trap c v t
    | (s1, .wait) => s1.wait
    | (s1, .ok v) =>
      let raw := BitVec.ofNat 2048 v
      let entry := recordField raw 0 8
      let pkg := pkgOf s1.cur
      let prio := match s1.kernelAt pkg s1.kern with
        | some k => k.prio
        | none => 7
      let record := recordSetByte raw 0x29 (Nat.min (recordField raw 0x29 1) prio)
      s1.released 4 fun s1 =>
        if entry % 4 ≠ 0 then s1.trap Cause.imisalign (BitVec.ofNat 64 entry)
        else if recordField record 0x58 8 / 2 ^ 61 ≠ 0 then (s1.putG d (BitVec.ofNat 64 (2 ^ 63 + 1)) 2 false).retire (stallOf sc)
        else if !s1.doneReady pkg record s1.ctx.asid s1.ctx.ptroot s1.cur then s1.wait
        else
          match s1.submit pkg record none (some s1.kern) s1.ctx.asid s1.ctx.ptroot with
          | (s2, status, id) => (s2.putG d (BitVec.ofNat 64 (if status = 0 then id else 2 ^ 63 + status)) 2 false).retire (stallOf sc)

/-! ### Placement (09 R197, 10 R206 to R209) -/

/-- The admitted kernel that is placed next: the highest PRIO, first submitted (09 R197). -/
def Pkg.nextAdmitted (p : Pkg) : Option Nat :=
  (p.kernels.filter fun k => k.2.state = .admitted).foldl (fun best k =>
    match best with
    | some b => match AMap.find? p.kernels b with
      | some x => if x.prio < k.2.prio ∨ (x.prio = k.2.prio ∧ k.2.order < x.order) then some k.1 else best
      | none => some k.1
    | none => some k.1) none

/-- Whether a core is awake (10 R209). -/
def State.awake (s : State) (core : Nat) : Bool := !(s.coreAt core).gated && !(s.coreAt core).waking && !(s.bentAt (bentOf core)).gated

/-- The context that enters a state which it may enter only on an awake core (10 R209): until then one that loads is Free and one that is
restored is Saved. -/
def Ctx.enter (c : Ctx) (st : CtxState) (awake : Bool) : Ctx :=
  if awake then { c with state := st, entry := none } else { c with state := if st = .restoring then .saved else .free, entry := some st }

/-- A context as the launch controller sets it up for a kernel on a core, to enter Loading or Restoring (19 R351, R361, R372; 10
R208).  The supervisor's save areas for kernels with SAVE = 0 are numbered. -/
def State.newCtx (s : State) (pkg : Nat) (k : Kernel) (rank : Nat) (bases : List Nat) (area : Nat) : Ctx :=
  let p := s.pkgAt pkg
  let need := needsOf k.record
  let ls := levelsOf k.record
  let save := recordField k.record 0x48 8
  let win (i : Nat) : Window := ⟨bases.getD i 0, need.stores.getD i 0⟩
  let inner := (groupSizes ls).getLastD 1
  { kernid := k.kernid
    rank := BitVec.ofNat 11 rank
    slots := need.slots
    chan := need.chan
    barriers := need.barriers
    awin := win 0, wwin := win 1, cwin := win 2
    asid := k.asid
    ptroot := k.ptroot
    tvec := p.supTvec
    crashptr := p.supCrash
    saveptr := if save = 0 then p.supSave + BitVec.ofNat 64 (area * 2 ^ 20) else BitVec.ofNat 64 (save + rank * 2 ^ 20)
    budget := { limit := BitVec.ofNat 24 (recordField k.record 0x44 4) }
    place := BitVec.ofNat 64 ((coreCount ls - 1) * 2 ^ 16 + rank)
    groupid := BitVec.ofNat 64 ((recordLevels k.record - 1) * 2 ^ 16 + rank / inner) }

/-- Puts a context on a core: it takes physical slots, a gated core wakes and a halted one is halted no longer (04 R106). -/
def State.placeCtx (s : State) (pkg : Nat) (k : Kernel) (rank core : Nat) (st : CtxState) : State :=
  let c := s.coreAt core
  let need := needsOf k.record
  let bases := (c.windowBases [] need.stores).getD []
  let slots := (c.openSlots []).take need.slots
  let s1 := s.modCoreAt core fun c =>
    let c1 := ((List.range slots.length).zip slots).foldl (fun c p =>
      c.modSlotAt p.2 fun _ => { ctx := some k.kernid.toNat, num := BitVec.ofNat 3 p.1 }) c
    { c1 with ctxs := AMap.set c1.ctxs k.kernid.toNat ((s.newCtx pkg k rank bases (numOf core * 8 + slots.headD 0)).enter st (s.awake core)), halted := false, waking := c.waking || c.gated }
  s1.modBentAt (bentOf core) fun b => if b.gated then { b with waking := true } else b

/-- Zeroes the sequence counters first to first + n - 1 of a bent. -/
def zeroCounters (m : Memory) (first : Nat) : Nat → Memory
  | 0 => m
  | n + 1 => zeroCounters (Memory.writeNat m (0x8000 + 8 * (first + n)) 8 0) first n

/-- Reserves the counters and bins of a kernel in the bent of a core, unless it holds them there (13 R252, R255). -/
def State.reserveTables (s : State) (core : Nat) (k : Kernel) : State :=
  let need := needsOf k.record
  let kern := k.kernid.toNat
  s.modBentAt (bentOf core) fun b =>
    if AMap.has b.seqOwner kern then b
    else
      let first := (firstFit (AMap.vals b.seqOwner) need.seqs 2048).getD 0
      { b with
        seqOwner := AMap.set b.seqOwner kern (first, need.seqs)
        binOwner := AMap.set b.binOwner kern need.bins
        sram := zeroCounters b.sram first need.seqs }

/-- Reserves the barrier entries of a context in the bent of its core, one for each handle (16 R302). -/
def State.reserveBars (s : State) (core : Nat) (k : Kernel) : State :=
  s.modBentAt (bentOf core) fun b => (List.range (needsOf k.record).barriers).foldl (fun b h =>
    match (List.range 1024).find? fun i => !AMap.has b.bars i with
    | some i => { b with bars := AMap.set b.bars i { kern := k.kernid.toNat, core := core, handle := h } }
    | none => b) b

/-- The kernels that give way to an admitted kernel that does not fit (09 R197): pre-emptible ones of strictly lower
priority, lowest priority and latest submitted first, as many as it takes.  DESIGN CHOICE (assumption log 131): where all of them together
are not enough, none gives way. -/
def State.preemptVictims (s : State) (pkg : Nat) (k : Kernel) : List Nat :=
  let ks := (s.pkgAt pkg).kernels
  let leaving := AMap.keys (ks.filter fun x => x.2.state = .preempting)
  let order := ((ks.filter fun x => x.2.state = .running && x.2.prio < k.prio && recordField x.2.record 0x48 8 != 0).mergeSort fun x y =>
    decide (x.2.prio < y.2.prio) || (x.2.prio == y.2.prio && decide (y.2.order ≤ x.2.order))).map Prod.fst
  match (List.range (order.length + 1)).find? fun n => s.kernelFits pkg k.record (leaving ++ order.take n) with
  | some n => order.take n
  | none => []

/-- A request to pre-empt reaches every context of a running kernel. -/
def State.startPreempt (s : State) (pkg kern : Nat) : State :=
  match s.kernelAt pkg kern with
  | some k => (k.cores.foldl (fun s c => s.requestPreempt c kern) s).modKernel pkg kern fun k => { k with state := .preempting, preemptHeld := false }
  | none => s

/-- KERNEL_PLACEMENT (10 R206, R208 to R211; 09 R197): the next admitted kernel is bound to cores, by rank; with no cores given, it fits
nowhere and kernels of lower priority give way. -/
def execKernelPlacement (pkg kern : Nat) (cores : List Nat) (s : State) : Host.Outcome State Fault Refusal :=
  match s.kernelAt pkg kern with
  | some k =>
    if (s.pkgAt pkg).nextAdmitted ≠ some kern then .next s
    else if cores.isEmpty then
      if s.kernelFits pkg k.record [] then .next s
      else .next ((s.preemptVictims pkg k).foldl (fun s v => s.startPreempt pkg v) s)
    else if s.candidateOk pkg k.record cores && s.spreadOk pkg k.record cores && s.bestOf pkg k.record cores then
      .next ((((List.range cores.length).zip cores).foldl (fun s p => ((s.placeCtx pkg k p.1 p.2 .loading).reserveTables p.2 k).reserveBars p.2 k) s).modKernel pkg kern
        fun k => { k with state := .placing, cores := cores })
    else .next s
  | none => .next s

/-! ### Loading (06 R135, 19 table 19.1) -/

/-- The generator of a context at Loading (03 R71). -/
def loadGenerator (kernid core : Nat) : BitVec 32 :=
  let x := BitVec.ofNat 32 (Nat.xor (Nat.xor 0x9E3779B9 (kernid % 2 ^ 16 * 2 ^ 11)) core)
  if x = 0 then 1 else x

/-- A memory with zeros in n bytes from a base on. -/
def clearRange (m : Memory) (base n : Nat) : Memory := m.filter fun c => !(decide (base ≤ c.1) && decide (c.1 < base + n))

/-- Zeroes the windows of a context and clears the poison of their granules (06 R135). -/
def Core.clearWindows (c : Core) (x : Ctx) : Core :=
  let out (g : Nat) (w : Window) (k : Nat) := !(decide (k * g < w.base + w.size) && decide (w.base < k * g + k))
  { c with
    wstore := clearRange c.wstore x.wwin.base x.wwin.size
    astore := clearRange c.astore x.awin.base x.awin.size
    cstore := clearRange c.cstore x.cwin.base x.cwin.size
    poisonC := c.poisonC.filter fun g => out g x.cwin 256
    poisonW := c.poisonW.filter fun g => out g x.wwin 8
    poisonA := c.poisonA.filter fun g => out g x.awin 8 }

/-- A context comes to Ready: messages that waited for it go to its mailbox (17 R332), and a request to pre-empt that it held acts (19 table
19.2). -/
def State.becomeReady (s : State) (core kern : Nat) : State :=
  let held := (s.ctxOf core kern).latePreempt
  let s1 := (s.modCtxOf core kern fun c => { c with state := .ready, latePreempt := false }).refill core kern
  if held then s1.requestPreempt core kern else s1

/-- CONTEXT_LOADING_DONE (06 R135, 19 table 19.1): on an awake core the windows are zeroed, the generators seeded and the context is
Ready; the L1I is emptied, so that code placed before needs no maintenance (02 R49). -/
def execContextLoadingDone (core kern : Nat) (s : State) : Host.Outcome State Fault Refusal :=
  let x := s.ctxOf core kern
  .next (if x.state = .loading && s.awake core then
      let g := loadGenerator kern (numOf core)
      let s1 := s.modCoreAt core fun c => { c.clearWindows x with schk := false, fencetrap := false, l1i := [] }
      (s1.modCtxOf core kern fun x =>
        { x with gen := g, chans := (List.range x.chan).map fun n => (n, { gen := g ^^^ BitVec.ofNat 32 ((n + 1) * 2 ^ 24) }) }).becomeReady core kern
    else s)

/-- ROOT_TASK_START (09 R200): with every context Ready the root task starts in slot 0 of rank 0, an acquire at system scope
for a host launch and at package scope for LAUNCH; a held request to pre-empt then acts (09 R201). -/
def execRootTaskStart (pkg kern : Nat) (s : State) : Host.Outcome State Fault Refusal :=
  match s.kernelAt pkg kern with
  | some k =>
    let core := k.cores.headD 0
    match (List.range 8).find? fun n => (s.slotOf core n).ctx = some kern && (s.slotOf core n).num = 0 with
    | some slot =>
      if k.state = .placing && (k.cores.all fun c => (s.ctxOf c kern).state = .ready) then
        let frame := recordField k.record 0x50 8
        let s1 := s.acquire core (if k.parent.isSome then 4 else 6)
        let s2 := (s1.startTask core slot kern
          { kind := 0, origin := BitVec.ofNat 48 frame, pc := BitVec.ofNat 64 (recordField k.record 0 8), regs := [(4, BitVec.ofNat 64 frame)] }).modKernel
            pkg kern fun k => { k with state := .running, rooted := true }
        .next (if k.preemptHeld then s2.startPreempt pkg kern else s2)
      else .next s
    | none => .next s
  | none => .next s

/-! ### Commands (09 R201) -/

/-- Records the status of a command in CMDSTAT. -/
def State.commandStatus (s : State) (pkg kern status : Nat) : State :=
  s.modPkgAt pkg fun p => { p with cmdstat := BitVec.ofNat 64 (kern % 2 ^ 16 + status * 2 ^ 16) }

/-- PREEMPT_WRITE (09 R201, table 9.7). -/
def execPreemptWrite (pkg kern : Nat) (s : State) : Host.Outcome State Fault Refusal :=
  match s.kernelAt pkg kern with
  | none => .next (s.commandStatus pkg kern 1)
  | some k =>
    if recordField k.record 0x48 8 = 0 then .next (s.commandStatus pkg kern 2)
    else if k.state = .running then .next ((s.startPreempt pkg kern).commandStatus pkg kern 0)
    else if k.state = .placing || k.state = .resuming then
      .next ((s.modKernel pkg kern fun k => { k with preemptHeld := true }).commandStatus pkg kern 0)
    else .next (s.commandStatus pkg kern 3)

/-- RESUME_WRITE (09 R199): a Pre-empted kernel goes to Resuming. -/
def execResumeWrite (pkg kern : Nat) (s : State) : Host.Outcome State Fault Refusal :=
  match s.kernelAt pkg kern with
  | none => .next (s.commandStatus pkg kern 1)
  | some k =>
    if k.state = .preempted then .next ((s.modKernel pkg kern fun k => { k with state := .resuming }).commandStatus pkg kern 0)
    else .next (s.commandStatus pkg kern 3)

/-- Whether the completion record of a kernel can be written now. -/
def State.recordReadyFor (s : State) (pkg kern : Nat) : Bool :=
  match s.kernelAt pkg kern with
  | some k => s.doneReady pkg k.record k.asid k.ptroot (k.cores.headD (pkg * 2048))
  | none => true

/-- ABORT_WRITE (09 R201): status 0x10 by the host driver and 0x11 by the supervisor (09 table 9.5). -/
def execAbortWrite (pkg kern : Nat) (s : State) (supervisor : Bool := false) : Host.Outcome State Fault Refusal :=
  match s.kernelAt pkg kern with
  | none => .next (s.commandStatus pkg kern 1)
  | some _ => .next (if s.recordReadyFor pkg kern then (s.abortKernel pkg kern (if supervisor then 0x11 else 0x10) 0 0).commandStatus pkg kern 0 else s)

/-- The core that takes the place of a core in a new placement, by rank. -/
def movedCore (before after : List Nat) (core : Nat) : Nat :=
  ((List.range before.length).findSome? fun i => if before[i]? = some core then after[i]? else none).getD core

/-- Makes the barrier entries of a kernel follow their contexts to other cores, by rank; the entries stay where they are (16 R316). -/
def State.moveBars (s : State) (kern : Nat) (before after : List Nat) : State :=
  let moved (x : BarInfo) : BarInfo := if x.kern = kern then { x with core := movedCore before after x.core } else x
  { s with bents := AMap.mapVals s.bents fun b => { b with bars := AMap.mapVals b.bars moved } }

/-- Makes the posts of a kernel that stayed on the lists follow their contexts to other cores (17 R332). -/
def State.movePosts (s : State) (pkg kern : Nat) (before after : List Nat) : State :=
  let moved (p : Post) : Post := if p.kern = kern then { p with core := movedCore before after p.core } else p
  { s with dies := AMap.mapKeyed s.dies fun n d =>
      if n / 4 = pkg then { d with posts := d.posts.map moved, landings := d.landings.map fun l => { l with post := moved l.post } } else d }

/-- KERNEL_RESUME_PLACEMENT (19 R362, 10 R207): the saved contexts of a Pre-empted or Resuming kernel are placed on cores, by rank,
for restoring; the entries that the kernel holds in its old bents stay. -/
def execKernelResumePlacement (pkg kern : Nat) (cores : List Nat) (s : State) : Host.Outcome State Fault Refusal :=
  match s.kernelAt pkg kern with
  | some k =>
    if (k.state = .preempted || k.state = .resuming) && (k.cores.all fun c => (s.ctxOf c kern).away) && s.candidateOk pkg k.record cores (some kern) then
      let s1 := k.cores.foldl (fun s c => s.modCoreAt c fun c =>
        { c with
          ctxs := AMap.erase c.ctxs kern
          chunksIn := c.chunksIn.filter fun x => x.kern != kern
          slots := c.slots.map fun sl => if sl.ctx = some kern then {} else sl }) s
      let old (i : Nat) : Ctx := s.ctxOf (k.cores.getD i 0) kern
      let late (i : Nat) : List Chunk := (s.coreAt (k.cores.getD i 0)).chunksIn.filter fun x => x.kern = kern
      let s2 := (s1.moveBars kern k.cores cores).movePosts pkg kern k.cores cores
      .next ((((List.range cores.length).zip cores).foldl (fun s p =>
        ((s.placeCtx pkg k p.1 p.2 .restoring).reserveTables p.2 k).modCtxOf p.2 kern fun c =>
          { c with
            mailWait := (old p.1).mailWait, spill := (old p.1).spill ++ late p.1, copyRefs := (old p.1).copyRefs, kept := (old p.1).kept }) s2).modKernel pkg kern
          fun k => { k with state := .resuming, cores := cores })
    else .next s
  | none => .next s

/-! ### Retirement (09 R200) -/

/-- Whether a core has no engine command of a kernel left: no truss command, copy with its events, receive or send, and every access of its
tasks acknowledged. -/
def State.coreDrained (s : State) (core kern : Nat) : Bool :=
  let c := s.coreAt core
  !(c.truss.any fun t => t.kern == kern) && !(c.copyq.any fun q => q.2.any fun t => t.1 == kern) &&
    ((s.ctxOf core kern).chans.all fun ch => match ch.2.cur with
      | some t => t.st = .complete || t.st = .aborted
      | none => true) &&
    !(c.inject.any fun p => p.kern == kern) && !(c.sendErrors.any fun p => p.1 == kern) && !(c.ending.any fun e => e.1 == kern) && s.contextDone core kern &&
    s.errorsReady core kern 0

/-- COMPLETION_RECORD_WRITE (09 R200): with every engine command complete and the posted errors in the fault records, the kernel releases
at system scope, writes its record and gives back its KERNID. -/
def execCompletionRecordWrite (pkg kern : Nat) (s : State) : Host.Outcome State Fault Refusal :=
  match s.kernelAt pkg kern with
  | some k =>
    let posts := s.dies.any fun d => d.1 / 4 == pkg && ((d.2.posts.any fun p => p.kern == kern) || d.2.landings.any fun l => l.post.kern == kern)
    if k.state = .draining && !posts && s.barsQuiet pkg kern (fun _ => true) && (k.cores.all fun c => s.coreDrained c kern && s.cleanReady c) && s.recordReadyFor pkg kern then
      let s1 := k.cores.foldl (fun s c => s.flushLate c kern) s
      .next (((k.cores.foldl (fun s c => s.cleanBent c) s1).completion pkg k 1 0 0 0).freeKernel pkg kern k)
    else .next s
  | none => .next s

end Sys2Proof.Machine
end

