-- ==== Sys2Proof/Machine/ScalarFloat.lean ====
section
/-!
DEFINITION. Scalar floating point (04 R103, R104).
-/
namespace Sys2Proof.Machine

open Sys2Proof

/-- The format of the z field. -/
def scalarFmt (z : BitVec 1) : Fmt := if z = 0 then .fp32 else .fp64

/-- A rounding code of scalar floating point. -/
def roundMode (r : BitVec 3) : Rnd := if r = 0 then .rne else if r = 1 then .rz else if r = 2 then .rup else .rdn

/-- A floating operand in a general register; an FP32 source ignores the upper half. -/
def floatBits (f : Fmt) (x : Word) : Nat := x.toNat % 2 ^ f.width

/-- An operation on two sources of a format, with its latency. -/
def floatOp (i : Instr) (d a b : BitVec 5) (z : BitVec 1) (sc : BitVec 3) (f : Fmt → Nat → Nat → Nat) (lat : Nat) (fixed : Bool) (s : State) :
    Host.Outcome State Fault Refusal :=
  issue i [.g a, .g b] [.g d] s fun s =>
    let m := scalarFmt z
    (s.putG d (BitVec.ofNat 64 (f m (floatBits m (s.readG a)) (floatBits m (s.readG b)))) lat fixed (s.taints [a, b])).retire (stallOf sc)

/-- FADD (04 table 4.7). -/
def execFadd (d a b : BitVec 5) (z : BitVec 1) (r sc : BitVec 3) (s : State) : Host.Outcome State Fault Refusal :=
  floatOp (.fadd d a b z r sc) d a b z sc (fun m x y => roundF m (roundMode r) (addF (roundMode r) (decodeF m x) (decodeF m y))) 4 true s

/-- FSUB (04 table 4.7). -/
def execFsub (d a b : BitVec 5) (z : BitVec 1) (r sc : BitVec 3) (s : State) : Host.Outcome State Fault Refusal :=
  floatOp (.fsub d a b z r sc) d a b z sc (fun m x y => roundF m (roundMode r) (addF (roundMode r) (decodeF m x) (negF (decodeF m y)))) 4 true s

/-- FMUL (04 table 4.7). -/
def execFmul (d a b : BitVec 5) (z : BitVec 1) (r sc : BitVec 3) (s : State) : Host.Outcome State Fault Refusal :=
  floatOp (.fmul d a b z r sc) d a b z sc (fun m x y => roundF m (roundMode r) (mulF (decodeF m x) (decodeF m y))) 4 true s

/-- FMA (04 table 4.7): gd is also the addend, with one rounding. -/
def execFma (d a b : BitVec 5) (z : BitVec 1) (r sc : BitVec 3) (s : State) : Host.Outcome State Fault Refusal :=
  issue (.fma d a b z r sc) [.g a, .g b, .g d] [.g d] s fun s =>
    let m := scalarFmt z
    let x := decodeF m (floatBits m (s.readG a))
    let y := decodeF m (floatBits m (s.readG b))
    let w := decodeF m (floatBits m (s.readG d))
    (s.putG d (BitVec.ofNat 64 (roundF m (roundMode r) (addF (roundMode r) (mulF x y) w))) 4 true (s.taints [a, b, d])).retire (stallOf sc)

/-- FDIV (04 table 4.7), interlocked. -/
def execFdiv (d a b : BitVec 5) (z : BitVec 1) (r sc : BitVec 3) (s : State) : Host.Outcome State Fault Refusal :=
  floatOp (.fdiv d a b z r sc) d a b z sc (fun m x y => divF m (roundMode r) (decodeF m x) (decodeF m y)) (if z = 0 then 14 else 24) false s

/-- FSQRT (04 table 4.7), interlocked. -/
def execFsqrt (d a : BitVec 5) (z : BitVec 1) (r sc : BitVec 3) (s : State) : Host.Outcome State Fault Refusal :=
  issue (.fsqrt d a z r sc) [.g a] [.g d] s fun s =>
    let m := scalarFmt z
    (s.putG d (BitVec.ofNat 64 (sqrtF m (roundMode r) (decodeF m (floatBits m (s.readG a))))) (if z = 0 then 14 else 26) false
      (s.taints [a])).retire (stallOf sc)

/-- FMIN (04 R103). -/
def execFmin (d a b : BitVec 5) (z : BitVec 1) (sc : BitVec 3) (s : State) : Host.Outcome State Fault Refusal :=
  floatOp (.fmin d a b z sc) d a b z sc (fun m x y => minmaxF m false x y) 4 true s

/-- FMAX (04 R103). -/
def execFmax (d a b : BitVec 5) (z : BitVec 1) (sc : BitVec 3) (s : State) : Host.Outcome State Fault Refusal :=
  floatOp (.fmax d a b z sc) d a b z sc (fun m x y => minmaxF m true x y) 4 true s

/-- FCMP (04 R103). -/
def execFcmp (d a b : BitVec 5) (z : BitVec 1) (c sc : BitVec 3) (s : State) : Host.Outcome State Fault Refusal :=
  floatOp (.fcmp d a b z c sc) d a b z sc (fun m x y => (fcond m c.toNat x y).toNat) 4 true s

/-- The conversions of 04 table 4.8. -/
def fcvtWord (c : Nat) (mode : Rnd) (x : Word) : Word :=
  let n := x.toNat
  let f32 := n % 2 ^ 32
  let i32 (v : FVal) : Word := BitVec.ofInt 64 (toIntF mode (-(2 ^ 31 : Nat)) (2 ^ 31 - 1 : Nat) v)
  let i64 (v : FVal) : Word := BitVec.ofInt 64 (toIntF mode (-(2 ^ 63 : Nat)) (2 ^ 63 - 1 : Nat) v)
  let f (m : Fmt) (v : FVal) : Word := BitVec.ofNat 64 (roundF m mode v)
  match c with
  | 0 => f .fp64 (decodeF .fp32 f32)
  | 1 => f .fp32 (decodeF .fp64 n)
  | 2 => i32 (decodeF .fp32 f32)
  | 3 => i64 (decodeF .fp32 f32)
  | 4 => i32 (decodeF .fp64 n)
  | 5 => i64 (decodeF .fp64 n)
  | 6 => f .fp32 (ofIntF (toSigned 32 n))
  | 7 => f .fp32 (ofIntF (toSigned 64 n))
  | 8 => f .fp64 (ofIntF (toSigned 32 n))
  | 9 => f .fp64 (ofIntF (toSigned 64 n))
  | 10 => f .bf16 (decodeF .fp32 f32)
  | 11 => f .fp32 (decodeF .bf16 (n % 2 ^ 16))
  | 12 => f .fp16 (decodeF .fp32 f32)
  | _ => f .fp32 (decodeF .fp16 (n % 2 ^ 16))

/-- FCVT (04 R104). -/
def execFcvt (d a c : BitVec 5) (r sc : BitVec 3) (s : State) : Host.Outcome State Fault Refusal :=
  issue (.fcvt d a c r sc) [.g a] [.g d] s fun s =>
    (s.putG d (fcvtWord c.toNat (roundMode r) (s.readG a)) 4 true (s.taints [a])).retire (stallOf sc)

/-- FCLASS (04 R103). -/
def execFclass (d a : BitVec 5) (z : BitVec 1) (sc : BitVec 3) (s : State) : Host.Outcome State Fault Refusal :=
  issue (.fclass d a z sc) [.g a] [.g d] s fun s =>
    (s.putG d (1#64 <<< fclassBit (scalarFmt z) (floatBits (scalarFmt z) (s.readG a))) 4 true (s.taints [a])).retire (stallOf sc)

end Sys2Proof.Machine
end

