-- ==== Sys2Proof/Machine/Truss.lean ====
section
/-!
DEFINITION. The truss (14 R261 to R282): the registers of MG, the checks of an operation, the command queues with their arbitration, units
and their commits (03 R75 to R78), gangs, recorded faults, chained operations and stops.

Readings of the manual and choices that this file codes: assumption log 49, 89, 90, 91, 92, 93, 94.
-/
namespace Sys2Proof.Machine

open Sys2Proof

/-! ### MG (14 tables 14.1 to 14.6) -/

/-- A register of MG as a number. -/
def mgReg (mg : AMap Word) (i : Nat) : Nat := (AMap.getD mg i 0).toNat

/-- The bits of register i that are not reserved. -/
def mgMask (i : Nat) : Word :=
  if i < 2 then 0x1FF
  else if i = 2 then 0xFFFF
  else if i < 5 then 0xFFFFFFFFFFFF
  else if i < 9 then 0xFFFFFFFFFFFFFFFF
  else if i = 9 then 0xFFF0FFF
  else if i = 10 then 0xF7
  else 0x800000003FFF0003

/-- Bytes of a C row. -/
def rowStride (mg : AMap Word) : Nat := (mgReg mg 1 + 63) / 64 * 256

/-- The length of the C window: of the store above task mode. -/
def Ctx.storeLimit (c : Ctx) (sup : Bool) (code : Nat) : Nat := if sup then 0x20000 else (c.window code).size

/-- Physical offset of the region of a command in the C-store of a core. -/
def State.regionBase (s : State) (core kern : Nat) (sup : Bool) (mg : AMap Word) : Nat := s.sideBase core kern sup 3 + mgReg mg 5 % 2 ^ 48

/-- Whether a granule of n bytes at a physical offset of the C-store is poisoned. -/
def Core.granulePoisoned (c : Core) (off n : Nat) : Bool := c.poisonC.any fun g => decide (off < 256 * g + 256) && decide (256 * g < off + n)

/-! ### Operand pairs (14 table 14.7, 03 table 3.8) -/

/-- The class of an operand format: 1 F4, 2 F8, 3 INT8, 4 H, 5 FP32; 0 none. -/
def trussClass (f : Nat) : Nat :=
  if f = 13 ∨ f = 20 then 1
  else if (9 ≤ f ∧ f ≤ 12) ∨ (16 ≤ f ∧ f ≤ 19) ∨ f = 21 ∨ f = 22 then 2
  else if f = 1 then 3
  else if f = 7 ∨ f = 8 then 4
  else if f = 6 then 5
  else 0

/-- Q of a format. -/
def chunkLength (f : Nat) : Nat := if f = 13 then 64 else if f = 7 ∨ f = 8 then 16 else if f = 6 then 8 else 32

/-- What a pair of operand formats gives: the format of C, twice D, and Q. -/
structure OperandPair where
  c : Nat
  d2 : Nat
  q : Nat
deriving DecidableEq, Repr

/-- The supported pairs. -/
def operandPair (fa fb : Nat) : Option OperandPair :=
  let x := trussClass fa
  let y := trussClass fb
  let q := Nat.min (chunkLength fa) (chunkLength fb)
  if fa = 22 ∨ x = 0 ∨ y = 0 then none
  else if x = 1 ∧ y = 1 then some ⟨6, 16, q⟩
  else if x ≤ 2 ∧ y ≤ 2 then some ⟨6, 8, q⟩
  else if x ≠ y then none
  else if x = 3 then some ⟨4, 8, q⟩
  else if x = 4 then some ⟨6, 4, q⟩
  else some ⟨6, 1, q⟩

/-- The least chunk length of a pair of which at most one format is known; 0 stands for an unknown one. -/
def leastChunk (fa fb : Nat) : Nat :=
  let one (f : Nat) := if trussClass f ≤ 3 then 32 else chunkLength f
  if fa = 0 ∧ fb = 0 then 8 else if fb = 0 then one fa else if fa = 0 then one fb else 8

/-! ### The checks at issue (14 table 14.9) -/

/-- The register that code 0x10 names. -/
def sizeBad (mg : AMap Word) (depth : Bool) : Option Nat :=
  let out (i hi : Nat) : Bool := mgReg mg i = 0 || decide (hi < mgReg mg i)
  if out 0 128 then some (mgReg mg 0) else if out 1 256 then some (mgReg mg 1) else if depth && out 2 65535 then some (mgReg mg 2) else none

/-- Whether a pointer is refused by 03 R69 or lies outside spaces 0 to 2. -/
def operandSpaceBad (feature : Nat → Bool) (p : Word) : Bool := !descriptorOk feature p || decide (2 < spaceOf p)

/-- Code 0x12: CPTR, for the C format of a pair or, with none known, FP32 or INT32. -/
def cptrBad (feature : Nat → Bool) (limit : Nat) (mg : AMap Word) (format : Option Nat) : Bool :=
  let p := AMap.getD mg 5 0
  let f := formatOf p
  !descriptorOk feature p || spaceOf p != 3 || (match format with
    | some x => f != x
    | none => f != 6 && f != 4) || offsetOf p % 256 != 0 || decide (limit < offsetOf p + mgReg mg 0 * rowStride mg)

/-- Code 0x14 of one side: the offending value. -/
def operandBad (feature : Nat → Bool) (c : Ctx) (sup : Bool) (mg : AMap Word) (sideB : Bool) (p : Word) : Option Nat :=
  let stride := mgReg mg (if sideB then 4 else 3)
  let rows := mgReg mg (if sideB then 1 else 0)
  let f := formatOf p
  let last := if f = 22 then offsetOf p + 1 else offsetOf p + (rows - 1) * stride + (mgReg mg 2 * formatBits f + 7) / 8
  if operandSpaceBad feature p || offsetOf p % 64 != 0 then some p.toNat
  else if f != 22 && stride % 64 != 0 then some stride
  else if spaceOf p != 0 && decide (c.storeLimit sup (spaceOf p) < last) then some p.toNat
  else none

/-- Whether a format is an MX format. -/
def isMx (f : Nat) : Bool := decide (16 ≤ f) && decide (f ≤ 21)

/-- Code 0x15: the scale pointer of an MX operand. -/
def scaleBad (feature : Nat → Bool) (mg : AMap Word) (sideB : Bool) (p : Word) : Option Nat :=
  let x := AMap.getD mg (if sideB then 7 else 6) 0
  if isMx (formatOf p) && (operandSpaceBad feature x || (formatOf x != 0 && formatOf x != 15)) then some x.toNat else none

/-- A field of GANG (14 table 14.3). -/
def gangField (mg : AMap Word) (lo n : Nat) : Nat := mgReg mg 9 / 2 ^ lo % 2 ^ n
/-- ORIGIN. -/
def gangOrigin (mg : AMap Word) : Nat := gangField mg 8 4
/-- PR. -/
def gangRow (mg : AMap Word) : Nat := gangField mg 6 2
/-- PC. -/
def gangCol (mg : AMap Word) : Nat := gangField mg 4 2
/-- RM1. -/
def gangRows1 (mg : AMap Word) : Nat := gangField mg 2 2
/-- CM1. -/
def gangCols1 (mg : AMap Word) : Nat := gangField mg 0 2
/-- GID. -/
def gangId (mg : AMap Word) : Nat := gangField mg 16 12

/-- Code 0x13. -/
def gangBad (mg : AMap Word) : Bool :=
  decide (gangRows1 mg < gangRow mg) || decide (gangCols1 mg < gangCol mg) || decide (15 < gangOrigin mg + 4 * gangRows1 mg + gangCols1 mg) ||
    decide (3 < gangOrigin mg % 4 + gangCols1 mg)

/-- Code 0x17: PROG beyond the operation, of chunks of q elements. -/
def progBad (mg : AMap Word) (q : Nat) : Bool :=
  let p := mgReg mg 11
  p / 2 ^ 63 == 1 && (decide ((mgReg mg 0 + 63) / 64 ≤ p % 4) || decide ((mgReg mg 2 + q - 1) / q ≤ p / 2 ^ 16 % 2 ^ 14))

/-- Whether an operation reads a side from its own pointer (14 R272). -/
def loadsSide (kind : TrussKind) (mg : AMap Word) (sideB : Bool) : Bool := kind ≠ .mmaco || (if sideB then gangRow mg else gangCol mg) == 0

/-- The code of the first failing check of an operation in the order of 14 table 14.9, GANG last (14 R271, R272), with the offending value;
of a pair that has no single one, none. -/
def opRefused (feature : Nat → Bool) (c : Ctx) (sup : Bool) (kind : TrussKind) (mg : AMap Word) (a b : Word) : Option (Nat × Option Nat) :=
  let la := loadsSide kind mg false
  let lb := loadsSide kind mg true
  let pair := if la && lb then operandPair (formatOf a) (formatOf b) else none
  let q := match pair with
    | some p => p.q
    | none => leastChunk (if la then formatOf a else 0) (if lb then formatOf b else 0)
  let val (code : Nat) (x : Option Nat) : Option (Nat × Option Nat) := x.map fun v => (code, some v)
  let test (code i : Nat) (x : Bool) : Option (Nat × Option Nat) := if x then some (code, some (mgReg mg i)) else none
  [val 0x10 (sizeBad mg true),
   if la && lb && pair.isNone then some (0x11, none) else none,
   test 0x12 5 (cptrBad feature (c.storeLimit sup 3) mg (pair.map OperandPair.c)),
   val 0x14 (if la then operandBad feature c sup mg false a else none),
   val 0x14 (if lb then operandBad feature c sup mg true b else none),
   val 0x15 (if la then scaleBad feature mg false a else none),
   val 0x15 (if lb then scaleBad feature mg true b else none),
   test 0x16 8 (lb && formatOf b = 22 && (operandSpaceBad feature (AMap.getD mg 8 0) || mgReg mg 8 % 4 != 0)),
   test 0x17 11 (progBad mg q),
   test 0x13 9 (kind = .mmaco && gangBad mg)].findSome? id

/-- The code of the first failing check of MZERO and MSAVE (14 R274). -/
def regionRefused (feature : Nat → Bool) (c : Ctx) (sup : Bool) (mg : AMap Word) : Option (Nat × Option Nat) :=
  match sizeBad mg false with
  | some v => some (0x10, some v)
  | none => if cptrBad feature (c.storeLimit sup 3) mg none then some (0x12, some (mgReg mg 5)) else none

/-! ### Queues -/

/-- Whether a context stops its truss work: one of its tasks was force-stopped, or it is being saved (14 R278, 19 R355, R360). -/
def Core.trussStops (c : Core) (kern : Nat) : Bool :=
  (c.ctxAt kern).state = .saving || c.slots.toList.any fun sl => sl.ctx = some kern && sl.run = .stopped

/-- The head of a truss queue: its first command that is not set aside (14 R261). -/
def Core.trussHead (c : Core) : Option TrussCmd := c.truss.find? fun t => !t.held

/-- Whether a command can run: its context is on the core and its earlier commands under a QFENCE are complete. -/
def Core.trussGoes (c : Core) (t : TrussCmd) : Bool :=
  !t.stopped && c.mayBegin t.after &&
    (match AMap.find? c.ctxs t.kern with
     | some x => x.state = .ready || x.state = .running || x.state = .parked || x.state = .draining || x.state = .saving
     | none => true)

/-- The command that is Running (14 table 14.12). -/
def Core.trussRunning (c : Core) : Option TrussCmd :=
  match c.trussHead with
  | some t => if c.trussGoes t then some t else none
  | none => none

/-- Replaces a command of a queue. -/
def State.modCmd (s : State) (core uid : Nat) (f : TrussCmd → TrussCmd) : State :=
  s.modCoreAt core fun c => { c with truss := c.truss.map fun t => if t.uid = uid then f t else t }

/-- Takes a command out of a queue. -/
def State.dropCmd (s : State) (core uid : Nat) : State := s.modCoreAt core fun c => { c with truss := c.truss.filter fun t => t.uid != uid }

/-- PROG at a unit (14 table 14.5). -/
def progWord (rb chunk : Nat) : Word := BitVec.ofNat 64 (2 ^ 63 + chunk % 2 ^ 14 * 2 ^ 16 + rb % 4)

/-- Sets a register of MG of a context. -/
def State.setMg (s : State) (core kern i : Nat) (v : Word) : State := s.modCtxOf core kern fun c => { c with mg := AMap.set c.mg i v }

/-- The first unit of a copy of MG (14 R268). -/
def startUnit (mg : AMap Word) : Nat × Nat :=
  let p := mgReg mg 11
  if p / 2 ^ 63 = 1 then (p % 4, p / 2 ^ 16 % 2 ^ 14) else (0, 0)

/-- Whether a command is an operation of the array. -/
def TrussCmd.array (t : TrussCmd) : Bool := t.kind = .mma || t.kind = .mmaco

/-- The unit number of a row block and a chunk. -/
def unitNumber (rb chunk : Nat) : Nat := rb * 2 ^ 14 + chunk

/-- The unit that an operation works next. -/
def TrussCmd.unit (t : TrussCmd) : Nat := unitNumber t.rb t.chunk

/-- The pair of an operation; none until a member of a gang knows both formats. -/
def TrussCmd.pair (t : TrussCmd) : Option OperandPair := operandPair (formatOf t.a) (formatOf t.b)

/-- Chunks of a row block. -/
def TrussCmd.chunks (t : TrussCmd) (q : Nat) : Nat := (mgReg t.mg 2 + q - 1) / q

/-- The unit after a unit; none after the last. -/
def TrussCmd.nextUnit (t : TrussCmd) (q u : Nat) : Option Nat :=
  let rb := u / 2 ^ 14
  let j := u % 2 ^ 14
  if j + 1 < t.chunks q then some (unitNumber rb (j + 1))
  else if rb + 1 < (mgReg t.mg 0 + 63) / 64 then some (unitNumber (rb + 1) 0)
  else none

/-- Whether an access to PROG by a slot waits: a command that was issued before the access is neither complete, stopped nor held (14 R270). -/
def Core.progBusy (c : Core) (sl : Slot) : Bool := c.truss.any fun t => !t.held && !t.stopped && decide (t.uid < sl.mark.getD c.nextCmd)

/-- The current slot waits for the commands issued before its access to PROG. -/
def State.progWait (s : State) : State := (s.modSlot fun sl => { sl with mark := some (sl.mark.getD s.core.nextCmd) }).wait

/-- Puts a command at the end of a core's queue; behind a recorded fault of its context it is held (14 R276). -/
def State.enqueueTruss (s : State) (core : Nat) (t : TrussCmd) : State :=
  let c := s.ctxOf core t.kern
  let u := startUnit t.mg
  s.modCoreAt core fun x =>
    { x with truss := x.truss ++ [{ t with uid := x.nextCmd, rb := u.1, chunk := u.2, held := c.ecode ≠ 0 }], nextCmd := x.nextCmd + 1 }

/-- The core whose queue a chained copy of a core enters (14 R277). -/
def Transfer.target (t : Transfer) (core : Nat) : Nat := if spaceOf t.dst = 4 then remoteCore t.dst else core

/-- Whether a chained copy waits to enter a core's queue; it goes before every command that a core issues. -/
def State.chainWaits (s : State) (core : Nat) : Bool :=
  s.cores.any fun x => x.2.ctxs.any fun c => c.2.chans.any fun ch =>
    match ch.2.cur with
    | some t => t.chained && t.st = .running && t.target x.1 == core && s.copyWhole x.1 c.1 t t.covered
    | none => false

/-- Issues a command of the current slot: it waits while the queue is full, releases at core scope toward the truss, and takes a sequence
number (14 R261, R264). -/
def State.issueTruss (s : State) (kind : TrussKind) (a b : Word) : State :=
  if 32 ≤ s.core.truss.length || s.chainWaits s.cur then s.wait
  else s.released 1 fun s =>
    let seq := nextSeq s.ctx.trussSeq
    let t : TrussCmd :=
      { kern := s.kern, owner := s.ctx.rank.toNat, slot := s.slot.num.toNat, sup := s.slot.mode ≠ .task, seq := seq, kind := kind
        mg := s.ctx.mg.filter fun (p : Nat × Word) => decide (p.1 < 12), a := a, b := b, after := s.fencedFor 0 }
    (((s.enqueueTruss s.cur t).modCtx fun c => { c with trussSeq := seq }).modSlot fun sl => { sl with trussLast := seq }).retire

/-- The trap of a check that fails at issue (14 R271). -/
def State.trussTrap (s : State) (code : Nat) (value : Option Nat) : State :=
  match value with
  | some v => s.trap Cause.engineFault (BitVec.ofNat 64 code) (BitVec.ofNat 64 v)
  | none => s.bump.trap Cause.engineFault (BitVec.ofNat 64 code) ((Config.freeValue s.fresh).setWidth 64)

/-! ### STAT (14 table 14.6) -/

/-- STAT of a context as it stands. -/
def State.trussStat (s : State) (core kern : Nat) : Word :=
  let c := s.coreAt core
  let x := s.ctxOf core kern
  let busy : Bool := match c.trussRunning with
    | some t => t.kern == kern
    | none => false
  BitVec.ofNat 64 (x.doneSeq.toNat * 2 ^ 32 + x.ecode.toNat * 2 ^ 24 + (c.granulePoisoned x.cwin.base x.cwin.size).toNat * 2 ^ 19 +
    x.stop.toNat * 2 ^ 18 + busy.toNat * 2 ^ 17 + (c.truss.filter fun t => t.kern = kern).length)

/-- A register of MG as MGET and its mirror read it. -/
def State.mgRead (s : State) (core kern i : Nat) : Word := if i = 12 then s.trussStat core kern else AMap.getD (s.ctxOf core kern).mg i 0

/-- The core of the context that issued a command in a core's queue. -/
def State.ownerCore (s : State) (core : Nat) (t : TrussCmd) : Nat :=
  if (s.ctxOf core t.kern).rank.toNat = t.owner then core
  else
    match s.kernelAt (pkgOf core) t.kern with
    | some k => k.cores.getD t.owner core
    | none => core

/-- No head of a core's queue is ready, unless one works a unit (14 R262): the next operation has first to gather its operands. -/
def State.idleQueue (s : State) (core : Nat) : State := s.modCoreAt core fun c => { c with wasReady := c.wasReady && c.granted }

/-- The completion of a command: it leaves the queue, and DONESEQ of the context that issued it takes its number. -/
def State.completeCmd (s : State) (core : Nat) (t : TrussCmd) : State :=
  ((s.dropCmd core t.uid).idleQueue core).modCtxOf (s.ownerCore core t) t.kern fun c => { c with doneSeq := t.seq }

/-- Marks the slot of a number of a context: a command of it was discarded. -/
def State.markLost (s : State) (core kern num : Nat) : State :=
  s.modCoreAt core fun c => { c with slots := c.slots.map fun sl => if sl.ctx = some kern && sl.num.toNat = num then { sl with trussLost := true } else sl }

/-- A write of ECODE (14 R276): 0 restarts the held commands of the context, 0xFF discards them. -/
def State.writeEcode (s : State) (core kern code : Nat) : State :=
  let clear (s : State) : State := s.modCtxOf core kern fun c => { c with ecode := 0, stop := false }
  if code = 0 then
    clear (s.modCoreAt core fun c => { c with truss := c.truss.map fun t => if t.kern = kern then { t with held := false } else t })
  else if code = 0xFF then
    clear (((s.coreAt core).truss.filter fun t => t.kern = kern && t.held).foldl (fun s t =>
      (s.completeCmd core t).markLost (s.ownerCore core t) kern t.slot) s)
  else s

/-- A write of a register of MG by MSET or its mirror: reserved bits are cleared; STAT takes only ECODE. -/
def State.mgWrite (s : State) (core kern i : Nat) (v : Word) : State :=
  if i = 12 then s.writeEcode core kern (v.toNat / 2 ^ 24 % 256) else s.setMg core kern i (v &&& mgMask i)

/-! ### MSET, MGET, MMA, MMACO, MSAVE, MLOAD, MZERO, MWAIT -/

/-- MSET (14 R270). -/
def execMset (a m : BitVec 5) (s : State) : Host.Outcome State Fault Refusal :=
  issue (.mset a m) [.g a] [] s fun s =>
    if m = 11 && s.core.progBusy s.slot then s.progWait else (s.mgWrite s.cur s.kern m.toNat (s.readG a)).retire

/-- MGET (14 R270). -/
def execMget (m d : BitVec 5) (s : State) : Host.Outcome State Fault Refusal :=
  issue (.mget m d) [] [.g d] s fun s =>
    if m = 11 && s.core.progBusy s.slot then s.progWait else (s.putG d (s.mgRead s.cur s.kern m.toNat) 2 false).retire

/-- An operation of either form: its checks, then its issue. -/
def State.issueOp (s : State) (kind : TrussKind) (a b : Word) : State :=
  match opRefused s.hasFeature s.ctx (s.slot.mode ≠ .task) kind s.ctx.mg a b with
  | some (code, v) => s.trussTrap code v
  | none => s.issueTruss kind a b

/-- MMA (14 R271). -/
def execMma (a b : BitVec 5) (s : State) : Host.Outcome State Fault Refusal :=
  issue (.mma a b) [.g a, .g b] [] s fun s => s.issueOp .mma (s.readG a) (s.readG b)

/-- MMACO (14 R272): a register of a side that the member does not load is ignored, and is no source. -/
def execMmaco (a b : BitVec 5) (s : State) : Host.Outcome State Fault Refusal :=
  issue (.mmaco a b) ((if gangCol s.ctx.mg = 0 then [.g a] else []) ++ if gangRow s.ctx.mg = 0 then [.g b] else []) [] s fun s =>
    s.issueOp .mmaco (if gangCol s.ctx.mg = 0 then s.readG a else 0) (if gangRow s.ctx.mg = 0 then s.readG b else 0)

/-- Checks 2 to 4 of 04 table 4.5 on the address of an image (14 R274). -/
def imageChecked (a : BitVec 5) (s : State) (body : Word → State) : State :=
  let p := s.readG a
  if !descriptorOk s.hasFeature p then s.trap Cause.descriptor p
  else if p.toNat % 256 ≠ 0 then s.trap Cause.dmisalign p
  else if spaceOf p ≠ 0 then s.trap Cause.spacePermission p
  else body p

/-- MSAVE (14 R274). -/
def execMsave (a : BitVec 5) (s : State) : Host.Outcome State Fault Refusal :=
  issue (.msave a) [.g a] [] s fun s => imageChecked a s fun p =>
    match regionRefused s.hasFeature s.ctx (s.slot.mode ≠ .task) s.ctx.mg with
    | some (code, v) => s.trussTrap code v
    | none => s.issueTruss (.msave p) 0 0

/-- MLOAD (14 R274). -/
def execMload (a : BitVec 5) (s : State) : Host.Outcome State Fault Refusal :=
  issue (.mload a) [.g a] [] s fun s => imageChecked a s fun p => s.issueTruss (.mload p) 0 0

/-- MZERO (14 R274). -/
def execMzero (s : State) : Host.Outcome State Fault Refusal :=
  issue .mzero [] [] s fun s =>
    match regionRefused s.hasFeature s.ctx (s.slot.mode ≠ .task) s.ctx.mg with
    | some (code, v) => s.trussTrap code v
    | none => s.issueTruss .mzero 0 0

/-- The commands of the current slot that stand in a queue, with the core of the queue. -/
def State.trussPending (s : State) : List (Nat × TrussCmd) :=
  s.cores.flatMap fun c => (c.2.truss.filter fun t => t.owner = s.ctx.rank.toNat && t.slot = s.slot.num.toNat && t.kern = s.kern && pkgOf c.1 = pkgOf s.cur).map fun t => (c.1, t)

/-- Whether a chained operation of the current slot has still to enter its queue (14 R277). -/
def State.chainPending (s : State) : Bool :=
  let mine (t : Transfer) : Bool := t.chained && t.open && t.slot == s.core.curSlot.val
  (s.core.copyq.any fun q => q.2.any fun p => p.1 = s.kern && mine p.2) ||
    s.ctx.chans.any fun ch => match ch.2.cur with
      | some t => mine t
      | none => false

/-- MWAIT and MWAIT.t (14 R273): bit 62 tells of any command of the slot that was discarded, for each of them is one that the instruction covers. -/
def mwaitOp (i : Instr) (test : Bool) (d : BitVec 5) (s : State) : Host.Outcome State Fault Refusal :=
  issue i [] [.g d] s fun s =>
    match s.trussPending.find? fun (p : Nat × TrussCmd) => p.2.held with
    | some (core, t) =>
      let c := s.ctxOf core t.kern
      let p := mgReg c.mg 11
      s.trap (if c.ecode = 7 ∨ c.ecode = 8 then Cause.mce else Cause.engineFault) (c.ecode.setWidth 64)
        (BitVec.ofNat 64 (p % 4 * 2 ^ 62 + p / 2 ^ 16 % 2 ^ 14 * 2 ^ 48 + c.efault.toNat % 2 ^ 48))
    | none =>
      if s.trussPending.isEmpty && !s.chainPending then
        let v := BitVec.ofNat 64 (s.slot.trussLost.toNat * 2 ^ 62 + s.slot.trussLast.toNat)
        ((s.acquire s.cur 1).putG d v 2 false).retire
      else if test then (s.putG d (BitVec.ofNat 64 (2 ^ 63)) 2 false).retire
      else s.wait

/-- MWAIT (14 R273). -/
def execMwait (d : BitVec 5) (s : State) : Host.Outcome State Fault Refusal := mwaitOp (.mwait d) false d s

/-- MWAIT.t (14 R273). -/
def execMwaitT (d : BitVec 5) (s : State) : Host.Outcome State Fault Refusal := mwaitOp (.mwaitT d) true d s

/-! ### Recorded faults (14 R276) -/

/-- Records a fault of a command: the command and the later ones of its context on the core are held, and PROG names the unit. -/
def State.recordTruss (s : State) (core : Nat) (t : TrussCmd) (code : Nat) (addr : Word) : State :=
  let l := (s.coreAt core).truss
  let at_ := l.findIdx fun x => x.uid = t.uid
  let s1 := s.modCoreAt core fun c =>
    { c with
      granted := c.granted && (match c.trussHead with
        | some h => h.uid != t.uid
        | none => false)
      truss := c.truss.mapIdx fun i x => if at_ ≤ i && x.kern = t.kern then { x with held := true, present := false } else x }
  let s2 := (s1.modCtxOf core t.kern fun c => { c with ecode := BitVec.ofNat 8 code, stop := true, efault := addr }).idleQueue core
  if t.array then s2.setMg core t.kern 11 (progWord t.rb t.chunk) else s2

/-! ### Reading operands (14 R266, R267) -/

/-- What a load pipe meets: a fault code with the address concerned, or a wait. -/
inductive TrussStop where
  | fault (code : Nat) (addr : Word)
  | wait
deriving DecidableEq, Repr

/-- n bytes of space 0 as the load pipes read them, through their own TLB (14 R267). -/
def State.pipeRead (s : State) (core kern : Nat) (a : Word) (n : Nat) : State × Except SideStop Nat :=
  let o := offsetOf a
  let sp := s.kernelSpace (pkgOf core) kern core
  space0Read core a (State.rangeBy (fun s va => s.pipeXlat core sp.1 sp.2 va) s (bentOf core) o n (n / 2 ^ 15 + 2))

/-- A read for a command with its fault code. -/
def trussResult (r : State × Except SideStop Nat) : State × Except TrussStop Nat :=
  match r with
  | (s1, .ok v) => (s1, .ok v)
  | (s1, .error (.fault va _)) => (s1, .error (.fault 0x01 va))
  | (s1, .error (.error c va)) => (s1, .error (.fault (if c = 2 then 0x02 else 0x07) va))
  | (s1, .error .wait) => (s1, .error .wait)

/-- n bytes at an address of a command as the load pipes read them, within its window in spaces 1 and 2. -/
def State.trussRead (s : State) (core : Nat) (t : TrussCmd) (a : Word) (n : Nat) : State × Except TrussStop Nat :=
  if spaceOf a = 0 then trussResult (s.pipeRead core t.kern a n)
  else if (s.ctxOf core t.kern).storeLimit t.sup (spaceOf a) < offsetOf a + n then (s, .error (.fault 0x14 a))
  else trussResult (s.sideRead core t.kern t.sup a n)

/-- The elements of an XE8 row of k blocks of n elements in a stream of total bytes; a malformed block and the later ones are NaN (03 R67). -/
def xe8Elements (n total stream : Nat) : Nat → List Nat
  | 0 => []
  | k + 1 =>
    match xe8Block n stream with
    | some (es, len) =>
      if len ≤ total then es ++ xe8Elements n (total - len) (stream / 2 ^ (8 * len)) k else List.replicate (n * (k + 1)) 0x7F
    | none => List.replicate (n * (k + 1)) 0x7F

/-- Elements first to first + q - 1 of row i of a side. -/
def State.readElements (s : State) (core : Nat) (t : TrussCmd) (sideB : Bool) (i first q : Nat) : State × Except TrussStop (List Nat) :=
  let p := if sideB then t.b else t.a
  let f := formatOf p
  if f = 22 then
    match s.trussRead core t (movePtr (AMap.getD t.mg 8 0) (4 * i : Nat)) 8 with
    | (s1, .error e) => (s1, .error e)
    | (s1, .ok v) =>
      let e0 : Nat := v % 2 ^ 32
      let e1 : Nat := v / 2 ^ 32
      let n := 2 ^ (blogOf p + 3)
      if e1 < e0 then (s1, .ok (List.replicate q 0x7F))
      else
        match s1.trussRead core t (movePtr p (e0 : Nat)) (e1 - e0) with
        | (s2, .error e) => (s2, .error e)
        | (s2, .ok x) => (s2, .ok (((xe8Elements n (e1 - e0) x ((mgReg t.mg 2 + n - 1) / n)).drop first).take q))
  else
    let w := formatBits f
    let lo := first * w / 8
    let hi := ((first + q) * w + 7) / 8
    match s.trussRead core t (movePtr p (i * mgReg t.mg (if sideB then 4 else 3) + lo : Nat)) (hi - lo) with
    | (s1, .error e) => (s1, .error e)
    | (s1, .ok x) => (s1, .ok ((List.range q).map fun k => x / 2 ^ ((first + k) * w - 8 * lo) % 2 ^ w))

/-- The scale byte of row i of a side for the block of element first; 127 (one) for a side without scales. -/
def State.readScale (s : State) (core : Nat) (t : TrussCmd) (sideB : Bool) (i first : Nat) : State × Except TrussStop Nat :=
  let p := if sideB then t.b else t.a
  if isMx (formatOf p) then
    s.trussRead core t (movePtr (AMap.getD t.mg (if sideB then 7 else 6) 0) (i * ((mgReg t.mg 2 + 31) / 32) + first / 32 : Nat)) 1
  else (s, .ok 127)

/-- Rows i on of a side, k of them: elements and scales. -/
def State.readRows (s : State) (core : Nat) (t : TrussCmd) (sideB : Bool) (i first q : Nat) :
    Nat → State × Except TrussStop (List (List Nat) × List Nat)
  | 0 => (s, .ok ([], []))
  | k + 1 =>
    match s.readElements core t sideB i first q with
    | (s1, .error e) => (s1, .error e)
    | (s1, .ok es) =>
      match s1.readScale core t sideB i first with
      | (s2, .error e) => (s2, .error e)
      | (s2, .ok x) =>
        match State.readRows s2 core t sideB (i + 1) first q k with
        | (s3, .error e) => (s3, .error e)
        | (s3, .ok (rest, xs)) => (s3, .ok (es :: rest, x :: xs))

/-- The geometry that the members of a gang share (14 R275). -/
def gangGeometry (mg : AMap Word) : List Nat :=
  [mgReg mg 0, mgReg mg 1, mgReg mg 2, mgReg mg 10 % 8, gangRows1 mg, gangCols1 mg, gangOrigin mg]

/-- The operands of a unit for one side, with the pair's chunk length. -/
def State.readChunk (s : State) (core : Nat) (t : TrussCmd) (sideB : Bool) (u q : Nat) : State × Except TrussStop Chunk :=
  let rb := u / 2 ^ 14
  let first := u % 2 ^ 14 * q
  let n := Nat.min q (mgReg t.mg 2 - first)
  let r := if sideB then s.readRows core t true 0 first n (mgReg t.mg 1)
    else s.readRows core t false (rb * 64) first n (Nat.min 64 (mgReg t.mg 0 - rb * 64))
  match r with
  | (s1, .error e) => (s1, .error e)
  | (s1, .ok (es, xs)) =>
    (s1, .ok { kern := t.kern, gid := gangId t.mg, geom := gangGeometry t.mg, unit := u, sideB := sideB
               fmt := formatOf (if sideB then t.b else t.a), elems := es, scales := xs })

/-! ### Units (03 R76 to R78, 14 R268) -/

/-- The exact value of an operand element (03 R59, R63, R65). -/
def operandValue (f scale x : Nat) : FVal :=
  if isMx f then mxValue (f - 16) scale x
  else decodeF (if f = 6 then .fp32 else if f = 7 then .bf16 else if f = 8 then .fp16 else if f = 10 then .e5m2 else if f = 11 then .e2m3
    else if f = 12 then .e3m2 else if f = 13 then .e2m1 else .e4m3) x

/-- The exact sum of a chunk's products; an exact zero is negative where every product is, or toward minus infinity (03 R77). -/
def chunkSum (mode : Rnd) (ps : List FVal) : FVal :=
  let v := ps.foldl (addF .rne) (.fin true 0 0)
  if v.isZero && mode = .rdn then .fin true 0 0 else v

/-- An accumulator after a chunk: FP32 rounded twice (03 R76), INT32 modulo 2^32 (03 R78). -/
def accumulate (p : OperandPair) (mode : Rnd) (fa fb sa sb : Nat) (as bs : List Nat) (c : Nat) : Nat :=
  if p.c = 4 then
    (((c : Int) + ((as.zip bs).map fun (x : Nat × Nat) => toSigned 8 x.1 * toSigned 8 x.2).foldl (· + ·) 0) % 2 ^ 32).toNat
  else
    let sum := chunkSum mode ((as.zip bs).map fun (x : Nat × Nat) => mulF (operandValue fa sa x.1) (operandValue fb sb x.2))
    let t := decodeF .fp32 (roundF .fp32 mode sum)
    roundF .fp32 mode (addF mode (decodeF .fp32 c) t)

/-- The C row after a unit, as a number of N accumulators. -/
def commitRow (p : OperandPair) (mode : Rnd) (zacc : Bool) (n old : Nat) (a b : Chunk) (i : Nat) : Nat :=
  packLanes 32 ((List.range n).map fun k =>
    accumulate p mode a.fmt b.fmt (a.scales.getD i 127) (b.scales.getD k 127) (a.elems.getD i []) (b.elems.getD k [])
      (if zacc then 0 else old / 2 ^ (32 * k) % 2 ^ 32))

/-- Whether the next unit's commit takes C as zero (14 table 14.4). -/
def TrussCmd.zeroed (t : TrussCmd) : Bool := mgReg t.mg 10 / 4 % 2 == 1 && t.chunk == 0

/-- Rows of the next unit's row block. -/
def TrussCmd.unitRows (t : TrussCmd) : Nat := Nat.min 64 (mgReg t.mg 0 - t.rb * 64)

/-- Physical offset of row i of the next unit's row block. -/
def State.unitRowAt (s : State) (core : Nat) (t : TrussCmd) (i : Nat) : Nat :=
  s.regionBase core t.kern t.sup t.mg + (t.rb * 64 + i) * rowStride t.mg

/-- Commits a unit to the C-store, one granule at a time (14 R268, R269); no monitor taps it (18 R336). -/
def State.commitUnit (s : State) (core : Nat) (t : TrussCmd) (p : OperandPair) (a b : Chunk) : State :=
  let n := mgReg t.mg 1
  let mode := roundMode (BitVec.ofNat 3 (mgReg t.mg 10 % 4))
  let base := s.unitRowAt core t 0
  let len := t.unitRows * rowStride t.mg
  s.modCoreAt core fun c =>
    { c with
      cstore := (List.range t.unitRows).foldl (fun m i =>
        let o := s.unitRowAt core t i
        Memory.writeNat m o (4 * n) (commitRow p mode t.zeroed n (Memory.readNat m o (4 * n)) a b i)) c.cstore
      poisonC := if t.zeroed then c.poisonC.filter fun g => !(decide (base ≤ 256 * g) && decide (256 * g < base + len)) else c.poisonC }

/-- Array cycles of the next unit (14 R268). -/
def TrussCmd.unitCycles (t : TrussCmd) (p : OperandPair) : Nat :=
  let q := Nat.min p.q (mgReg t.mg 2 - t.chunk * p.q)
  (mgReg t.mg 1 + 63) / 64 * ((2 * q + p.d2 - 1) / p.d2)

/-! ### Gangs (14 R275, R276) -/

/-- The cores that take the operand messages of a loader's side. -/
def TrussCmd.receivers (t : TrussCmd) (core : Nat) (sideB : Bool) : List Nat :=
  let at_ (r c : Nat) : Nat := bentOf core * 16 + (gangOrigin t.mg + 4 * r + c) % 16
  if t.kind ≠ .mmaco then []
  else if sideB then (List.range (gangRows1 t.mg)).map fun r => at_ (r + 1) (gangCol t.mg)
  else (List.range (gangCols1 t.mg)).map fun c => at_ (gangRow t.mg) (c + 1)

/-- The buffer of a side. -/
def TrussCmd.buffer (t : TrussCmd) (sideB : Bool) : List Chunk := if sideB then t.bufB else t.bufA

/-- Puts a chunk into a buffer. -/
def TrussCmd.push (t : TrussCmd) (x : Chunk) : TrussCmd := if x.sideB then { t with bufB := t.bufB ++ [x] } else { t with bufA := t.bufA ++ [x] }

/-- The member's operation of a gang, once it has been Running: the first command of the kernel in the queue. -/
def Core.gangCmd (c : Core) (kern gid : Nat) : Option TrussCmd :=
  match c.truss.find? fun t => t.kern = kern with
  | some t =>
    if t.kind = .mmaco && gangId t.mg = gid && (t.held || (match c.trussHead with
      | some h => h.uid == t.uid
      | none => false)) then some t else none
  | none => none

/-- Whether a context that has left its core was saved with its gang operation of a GID Running: it stopped, or it was held. -/
def Ctx.savedGang (x : Ctx) (gid : Nat) : Bool :=
  match x.kept.truss.head? with
  | some t => t.kind = .mmaco && gangId t.mg = gid && (x.stop || t.held)
  | none => false

/-- Whether a member holds a credit for a side (14 R276, R280): its operation is Running, or was when its context was saved, and fewer than four
chunks are in its buffers, on their way or in its spill ring. -/
def State.hasCredit (s : State) (core kern gid : Nat) (sideB : Bool) : Bool :=
  let c := s.coreAt core
  let x := s.ctxOf core kern
  let mine (l : List Chunk) : Nat := (l.filter fun y => y.kern = kern && y.gid = gid && y.sideB == sideB).length
  if x.state = .saved || (x.state = .restoring && !x.kept.truss.isEmpty) then x.savedGang gid && decide (mine x.spill + mine c.chunksIn < 4)
  else
    match c.gangCmd kern gid with
    | some t => decide (mine (t.buffer sideB) + mine x.spill + mine c.chunksIn < 4)
    | none => false

/-- The unit that a loader of a gang sends next for a side. -/
def TrussCmd.sendUnit (t : TrussCmd) (q : Nat) (sideB : Bool) : Option Nat :=
  match (t.buffer sideB).getLast? with
  | some x => t.nextUnit q x.unit
  | none => some t.unit

/-- OPERAND_CHUNK_SEND: a loader reads a chunk and sends it to every other member of its row or column, when each holds a credit. -/
def execOperandChunkSend (core : Nat) (sideB : Bool) (s : State) : Host.Outcome State Fault Refusal :=
  .next (match (s.coreAt core).trussRunning with
    | some t =>
      (match t.pair with
       | some p =>
         let rs := t.receivers core sideB
         let gid := gangId t.mg
         if !loadsSide t.kind t.mg sideB || rs.isEmpty || decide (4 ≤ (t.buffer sideB).length) || !(rs.all fun r => s.hasCredit r t.kern gid sideB) then s
         else
           (match t.sendUnit p.q sideB with
            | some u =>
              (match s.readChunk core t sideB u p.q with
               | (s1, .ok x) =>
                 rs.foldl (fun s r => s.modCoreAt r fun c => { c with chunksIn := c.chunksIn ++ [x] }) (s1.modCmd core t.uid fun t => t.push x)
               | (_, .error _) => s)
            | none => s)
       | none => s)
    | none => s)

/-- A pointer that holds a format and nothing else: what a member knows of a side that it does not load. -/
def formatPointer (f : Nat) : Word := BitVec.ofNat 64 (f * 2 ^ 56)

/-- A member's operation with the format that a message carries. -/
def TrussCmd.learn (t : TrussCmd) (x : Chunk) : TrussCmd := if x.sideB then { t with b := formatPointer x.fmt } else { t with a := formatPointer x.fmt }

/-- Whether a message does not agree with a member's geometry (14 R272, R276). -/
def TrussCmd.disagrees (t : TrussCmd) (x : Chunk) : Bool :=
  let known := formatOf (if x.sideB then t.b else t.a)
  let other := formatOf (if x.sideB then t.a else t.b)
  let u := t.learn x
  x.geom != gangGeometry t.mg || (known != 0 && known != x.fmt) ||
    (other != 0 && (match u.pair with
      | some p => p.c != formatOf (AMap.getD t.mg 5 0)
      | none => true))

/-- The bytes of an NI spill ring with messages in it: the manual gives an operand message no format, so they are free values. -/
def freeRing (fresh : Nat) : Nat := packLanes 512 ((List.range 1024).map fun i => (Config.freeValue (fresh + i)).toNat)

/-- An operand message goes into the NI spill ring of a core (14 R280, 06 table 6.4). -/
def State.spillChunk (s : State) (core : Nat) (x : Chunk) : State :=
  let s1 := s.modBentAt (bentOf core) fun b => { b with sram := Memory.writeNat b.sram (0x100000 + core % 16 * 0x10000) 0x10000 (freeRing s.fresh) }
  { s1 with fresh := s.fresh + 1024 }.modCtxOf core x.kern fun c => { c with spill := c.spill ++ [x] }

/-- OPERAND_MESSAGE_ARRIVAL: the oldest operand message on its way to a core arrives; to a context that is Saving or Saved it goes into the
spill ring (14 R280). -/
def execOperandMessageArrival (core : Nat) (s : State) : Host.Outcome State Fault Refusal :=
  .next (match (s.coreAt core).chunksIn with
    | [] => s
    | x :: rest =>
      let s1 := s.modCoreAt core fun c => { c with chunksIn := rest }
      (match AMap.find? (s.coreAt core).ctxs x.kern with
       | none => s1
       | some c =>
         if c.state = .restoring then s
         else if c.state = .saving || c.state = .saved then s1.spillChunk core x
         else
           (match (s.coreAt core).truss.find? fun t => t.kern = x.kern && t.kind = .mmaco && gangId t.mg = x.gid with
            | none => s1
            | some t =>
              if t.disagrees x then (if t.held then s1 else s1.recordTruss core t 0x03 0)
              else s1.modCmd core t.uid fun t => (t.learn x).push x)))

/-! ### Stops of a running command -/

/-- The first poisoned granule that the next unit's commit would read, as an address of C. -/
def State.poisonedUnit (s : State) (core : Nat) (t : TrussCmd) : Option Word :=
  if t.zeroed then none
  else
    ((s.coreAt core).poisonC.find? fun g => (List.range t.unitRows).any fun i =>
      let o := s.unitRowAt core t i
      decide (o ≤ 256 * g) && decide (256 * g < o + rowStride t.mg)).map fun g =>
        movePtr (AMap.getD t.mg 5 0) ((256 * g : Int) - s.regionBase core t.kern t.sup t.mg)

/-- The chunk of a side that a command works next: one that it holds, or, of a side that it loads for itself alone, one that it reads. -/
def State.sideChunk (s : State) (core : Nat) (t : TrussCmd) (p : OperandPair) (sideB : Bool) : State × Option (Except TrussStop Chunk) :=
  match (t.buffer sideB).head? with
  | some x => (s, if x.unit = t.unit then some (.ok x) else none)
  | none =>
    if loadsSide t.kind t.mg sideB && (t.receivers core sideB).isEmpty then
      match s.readChunk core t sideB t.unit p.q with
      | (s1, r) => (s1, some r)
    else (s, none)

/-- What stops a side: the read of the chunk that it works or sends next, or a member without a context of the kernel. -/
def State.sideStop (s : State) (core : Nat) (t : TrussCmd) (p : OperandPair) (sideB : Bool) : Option (Nat × Option Word) :=
  let rs := t.receivers core sideB
  if !loadsSide t.kind t.mg sideB then none
  else
    match rs.find? fun r => !s.hasCtx r t.kern with
    | some _ => some (0x04, none)
    | none =>
      let u := if rs.isEmpty then (if (t.buffer sideB).isEmpty then some t.unit else none) else t.sendUnit p.q sideB
      match u with
      | some u =>
        (match s.readChunk core t sideB u p.q with
         | (_, .error (.fault c a)) => some (c, some a)
         | _ => none)
      | none => none

/-- The header of a tile image that MLOAD reads: its MG registers as they are taken. -/
def imageMg (v : Nat) : AMap Word := (List.range 12).map fun i => (i, BitVec.ofNat 64 (v / 2 ^ (64 * i) % 2 ^ 64) &&& mgMask i)

/-- Whether the header of a tile image is malformed (14 R274). -/
def State.imageMalformed (s : State) (core : Nat) (t : TrussCmd) (v : Nat) : Bool :=
  v / 2 ^ (8 * 0x68) % 2 ^ (8 * 24) != 0 || v / 2 ^ (8 * 0xC0) != 0 ||
    (regionRefused (s.accepted core) (s.ctxOf core t.kern) t.sup (imageMg v)).isSome

/-- The bytes of the rows of a region. -/
def regionBytes (mg : AMap Word) : Nat := mgReg mg 0 * rowStride mg

/-- The image that MSAVE writes (14 table 14.10): a poisoned granule is written as zeros with its bit in PMAP. -/
def State.tileImage (s : State) (core : Nat) (t : TrussCmd) : Nat :=
  let base := s.regionBase core t.kern t.sup t.mg
  let c := s.coreAt core
  let n := regionBytes t.mg / 256
  let bad (g : Nat) : Bool := c.granulePoisoned (base + 256 * g) 256
  let regs := packLanes 64 ((List.range 12).map (mgReg t.mg) ++ [(s.trussStat core t.kern).toNat])
  let pmap := packLanes 1 ((List.range n).map fun g => (bad g).toNat)
  regs + pmap * 2 ^ (8 * 0x80) +
    packLanes 2048 ((List.range n).map fun g => if bad g then 0 else Memory.readNat c.cstore (base + 256 * g) 256) * 2 ^ 2048

/-- Writes an image's rows and poison into the C-store and its registers into MG; no monitor taps it. -/
def State.loadImage (s : State) (core : Nat) (t : TrussCmd) (header rows : Nat) : State :=
  let mg := imageMg header
  let base := s.regionBase core t.kern t.sup mg
  let n := regionBytes mg / 256
  let pmap := header / 2 ^ (8 * 0x80)
  let mine (g : Nat) : Bool := decide (base ≤ 256 * g) && decide (256 * g < base + 256 * n)
  (s.modCoreAt core fun c =>
    { c with
      cstore := (List.range n).foldl (fun m g => Memory.writeNat m (base + 256 * g) 256 (rows / 2 ^ (2048 * g) % 2 ^ 2048)) c.cstore
      poisonC := (c.poisonC.filter fun g => !mine g) ++ ((List.range n).filter fun g => pmap / 2 ^ g % 2 == 1).map (base / 256 + ·) }).modCtxOf core t.kern
    fun c => { c with mg := mg.foldl (fun (m : AMap Word) p => if t.keep.contains p.1 then m else AMap.set m p.1 p.2) c.mg }

/-- The result of a command at the C-store port: the state after it, a fault, or none while it waits. -/
def State.portCommand (s : State) (core : Nat) (t : TrussCmd) : State × Except TrussStop Unit :=
  match t.kind with
  | .mzero =>
    let base := s.regionBase core t.kern t.sup t.mg
    let n := regionBytes t.mg
    (s.modCoreAt core fun c =>
      { c with
        cstore := clearRange c.cstore base n
        poisonC := c.poisonC.filter fun g => !(decide (base ≤ 256 * g) && decide (256 * g < base + n)) }, .ok ())
  | .msave a =>
    match s.sideWrite core t.kern t.sup a (0x100 + regionBytes t.mg) (s.tileImage core t) with
    | (s1, none) => (s1, .ok ())
    | (s1, some (.fault va _)) => (s1, .error (.fault 0x01 va))
    | (s1, some (.error _ va)) => (s1, .error (.fault 0x02 va))
    | (s1, some .wait) => (s1, .error .wait)
  | .mload a =>
    match trussResult (s.sideRead core t.kern t.sup a 0x100) with
    | (s1, .error e) => (s1, .error e)
    | (s1, .ok header) =>
      if s1.imageMalformed core t header then (s1, .error (.fault 0x06 a))
      else
        match trussResult (s1.sideRead core t.kern t.sup (movePtr a 0x100) (regionBytes (imageMg header))) with
        | (s2, .error e) => (s2, .error e)
        | (s2, .ok rows) => (s2.loadImage core t header rows, .ok ())
  | .mma | .mmaco => (s, .error .wait)

/-- Why the running command of a core stops with a recorded fault: the code, and the address where the manual names one. -/
def State.trussStop (s : State) (core : Nat) (t : TrussCmd) : Option (Nat × Option Word) :=
  if t.array then
    match (if t.chained then opRefused (s.accepted core) (s.ctxOf core t.kern) t.sup t.kind t.mg t.a t.b else none) with
    | some (c, v) => some (c, v.map (BitVec.ofNat 64))
    | none =>
      match t.pair with
      | none => none
      | some p =>
        match s.poisonedUnit core t with
        | some a => some (0x08, some a)
        | none => (s.sideStop core t p false).or (s.sideStop core t p true)
  else
    match s.portCommand core t with
    | (_, .error (.fault c a)) => some (c, some a)
    | _ => none

/-- Whether an uncorrectable error can strike a running operation beside its reads: in an operand message that it takes, or in the XE8 decoder
(14 table 14.11). -/
def TrussCmd.struck (t : TrussCmd) : Bool :=
  t.array && (!loadsSide t.kind t.mg false || !loadsSide t.kind t.mg true || formatOf t.b = 22)

/-- TRUSS_RUNTIME_FAULT: a fault of the running command is recorded.  Where the manual names no address, the one recorded is free.  An
uncorrectable error in a message or in the XE8 decoder comes from outside the model, at any unit. -/
def execTrussRuntimeFault (core : Nat) (code : BitVec 8) (addr : BitVec 64) (s : State) : Host.Outcome State Fault Refusal :=
  .next (match (s.coreAt core).trussRunning with
    | some t =>
      (match s.trussStop core t with
       | some (c, some a) => if c = code.toNat && a = addr then s.recordTruss core t c a else s
       | some (c, none) => if c = code.toNat then s.bump.recordTruss core t c ((Config.freeValue s.fresh).setWidth 64) else s
       | none => if code = 7 && t.struck then s.bump.recordTruss core t 7 ((Config.freeValue s.fresh).setWidth 64) else s)
    | none => s)

/-! ### Arbitration and progress -/

/-- V_a is less than V_b (14 R262). -/
def clockLess (a b : BitVec 32) : Bool := (a - b).getLsbD 31

/-- The cores of a quad. -/
def coresOfQuad (quad : Nat) : List Nat := (List.range 4).map (quad * 4 + ·)

/-- Whether the head of a core's queue is ready: its unit's operands are present, or it works a unit. -/
def Core.headReady (c : Core) : Bool :=
  c.granted || (match c.trussRunning with
    | some t => t.present
    | none => false)

/-- The ready core of a list with the least clock; of equal ones the first. -/
def State.leastClock (s : State) (cores : List Nat) : Option Nat :=
  cores.foldl (fun (best : Option Nat) k =>
    match best with
    | none => some k
    | some b => if clockLess (s.coreAt k).vclock (s.coreAt b).vclock then some k else some b) none

/-- The clock of a queue whose head becomes ready after none of its heads was (14 R262). -/
def State.adjustedClock (s : State) (core : Nat) : BitVec 32 :=
  let v := (s.coreAt core).vclock
  match s.leastClock ((coresOfQuad (core / 4)).filter fun k => k ≠ core && (s.coreAt k).headReady) with
  | some k => if (v - (s.coreAt k).vclock).toNat ≤ 262144 then v else (s.coreAt k).vclock
  | none => v

/-- TRUSS_OPERANDS_PRESENT: the operands of the head's next unit are present. -/
def execTrussOperandsPresent (core : Nat) (s : State) : Host.Outcome State Fault Refusal :=
  .next (match (s.coreAt core).trussRunning with
    | some t =>
      if !t.array || t.present || (s.coreAt core).granted || (s.coreAt core).trussStops t.kern || (s.trussStop core t).isSome then s
      else
        (match t.pair with
         | some p =>
           (match s.sideChunk core t p false with
            | (s1, some (.ok a)) =>
              (match s1.sideChunk core t p true with
               | (s2, some (.ok b)) =>
                 (s2.modCmd core t.uid fun t =>
                   { t with present := true, bufA := if t.bufA.isEmpty then [a] else t.bufA, bufB := if t.bufB.isEmpty then [b] else t.bufB }).modCoreAt core
                   fun c => { c with vclock := if c.wasReady then c.vclock else s.adjustedClock core, wasReady := true }
               | _ => s)
            | _ => s)
         | none => s)
    | none => s)

/-- WEIGHT of an operation; 0 counts as 1. -/
def TrussCmd.weight (t : TrussCmd) : Nat := Nat.max 1 (mgReg t.mg 10 / 16 % 16)

/-- TRUSS_GRANT: the ready head of a quad with the least clock takes the array for one unit. -/
def execTrussGrant (quad : Nat) (s : State) : Host.Outcome State Fault Refusal :=
  .next (
    let cores := coresOfQuad quad
    if cores.any fun k => (s.coreAt k).granted then s
    else
      let ready := cores.filter fun k => (s.coreAt k).headReady && (match (s.coreAt k).trussRunning with
        | some t => !(s.coreAt k).trussStops t.kern
        | none => false)
      match s.leastClock ready with
      | none => s
      | some k =>
        match (s.coreAt k).trussRunning with
        | some t =>
          (match t.pair with
           | some p =>
             let n := t.unitCycles p
             let s1 := cores.foldl (fun s j => s.modCoreAt j fun c => { c with wasReady := ready.contains j }) s
             s1.modCoreAt k fun c => { c with granted := true, vclock := c.vclock + BitVec.ofNat 32 (n * 4096 / t.weight) }.count 0x8 n
           | none => s)
        | none => s)

/-- Stops an operation at its boundary (14 R278): PROG names the next unit and the operand messages that it holds go to the spill ring. -/
def State.stopCmd (s : State) (core : Nat) (t : TrussCmd) : State :=
  let s1 := (s.modCmd core t.uid fun t => { t with stopped := true, present := false, bufA := [], bufB := [] }).idleQueue core
  let s2 := (if t.kind = .mmaco then t.bufA ++ t.bufB else []).foldl (fun s x => s.spillChunk core x) s1
  (s2.modCtxOf core t.kern fun c => { c with stop := true }).setMg core t.kern 11 (progWord t.rb t.chunk)

/-- Whether the next unit's operands of a side stand ready behind a unit that commits: a chunk is in its buffer, or the member reads the side for
itself alone. -/
def TrussCmd.hasNext (t : TrussCmd) (core : Nat) (rest : List Chunk) (sideB : Bool) : Bool :=
  !rest.isEmpty || (loadsSide t.kind t.mg sideB && (t.receivers core sideB).isEmpty)

/-- UNIT_COMMIT: the granted unit commits as a whole, and the operation goes on to its next unit or completes; with stop set, an operation of
a context that stops its truss work stops at its boundary. -/
def execUnitCommit (core : Nat) (stop : Bool) (s : State) : Host.Outcome State Fault Refusal :=
  .next (match (s.coreAt core).trussRunning with
    | some t =>
      if !t.array then s
      else if stop then (if (s.coreAt core).granted || !(s.coreAt core).trussStops t.kern then s else s.stopCmd core t)
      else
        (match (s.coreAt core).granted, t.pair, t.bufA, t.bufB with
         | true, some p, a :: ra, b :: rb =>
           if (s.poisonedUnit core t).isSome then s
           else
             let s1 := (s.commitUnit core t p a b).modCoreAt core fun c => { c with granted := false }
             (match t.nextUnit p.q t.unit with
              | some u =>
                let s2 := s1.modCmd core t.uid fun t => { t with present := false, rb := u / 2 ^ 14, chunk := u % 2 ^ 14, bufA := ra, bufB := rb }
                if t.hasNext core ra false && t.hasNext core rb true then s2 else s2.idleQueue core
              | none => (s1.setMg core t.kern 11 0).completeCmd core t)
         | _, _, _, _ => s)
    | none => s)

/-- TRUSS_PORT_COMMAND_COMPLETE: the running MZERO, MSAVE or MLOAD of a core finishes. -/
def execTrussPortCommandComplete (core : Nat) (s : State) : Host.Outcome State Fault Refusal :=
  .next (match (s.coreAt core).trussRunning with
    | some t =>
      if t.array || (s.coreAt core).trussStops t.kern then s
      else
        (match s.portCommand core t with
         | (s1, .ok ()) => s1.completeCmd core t
         | _ => s)
    | none => s)

/-- ECODE_RESTART: a write of 0 to ECODE of a context with a recorded fault. -/
def execEcodeRestart (core kern : Nat) (s : State) : Host.Outcome State Fault Refusal :=
  .next (if (s.ctxOf core kern).ecode = 0 then s else s.writeEcode core kern 0)

/-- ECODE_DISCARD: a write of 0xFF to ECODE of a context with a recorded fault. -/
def execEcodeDiscard (core kern : Nat) (s : State) : Host.Outcome State Fault Refusal :=
  .next (if (s.ctxOf core kern).ecode = 0 then s else s.writeEcode core kern 0xFF)

/-- CHAINED_OPERATION_ENTRY: the operation of a copy whose last byte has landed enters the target core's queue, with the target context's
MG, and the copy completes; a failing check is recorded as a fault (14 R277). -/
def execChainedOperationEntry (core kern chan : Nat) (s : State) : Host.Outcome State Fault Refusal :=
  .next (match (s.chanOf core kern chan).cur with
    | some t =>
      let k := t.target core
      if !(t.chained && t.st = .running && s.copyWhole core kern t t.covered) || decide (32 ≤ (s.coreAt k).truss.length) || !s.hasCtx k kern then s
      else
        let x := s.ctxOf k kern
        let kind : TrussKind := if t.reg 8 / 2 ^ 62 % 2 = 1 then .mmaco else .mma
        let mg := t.mgKeep.foldl (fun (m : AMap Word) p => AMap.set m p.1 p.2) x.mg
        let c : TrussCmd :=
          { kern := kern, owner := (s.ctxOf core kern).rank.toNat, slot := (s.slotOf core t.slot).num.toNat, sup := t.sup, seq := t.chainSeq, kind := kind, chained := true
            mg := mg.filter fun (p : Nat × Word) => decide (p.1 < 12)
            a := if loadsSide kind mg false then chainPointer (t.reg 8 / 2 ^ 21) else 0
            b := if loadsSide kind mg true then chainPointer (t.reg 8) else 0 }
        let s1 := (s.enqueueTruss k c).completeCopy core kern chan t 0
        (match opRefused (s.accepted k) x t.sup kind c.mg c.a c.b, (s1.coreAt k).truss.getLast? with
         | some (code, v), some e =>
           if x.ecode ≠ 0 then s1
           else
             (match v with
              | some v => s1.recordTruss k e code (BitVec.ofNat 64 v)
              | none => s1.bump.recordTruss k e code ((Config.freeValue s1.fresh).setWidth 64))
         | _, _ => s1)
    | none => s)

end Sys2Proof.Machine
end

