-- ==== Sys2Proof/Machine/Contexts.lean ====
section
/-!
DEFINITION. Contexts that leave a core and come back (19 R355 to R364, R419): the budget and the forced stop, delivery of supervisor
records, the save area and its layout, saving and restoring.

Readings of the manual and choices that this file codes: assumption log 60, 96, 97, 98, 99, 100, 101, 102, 103.
-/
namespace Sys2Proof.Machine

open Sys2Proof

/-! ### The budget (19 R355, table 19.9) -/

/-- BUDGET of a context as it stands. -/
def State.budgetWord (s : State) (core kern : Nat) : Word :=
  let b := (s.ctxOf core kern).budget
  BitVec.ofNat 64 (b.pend.toNat * 2 ^ 63 + b.sarm.toNat * 2 ^ 62 + (b.left (s.cycleOf core)).toNat * 2 ^ 32 + b.limit.toNat)

/-- A supervisor's write of BUDGET by a slot: with PEND clear, SARM set loads REMAIN and records the slot, and SARM clear stops the count. -/
def State.writeBudget (s : State) (core slot : Nat) (v : Word) : State :=
  let now := s.cycleOf core
  match (s.slotOf core slot).ctx with
  | some k => s.modCtxOf core k fun c =>
      let b := { c.budget with limit := v.setWidth 24 }
      { c with budget :=
        if b.pend then b
        else if v.getLsbD 62 then { b with sarm := true, remain := (v >>> 32).setWidth 24, slot := (s.slotOf core slot).num, start := now }
        else { b with sarm := false, remain := c.budget.left now } }
  | none => s

/-- BUDGET_ARM: a write of BUDGET that sets SARM. -/
def execBudgetArm (core slot : Nat) (value : BitVec 64) (s : State) : Host.Outcome State Fault Refusal :=
  .next (if value.getLsbD 62 then s.writeBudget core slot value else s)

/-- The physical slot of a number of a context. -/
def Core.slotNumbered (c : Core) (kern : Nat) (num : BitVec 3) : Option Nat :=
  (List.range 8).find? fun n => (c.slotAt n).ctx = some kern && (c.slotAt n).num = num

/-- BUDGET_WATCHDOG_EXPIRY: SARM clears and the recorded slot takes BUDGET. -/
def execBudgetWatchdogExpiry (core kern : Nat) (s : State) : Host.Outcome State Fault Refusal :=
  let b := (s.ctxOf core kern).budget
  .next (if b.sarm && !b.pend && b.expired (s.cycleOf core) then
      let s1 := s.modCtxOf core kern fun c => { c with budget := { c.budget with sarm := false, remain := 0 } }
      match (s.coreAt core).slotNumbered kern b.slot with
      | some n => if (s.slotOf core n).run = .free then s1 else s1.asyncTrap core n Cause.budget 0 0
      | none => s1
    else s)

/-! ### Access to the save area (19 R361, R419) -/

/-- Values placed at byte offsets. -/
def placed (l : List (Nat × Nat)) : Nat := l.foldl (fun n p => n + p.2 * 2 ^ (8 * p.1)) 0

/-- A field of n bytes at a byte offset of a number. -/
def areaField (v off n : Nat) : Nat := v / 2 ^ (8 * off) % 2 ^ (8 * n)

/-- The physical pieces of n bytes of a save area. -/
def State.areaPieces (s : State) (core kern : Nat) (use : PageUse) (off n : Nat) : State × EngineRange :=
  let c := s.ctxOf core kern
  s.engineRange (bentOf core) (c.asid, c.ptroot) use ((c.saveptr.toNat + off) % 2 ^ 48) n (n / 2 ^ 15 + 2)

/-- Writes n bytes of a save area; none while it cannot be written. -/
def State.areaWrite (s : State) (core kern off n v : Nat) : Option State :=
  match s.areaPieces core kern .store off n with
  | (s1, .ok ps) => some (s1.engineWritePieces (bentOf core) ps v)
  | _ => none

/-- Reads pieces as they stand, poisoned or not. -/
def State.readAreaPieces (s : State) (bent : Nat) : List (Nat × Nat) → State × Nat
  | [] => (s, 0)
  | (pa, n) :: r =>
    let s1 := s.recallRange bent pa n
    let x := s1.engineRead bent pa n
    let p := State.readAreaPieces s1 bent r
    (p.1, x + 2 ^ (8 * n) * p.2)

/-- Reads n bytes of a save area; none while it cannot be read, or where data outside a window image is poisoned. -/
def State.areaRead (s : State) (core kern off n : Nat) (image : Bool := false) : Option (State × Nat) :=
  match s.areaPieces core kern .load off n with
  | (s1, .ok ps) => if !image && ps.any fun p => s1.poisoned p.1 p.2 then none else some (s1.readAreaPieces (bentOf core) ps)
  | _ => none

/-- Bytes of a save area. -/
def areaSize : Nat := 0x100000

/-- The failure that a context meets in its save area in a forced stop, in Saving or in Restoring: cause and address. -/
def State.areaFailure (s : State) (core kern : Nat) : Option (Nat × Nat) :=
  let c := s.ctxOf core kern
  if c.state = .saving || (c.state = .draining && c.budget.pend && c.budget.expired (s.cycleOf core)) then
    match s.areaPieces core kern .store 0 areaSize with
    | (_, .fault va _) => some (0x05, va)
    | (_, .error va _) => some (0x15, va)
    | _ => none
  else if c.state = .restoring then
    match s.areaPieces core kern .load 0 0xA0000 with
    | (_, .fault va _) => some (0x04, va)
    | (_, .error va _) => some (0x15, va)
    | (s1, .ok _) =>
      ((List.range 0x8000).find? fun i =>
        match s1.areaPieces core kern .load (8 * i) 8 with
        | (_, .ok ps) => ps.any fun p => s1.poisoned p.1 p.2
        | _ => false).map fun i => (0x0F, c.saveptr.toNat + 8 * i)
    | _ => none
  else none

/-- SAVE_AREA_ACCESS_FAILURE (19 R419). -/
def execSaveAreaAccessFailure (core kern : Nat) (cause : BitVec 8) (addr : BitVec 64) (s : State) : Host.Outcome State Fault Refusal :=
  .next (if s.areaFailure core kern = some (cause.toNat, addr.toNat) then s.saveAreaFault core kern cause addr else s)

/-! ### Records of tasks (19 table 19.13) -/

/-- A trap bank as five words. -/
def Bank.words (b : Bank) : Nat := packLanes 64 [b.tepc.toNat, b.tcause.toNat, b.tval.toNat, b.tstat.toNat, b.tinfo.toNat]

/-- A trap bank from five words: reserved bits read zero (01 R5). -/
def Bank.ofWords (v : Nat) : Bank :=
  let w (i : Nat) : Word := BitVec.ofNat 64 (areaField v (8 * i) 8)
  ⟨w 0 &&& ~~~3#64, w 1 &&& 0x80000000000007FF, w 2, w 3, w 4⟩

/-- A buffered send as 128 bytes: destination word, payload or send block, and send id. -/
def BufferedSend.image (b : BufferedSend) : Nat := placed [(0, b.dest.toNat), (8, b.payload.toNat), (0x48, b.sendId.toNat)]

/-- The record of a force-stopped task. -/
def Slot.record (sl : Slot) : Nat :=
  placed ([(0, sl.status.toNat), (8, sl.pc.toNat), (0x10, sl.bank0.words), (0x38, sl.bank1.words), (0x60, sl.taint.toNat),
      (0x68, 2 ^ 63 + sl.sends.length), (0x70, 0x18 + 256 * sl.num.toNat)] ++
    ((List.range 31).map fun k => (0x88 + 8 * k, (sl.readG (BitVec.ofNat 5 (k + 1))).toNat)) ++
    ((List.range 24).map fun k => (0x200 + 64 * k, (sl.readV (BitVec.ofNat 5 k)).toNat)) ++
    ((List.range sl.sends.length).zip sl.sends).map (fun p => (0x800 + 128 * p.1, p.2.image)) ++
    [(0x1800, packLanes 64 [sl.perr.cause.toNat, sl.perr.addr.toNat, sl.perr.count, sl.perr.lost])])

/-- A slot with what a task record holds; the template supplies the rest. -/
def Slot.ofRecord (template : Slot) (v : Nat) : Slot :=
  let w (off : Nat) : Word := BitVec.ofNat 64 (areaField v off 8)
  let status := w 0
  { template with
    pc := w 8
    mode := Mode.ofCode (status.toNat % 4)
    td := if status.toNat / 4 % 4 = 0 then 0 else if status.toNat / 4 % 4 = 1 then 1 else 2
    evt := status.getLsbD 4
    te := status.getLsbD 5
    bank0 := Bank.ofWords (areaField v 0x10 40)
    bank1 := Bank.ofWords (areaField v 0x38 40)
    taint := (w 0x60).setWidth 32
    stop := w 0x70
    g := Vector.ofFn fun (i : Fin 32) => if i.val = 0 then 0 else w (0x80 + 8 * i.val)
    v := Vector.ofFn fun (i : Fin 24) => BitVec.ofNat 512 (areaField v (0x200 + 64 * i.val) 64)
    sends := ((List.range (areaField v 0x68 1 % 64)).zip template.sends).map fun p =>
      let x := areaField v (0x800 + 128 * p.1) 128
      { p.2 with dest := BitVec.ofNat 64 (areaField x 0 8), payload := BitVec.ofNat 512 (areaField x 8 64), sendId := BitVec.ofNat 32 (areaField x 0x48 4) }
    perr := { template.perr with
      cause := BitVec.ofNat 8 (areaField v 0x1800 1), addr := w 0x1808, count := areaField v 0x1810 8, lost := areaField v 0x1818 8 } }

/-! ### The forced stop (19 R355) -/

/-- Force-stops a slot at an instruction boundary: its results land, its record is written and its task stands still. -/
def State.forceStop (s : State) (core kern slot : Nat) : Option State :=
  let s1 := s.landSlot core slot
  let sl := s1.slotOf core slot
  (s1.areaWrite core kern (0x10000 + 0x2000 * sl.num.toNat) 0x2000 sl.record).map fun s2 =>
    (s2.modSlotOf core slot fun sl => { sl with run := .stopped, bwait := none, stop := BitVec.ofNat 64 (0x18 + 256 * sl.num.toNat) }).settle core slot

/-- Whether a slot is one that a forced stop reaches now: a slot that waits for a reply is reached when the reply has landed. -/
def Core.stoppable (c : Core) (kern n : Nat) : Bool := (c.slotAt n).ctx = some kern && !(c.slotAt n).run.quiet && !c.awaits n

/-- FORCED_STOP: the budget of a draining context has run out. -/
def execForcedStop (core kern : Nat) (s : State) : Host.Outcome State Fault Refusal :=
  let c := s.ctxOf core kern
  .next (if c.state = .draining && c.budget.pend && c.budget.expired (s.cycleOf core) then
      (((List.range 8).filter fun n => (s.coreAt core).stoppable kern n).foldl (fun (a : Option State) n => a.bind fun s => s.forceStop core kern n) (some s)).getD s
    else s)

/-! ### Delivery of supervisor records (19 R357) -/

/-- The slot of a context with the lowest number that p selects, by physical number. -/
def Core.lowestSlot (c : Core) (kern : Nat) (p : Slot → Bool) : Option Nat :=
  ((List.range 8).map (BitVec.ofNat 3)).findSome? fun k =>
    (List.range 8).find? fun n => (c.slotAt n).ctx = some kern && (c.slotAt n).num = k && p (c.slotAt n)

/-- The parked slot of a context at depth 0 with the lowest number that waits for no reply or fill, which would land first (06 R142). -/
def Core.lowestParked (c : Core) (kern : Nat) : Option Nat :=
  ((List.range 8).map (BitVec.ofNat 3)).findSome? fun k =>
    (List.range 8).find? fun n =>
      (c.slotAt n).ctx = some kern && (c.slotAt n).num = k && (c.slotAt n).run = .waiting && (c.slotAt n).td = 0 && !c.awaits n

/-- Starts a service task of the supervisor in a free slot, with the trap bank of a delivered record. -/
def State.startService (s : State) (core slot kern : Nat) (tval tinfo : Word) : State :=
  let free := Config.freeValue s.fresh
  (s.bump.startTask core slot kern { kind := free.setWidth 3, origin := (free >>> 64).setWidth 48, pc := (s.ctxOf core kern).tvec }).modSlotOf core slot
    fun sl =>
      { sl with
        mode := .supervisor
        td := 1
        bank0 := { tepc := 0, tcause := BitVec.ofNat 64 (2 ^ 63 + 256 * sl.num.toNat + 0x0E), tval := tval, tstat := 0x40, tinfo := tinfo } }

/-- Index of the next record to deliver: the oldest of those that no slot has been given, from the header word of HEAD and TAIL. -/
def Ctx.nextRecord (c : Ctx) (w : Nat) : Nat := (w / 2 ^ 16 % 128 + 128 - c.svcWaiting % 128) % 128

/-- SUPERVISOR_QUEUE_DELIVERY: a frame record that the deque port holds is appended where there is room, and the next record goes to a free slot, else to a parked slot at depth 0, else to an issuing one. -/
def execSupervisorQueueDelivery (core kern : Nat) (s0 : State) : Host.Outcome State Fault Refusal :=
  let s := s0.flushFrameRecord core
  let c := s.ctxOf core kern
  .next (if !(c.starts || c.state = .draining) || c.svcWaiting = 0 || !s.saveAreaQuiet core kern 0 256 then s
    else
      match s.saveAreaRead core kern 0x48 8 with
      | (s1, none) => s1
      | (s1, some w) =>
        let index := c.nextRecord w
        let tval := c.saveptr + BitVec.ofNat 64 (0xE000 + 64 * index)
        let tinfo := BitVec.ofNat 64 index
        let next := s1.modCtxOf core kern fun c => { c with svcWaiting := c.svcWaiting - 1 }
        match (s.coreAt core).lowestSlot kern fun sl => sl.run = .free with
        | some n => next.startService core n kern tval tinfo
        | none =>
          match ((s.coreAt core).lowestParked kern) <|>
              (s.coreAt core).lowestSlot kern (fun sl => sl.run = .ready && sl.td = 0) with
          | some n => next.takeTrapAt core n Cause.engineFault tval tinfo (s.slotOf core n).pc true
          | none => s)

/-! ### Saving: engines (19 R360) -/

/-- The open transfers of a context in the order of copy records: by channel, then in launch order. -/
def Core.openCopies (c : Core) (kern : Nat) : List Transfer :=
  ((List.range 64).flatMap fun n => c.channelCopies kern n).filter Transfer.open

/-- Destination bytes of a transfer. -/
def Transfer.total (t : Transfer) : Nat := if t.dealt then t.rows * t.block else t.elemBytes + t.scaleBytes

/-- A copy record (19 table 19.12). -/
def State.copyRecord (s : State) (core kern : Nat) (t : Transfer) : Nat :=
  let ch := s.chanOf core kern t.chan
  let started := t.st ≠ .queued
  let st := match t.st with
    | .running => 1
    | .faulted => 2
    | .held => 3
    | .queued | .complete | .aborted => 0
  placed [(0, t.id.toNat), (8, if started then ch.wm.toNat else t.lo), (0x10, packLanes 64 ((List.range 9).map t.reg)), (0x58, t.shape.image.toNat),
    (0x98, t.shape.base.toNat), (0xA0, st + 256 * t.code.toNat), (0xA8, t.covered), (0xB0, t.total)]

/-- An open queue with its arrival cycles as ages. -/
def OpenQueue.aged (q : OpenQueue) (now : Nat) : OpenQueue := { q with arrivals := q.arrivals.map (now - ·) }

/-- The queues that a context opened, with their bents and entries. -/
def State.queuesOf (s : State) (core kern : Nat) : List (Nat × Nat × OpenQueue) :=
  s.bents.flatMap fun b => (b.2.queues.filter fun q => q.2.core = core && q.2.kern = kern).map fun q => (b.1, q.1, q.2)

/-- Whether a bin belongs to one of the queues of a list in a bent. -/
def binOf (queues : List (Nat × Nat × OpenQueue)) (bent : Nat) (x : Bin) : Bool :=
  queues.any fun q => q.1 == bent && q.2.1 == x.set && q.2.2.kern == x.kern

/-- The bins of a list of queues, with ages for arrival cycles and the queue's place in the list for the entry number. -/
def State.binsOfQueues (s : State) (queues : List (Nat × Nat × OpenQueue)) : List Bin :=
  s.bents.flatMap fun b => (b.2.bins.filter fun x => binOf queues b.1 x.2).map fun x =>
    { x.2 with
      arrivals := x.2.arrivals.map (s.cycle - ·)
      set := queues.findIdx fun q => q.1 == b.1 && q.2.1 == x.2.set }

/-- Writes out the queues, bins and wait-list entries of a context (13 R259). -/
def State.saveQueues (s : State) (core kern : Nat) : State × SavedParts :=
  let qs := s.queuesOf core kern
  let sp := s.kernelSpace (pkgOf core) kern core
  let waits := s.bents.flatMap fun b => b.2.waits.filter fun w => w.core = core && w.kern = kern
  let parts : SavedParts :=
    { queues := qs.map fun q => (q.1, q.2.1, q.2.2.aged s.cycle), bins := s.binsOfQueues qs, waits := waits }
  let s1 := qs.foldl (fun s q => s.closeQueue q.1 sp.1 sp.2 q.2.2) s
  ({ s1 with bents := AMap.mapKeyed s1.bents fun n b =>
      { b with
        queues := b.queues.filter fun q => !(q.2.core == core && q.2.kern == kern)
        bins := b.bins.filter fun x => !binOf qs n x.2
        waits := b.waits.filter fun w => !(w.core == core && w.kern == kern) } }, parts)

/-- Whether a command at the head of its queue has begun. -/
def TrussCmd.begun (t : TrussCmd) : Bool :=
  t.array && (t.present || !t.bufA.isEmpty || !t.bufB.isEmpty || (t.rb, t.chunk) ≠ startUnit t.mg)

/-- Stops the running operation of a context at its boundary (14 R278). -/
def State.stopTruss (s : State) (core kern : Nat) : State :=
  match (s.coreAt core).trussRunning with
  | some t => if t.kern = kern && t.begun then s.stopCmd core t else s
  | none => s

/-- A truss command as it is saved: PROG of its MG names its next unit. -/
def TrussCmd.saved (t : TrussCmd) : TrussCmd :=
  if t.array && (t.rb, t.chunk) ≠ startUnit t.mg then { t with mg := AMap.set t.mg 11 (progWord t.rb t.chunk) } else t

/-- A truss queue entry: MG 0 to 11, the pointers and the sequence number. -/
def TrussCmd.image (t : TrussCmd) : Nat :=
  packLanes 64 ((List.range 12).map (mgReg t.mg) ++ [t.a.toNat, t.b.toNat, t.seq.toNat])

/-! ### Saving: the image (19 tables 19.10 and 19.11) -/

/-- The header. -/
def State.savedHeader (s : State) (core kern : Nat) (queue : Nat) (leases : Nat) : Nat :=
  let c := s.coreAt core
  let x := s.ctxOf core kern
  let copies := c.openCopies kern
  let page (n : Nat) := n / 4096
  placed [(0x00, 1 + 2 ^ 32 * kern + 2 ^ 48 * x.rank.toNat), (0x08, numOf core + 2 ^ 11 * pkgOf core),
    (0x10, packLanes 8 [page x.wwin.base, page x.awin.base, page x.cwin.base, 0, page x.wwin.size, page x.awin.size, page x.cwin.size]),
    (0x18, c.schk.toNat + 2 * c.fencetrap.toNat), (0x20, x.budget.limit.toNat), (0x28, x.gen.toNat + 2 ^ 32 * x.postCtr.toNat),
    (0x30, x.taskCtr.toNat + 2 ^ 32 * x.msgCtr.toNat),
    (0x38, copies.length + 2 ^ 8 * (c.slots.toList.filter fun sl => sl.ctx = some kern && sl.run = .stopped).length + 2 ^ 16 * x.kept.posts.length +
      2 ^ 32 * leases),
    (0x40, copies.foldl (fun n t => n + (t.total - t.covered)) 0), (0x48, queue), (0x50, s.time (pkgOf core) % 2 ^ 64), (0x58, x.tracectl.toNat)]

/-- A queue binding as 32 bytes: state 0 Unbound, 1 Open, 2 Draining. -/
def Binding.image (b : Binding) : Nat :=
  packLanes 64 [b.word.toNat, packLanes 16 [b.free, b.fill, b.head, b.tail],
    b.held % 2 ^ 16 + 2 ^ 16 * b.slot.toNat + 2 ^ 20 * (if !b.bound then 0 else if b.closing then 2 else 1), b.wake.toNat]

/-- A queue binding from 32 bytes. -/
def Binding.ofImage (v : Nat) : Binding :=
  let f (off n : Nat) := areaField v off n
  { word := BitVec.ofNat 64 (f 0 8), free := f 8 2, fill := f 10 2, head := f 12 2, tail := f 14 2, held := f 16 2
    slot := BitVec.ofNat 3 (f 18 1), bound := f 18 1 / 16 % 4 != 0, closing := f 18 1 / 16 % 4 == 2, wake := BitVec.ofNat 64 (f 24 8) }

/-- The slots of a context by their numbers. -/
def Core.slotsOf (c : Core) (kern : Nat) : List Slot := c.slots.toList.filter fun sl => sl.ctx = some kern

/-- The deque of a context, if one of its slots owns the core's deque. -/
def Core.dequeOf (c : Core) (kern : Nat) : Option (BitVec 3 × Deque) :=
  match c.deque.owner with
  | some n => if (c.slotAt n).ctx = some kern then some ((c.slotAt n).num, c.deque) else none
  | none => none

/-- The leases of a context, with the addresses of their pages. -/
def State.leasesOf (s : State) (core kern : Nat) : List (Nat × Lease) :=
  (s.bentAt (bentOf core)).subs.flatMap fun e => (e.2.filter fun l => l.core = core && l.kern = kern).map fun l => (e.1, l)

/-- The contents of the area below the task records, without the fault record and the supervisor queue. -/
def State.savedTables (s : State) (core kern : Nat) (queue free : Nat) : Nat :=
  let c := s.coreAt core
  let x := s.ctxOf core kern
  let leases := s.leasesOf core kern
  let deque := match c.dequeOf kern with
    | some (num, d) => [(0x2C0, d.top % 256 + 256 * (d.bot % 256) + 65536 * num.toNat)] ++
        (List.range 64).map fun i => (0x2C8 + 8 * i, (AMap.getD d.entries i 0).toNat)
    | none => [(0x2C0, 65536 * 8)]
  let copies := c.openCopies kern
  placed ([(0, s.savedHeader core kern queue leases.length)] ++
    ((List.range 16).map fun h => (0x100 + 8 * h, (AMap.getD x.bmap h 0).toNat)) ++
    ((List.range 8).map fun m => (0x180 + 8 * m, (AMap.getD x.mmap m 0).toNat / 2 ^ 63 * 2 ^ 63 + (AMap.getD x.mmap m 0).toNat % 128)) ++
    ((List.range 8).map fun n => (0x1C0 + 32 * n, (AMap.getD x.bindings n {}).image)) ++ deque ++
    ((c.slotsOf kern).map fun sl => (0x500 + 32 * sl.num.toNat, packLanes 64 (sl.stage.toList.map BitVec.toNat))) ++
    [(0x640, packLanes 1 ((List.range 512).map fun g =>
      (decide (256 * g < x.cwin.size) && c.granulePoisoned (x.cwin.base + 256 * g) 256).toNat))] ++
    (x.chans.map fun ch => (0x680 + 4 * ch.1, ch.2.seq.toNat)) ++
    [(0x800, packLanes 64 ((List.range 13).map fun i => (s.mgRead core kern i).toNat)), (0x868, x.trussSeq.toNat)] ++
    ((List.range 32).zip x.kept.truss).map (fun p => (0x1000 + 128 * p.1, p.2.image + 2 ^ 960 * (free % 2 ^ 64))) ++
    ((c.slotsOf kern).flatMap fun sl => (List.range 8).map fun q =>
      (0x2000 + 576 * sl.num.toNat + 72 * q, packLanes 64 ((List.range 9).map fun i => (AMap.getD sl.cx (16 * q + i) 0).toNat))) ++
    ((List.range 8).map fun k => (0x3200 + 72 * k, (AMap.getD x.shapes k {}).image.toNat + 2 ^ 512 * (AMap.getD x.shapes k {}).base.toNat)) ++
    ((List.range 128).zip copies).map (fun p => (0x4000 + 256 * p.1, s.copyRecord core kern p.2)) ++
    ((List.range 256).zip leases).map fun p =>
      (0xC000 + 32 * p.1, packLanes 64 [p.2.1 * 2 ^ 15, p.2.2.expiry % 2 ^ 64, p.2.2.length]))

/-- A window of a store as its image: granules of the C-store that are poisoned are zeros. -/
def Core.windowImage (c : Core) (code : Nat) (w : Window) : Nat :=
  packLanes 2048 ((List.range (w.size / 256)).map fun g =>
    if code = 3 && c.granulePoisoned (w.base + 256 * g) 256 then 0 else Memory.readNat (c.store code) (w.base + 256 * g) 256)

/-- The contents of the area from the task records on. -/
def State.savedData (s : State) (core kern : Nat) (posts queues ring : Nat) : Nat :=
  let c := s.coreAt core
  let x := s.ctxOf core kern
  placed (((c.slotsOf kern).filter (fun sl => sl.run = .stopped)).map (fun sl => (0x2000 * sl.num.toNat, sl.record)) ++
    [(0x10000, posts), (0x14000, packLanes 512 (x.mailbox.map BitVec.toNat))] ++
    ((List.range 16).zip x.channels).map (fun p => (0x15000 + 0x400 * p.1, packLanes 512 (p.2.2.map BitVec.toNat))) ++
    [(0x19000, queues), (0x20000, ring), (0x30000, c.windowImage 2 x.wwin), (0x50000, c.windowImage 1 x.awin), (0x70000, c.windowImage 3 x.cwin)])

/-- Poisons the image of a window where the window is poisoned (19 R360). -/
def State.poisonImage (s : State) (core kern off : Nat) (w : Window) (granules : List Nat) : State :=
  (granules.filter fun g => decide (w.base ≤ 8 * g) && decide (8 * g < w.base + w.size)).foldl (fun s g =>
    match s.areaPieces core kern .load (off + 8 * g - w.base) 8 with
    | (_, .ok ps) => { s with poison := ps.map (fun p => p.1 / 8) ++ s.poison }
    | _ => s) s

/-- The withdrawn posts of a context: those into local stores, in post order (17 R332). -/
def State.localPosts (s : State) (core kern : Nat) : List Post :=
  (s.dieAt (dieOf core)).posts.filter fun p => p.core = core && p.kern = kern && p.local_

/-- Whether a steal has taken a frame of a context and has not yet read what it takes (11 R228 steps 1 to 3). -/
def State.stealOpen (s : State) (core kern : Nat) : Bool :=
  s.cores.any fun c => match c.2.steal.phase with
    | .taken v k _ _ _ _ => v == core && k == kern
    | .counted v k _ => v == core && k == kern
    | .idle => false
    | .probing _ _ => false
    | .empty => false
    | .landed _ _ _ _ _ => false

/-- Whether nothing that a context sent to a barrier is on its way: no event of its tasks (16 R306), and no completion of a copy of it. -/
def State.eventsQuiet (s : State) (core kern : Nat) : Bool :=
  s.barsQuiet (pkgOf core) kern (fun m => match m.task with
    | some t => t.1 == core && ((s.coreAt core).namesOf kern).contains t.2
    | none => false) && !((s.coreAt core).ending.any fun e => e.1 == kern)

/-- Whether the engines of a context let it be written out: no unit of it is granted, every access of its slots is acknowledged, what it sent to
barriers has been taken, no receive of it lands in a local store, and the lines of its bent are settled. -/
def State.saveReady (s : State) (core kern : Nat) : Bool :=
  let c := s.coreAt core
  !(c.granted && (match c.trussRunning with
    | some t => t.kern == kern
    | none => false)) &&
    s.contextDone core kern && s.eventsQuiet core kern && !s.stealOpen core kern &&
    !((s.dieAt (dieOf core)).landings.any fun l => l.post.core = core && l.post.kern = kern && l.post.local_) &&
    s.errorsReady core kern 0 && s.cleanReady core

/-- What a slot of a saved context keeps beside its record: its identity, and what a handler, batch or wake task carries. -/
def Core.keptSlots (c : Core) (kern : Nat) : AMap Slot := (c.slotsOf kern).map fun sl => (sl.num.toNat, { sl with ctx := none, pend := [] })

/-- The parts of a context that stand beside its save area, taken from its engines: the state without them. -/
def State.collect (s : State) (core kern : Nat) : State :=
  let s1 := s.stopTruss core kern
  let c := s1.coreAt core
  let x := s1.ctxOf core kern
  let p := s1.saveQueues core kern
  let kept : SavedParts :=
    { p.2 with
      slots := c.keptSlots kern
      chans := AMap.mapVals x.chans fun ch => { ch with cur := none, done := [] }
      truss := (c.truss.filter fun t => t.kern = kern).map TrussCmd.saved
      posts := s1.localPosts core kern
      mailbox := x.mailbox.length
      tags := x.channels.map fun t => (t.1, t.2.length)
      efault := x.efault
      cancelled := x.cancelled
      filled := (x.bindings.map fun p => (p.1, p.2.filled)).filter fun p => !p.2.isEmpty
      record := match c.deque.record with
        | some r => if r.1 = kern then some r.2 else none
        | none => none }
  (p.1.modDieAt (dieOf core) fun d => { d with posts := d.posts.filter fun p => !(p.core = core && p.kern = kern && p.local_) }).modCtxOf core kern
    fun c => { c with kept := kept }

/-- The copies of a context that count on barriers, by transfer id and name: saved, they still count in REFS (16 R302). -/
def Core.copyRefsOf (c : Core) (kern : Nat) : List (Word × Word) := ((c.openCopies kern).filter fun t => t.bar ≠ 0).map fun t => (t.id, t.bar)

/-- The release of the resources of a saved context (19 R360, step 6): of the record in the core stays what other agents still address. -/
def State.releaseCore (s : State) (core kern : Nat) : State :=
  let x := s.ctxOf core kern
  let s2 := s.dropLeases (bentOf core) fun _ l => l.core = core && l.kern = kern
  s2.modCoreAt core fun k =>
    let c := k.unpoison x
    let ctxs := AMap.set c.ctxs kern
      { state := .saved, kernid := x.kernid, rank := x.rank, slots := x.slots, asid := x.asid, ptroot := x.ptroot, saveptr := x.saveptr
        mailWait := x.mailWait, spill := x.spill, copyRefs := x.copyRefs ++ k.copyRefsOf kern, kept := x.kept }
    { c with
      deque := if (c.dequeOf kern).isSome then {} else c.deque
      slots := c.slots.map fun sl => if sl.ctx = some kern then {} else sl
      truss := c.truss.filter fun t => t.kern != kern
      copyq := AMap.mapVals c.copyq fun q => q.filter fun t => t.1 != kern
      ctxs := ctxs
      idleSince := if (c.resident [kern]).isEmpty then s.cycle else c.idleSince }

/-- A pre-empting kernel whose contexts are all Saved is Pre-empted (09 table 9.6). -/
def State.checkPreempted (s : State) (pkg kern : Nat) : State :=
  match s.kernelAt pkg kern with
  | some k => if k.state = .preempting && k.cores.all (fun c => (s.ctxOf c kern).state = .saved) then s.modKernel pkg kern fun k => { k with state := .preempted } else s
  | none => s

/-- Writes out a context whose engines stand still (19 R360): it releases at system scope, its save area is written and its resources are
released; none while the save area cannot be written.  Bytes whose layout the manual does not give are free values. -/
def State.saveContext (s : State) (core kern : Nat) : Option State :=
  match s.areaPieces core kern .store 0 areaSize, s.areaRead core kern 0x48 8 with
  | (_, .ok _), some (_, queue) =>
    let s1 := ((s.flushLate core kern).collect core kern).cleanBent core
    let x := s1.ctxOf core kern
    let free (some : Bool) (i n : Nat) : Nat := if some then hostBytes (s1.fresh + i) n else 0
    let tables := s1.savedTables core kern queue (free (!x.kept.truss.isEmpty) 0 8)
    let data := s1.savedData core kern (free (!x.kept.posts.isEmpty) 1 0x4000) (free (!x.kept.queues.isEmpty || !x.kept.waits.isEmpty) 257 0x4000)
      (if x.spill.isEmpty then 0 else Memory.readNat (s1.bentAt (bentOf core)).sram (0x100000 + core % 16 * 0x10000) 0x10000)
    let put (s : State) (off n v : Nat) : State := (s.areaWrite core kern off n v).getD s
    let s2 := put (put s1 0x640 0xD9C0 (tables / 2 ^ (8 * 0x640))) 0x10000 (areaSize - 0x10000) data
    let s3 := (s2.poisonImage core kern 0x40000 x.wwin (s2.coreAt core).poisonW).poisonImage core kern 0x60000 x.awin (s2.coreAt core).poisonA
    let s4 := put s3 0 0x600 (tables % 2 ^ (8 * 0x600))
    some (({ s4 with fresh := s1.fresh + 513 }.releaseCore core kern).checkPreempted (pkgOf core) kern)
  | _, _ => none

/-- CONTEXT_SAVE_COMPLETE (19 R360): a context in Saving whose engines stand still is written out. -/
def execContextSaveComplete (core kern : Nat) (s : State) : Host.Outcome State Fault Refusal :=
  .next (if (s.ctxOf core kern).state ≠ .saving || !s.saveReady core kern then s else (s.saveContext core kern).getD s)

/-! ### Restoring (19 R362, R363) -/

/-- Whether RESTCTL may start a group: the context is in Restoring and every lower group has completed. -/
def Ctx.mayRestore (c : Ctx) (group : Nat) : Bool := c.state = .restoring && (c.restctl.toNat % 2 ^ group == 2 ^ group - 1)

/-- Marks a group as completed. -/
def State.groupDone (s : State) (core kern group : Nat) : State :=
  s.modCtxOf core kern fun c => { c with restctl := c.restctl ||| BitVec.ofNat 64 (2 ^ group) }

/-- Loads the image of a window into a store; a granule whose image is poisoned becomes poisoned (19 R363). -/
def State.loadWindow (s : State) (core kern code off : Nat) (w : Window) : Option State :=
  if w.size = 0 then some s
  else
    (s.areaRead core kern off w.size true).map fun p =>
      let bad (i : Nat) : Bool := match s.areaPieces core kern .load (off + 8 * i) 8 with
        | (_, .ok ps) => ps.any fun p => s.poisoned p.1 p.2
        | _ => false
      let gs := (List.range (w.size / 8)).filter bad
      p.1.modCoreAt core fun c =>
        let c1 := c.setStore code (Memory.writeNat (c.store code) w.base w.size p.2)
        if code = 3 then { c1 with poisonC := c1.poisonC ++ (gs.map fun i => (w.base + 8 * i) / 256).eraseDups }
        else if code = 1 then { c1 with poisonA := c1.poisonA ++ gs.map fun i => (w.base + 8 * i) / 8 }
        else { c1 with poisonW := c1.poisonW ++ gs.map fun i => (w.base + 8 * i) / 8 }

/-- The registers of MG and the counters of the truss from their image. -/
def Ctx.loadMg (x : Ctx) (v : Nat) : Ctx :=
  let w (i : Nat) : Word := BitVec.ofNat 64 (areaField v (0x800 + 8 * i) 8)
  { x with
    mg := (List.range 12).map fun i => (i, w i &&& mgMask i)
    doneSeq := (w 12 >>> 32).setWidth 32
    ecode := (w 12 >>> 24).setWidth 8
    stop := areaField v 0x863 1 != 0
    efault := x.kept.efault }

/-- TRACECTL from its image: reserved bits and a SIZE above 8 are not taken (07 table 7.6). -/
def traceImage (v : Word) : Word := let w := v &&& 0xFFFFFFFFFF03; if w.toNat / 2 ^ 8 % 16 ≤ 8 then w else w &&& ~~~0xF00#64

/-- The bits of a barrier name that are not reserved (16 table 16.2). -/
def barNameMask : Word := 0x8000FF000007F3FF

/-- What the STATE group loads into a context from the tables of its save area. -/
def Ctx.loadTables (x : Ctx) (pkgBent v mail : Nat) : Ctx :=
  let w (off : Nat) : Word := BitVec.ofNat 64 (areaField v off 8)
  let nz (l : List (Nat × Word)) : AMap Word := l.filter fun p => p.2 ≠ 0
  { x.loadMg v with
    bmap := nz ((List.range 16).map fun h => (h, w (0x100 + 8 * h) &&& barNameMask))
    mmap := nz ((List.range 8).map fun m => (m, if (w (0x180 + 8 * m)).getLsbD 63 then monWord (pkgBent + areaField v (0x180 + 8 * m) 1 % 128) else 0))
    bindings := ((List.range 8).map fun n => (n, { Binding.ofImage (areaField v (0x1C0 + 32 * n) 32) with filled := AMap.getD x.kept.filled n [] })).filter fun p => p.2 ≠ {}
    shapes := ((List.range 8).map fun k =>
      (k, ({ image := BitVec.ofNat 512 (areaField v (0x3200 + 72 * k) 64), base := w (0x3240 + 72 * k) } : ShapeRec))).filter fun p => p.2 ≠ {}
    chans := (List.range x.chan).map fun n => (n, { AMap.getD x.kept.chans n {} with seq := BitVec.ofNat 32 (areaField v (0x680 + 4 * n) 4) })
    gen := BitVec.ofNat 32 (areaField v 0x28 4)
    postCtr := BitVec.ofNat 32 (areaField v 0x2C 4)
    taskCtr := BitVec.ofNat 24 (areaField v 0x30 3)
    msgCtr := BitVec.ofNat 32 (areaField v 0x34 4)
    tracectl := traceImage (w 0x58)
    svcWaiting := (areaField v 0x4A 1 % 128 + 128 - areaField v 0x48 1 % 128) % 128
    cancelled := x.kept.cancelled
    mailbox := (List.range x.kept.mailbox).map fun i => BitVec.ofNat 512 (areaField mail (64 * i) 64)
    channels := ((List.range 16).zip x.kept.tags).map fun p => (p.2.1, (List.range p.2.2).map fun i => BitVec.ofNat 512 (areaField mail (0x1000 + 0x400 * p.1 + 64 * i) 64)) }

/-- What the STATE group loads into a core: its configuration, the deque, and the staged tiles and CX sets of the context's slots. -/
def Core.loadTables (c : Core) (kern v : Nat) : Core :=
  let owner := areaField v 0x2C2 1 % 16
  { c with
    schk := areaField v 0x18 1 % 2 == 1
    fencetrap := areaField v 0x18 1 / 2 % 2 == 1
    slots := c.slots.map fun sl =>
      if sl.ctx = some kern then
        { sl with
          stage := Vector.ofFn fun (i : Fin 4) => BitVec.ofNat 64 (areaField v (0x500 + 32 * sl.num.toNat + 8 * i.val) 8)
          cx := (List.range 8).flatMap fun q => (List.range 9).map fun i => (16 * q + i, BitVec.ofNat 64 (areaField v (0x2000 + 576 * sl.num.toNat + 72 * q + 8 * i) 8)) }
      else sl
    deque := if owner = 8 then c.deque
      else
        { entries := (List.range 64).map fun i => (i, BitVec.ofNat 64 (areaField v (0x2C8 + 8 * i) 8))
          top := areaField v 0x2C0 1, bot := areaField v 0x2C1 1, owner := c.slotNumbered kern (BitVec.ofNat 3 owner)
          record := (c.ctxAt kern).kept.record.map fun r => (kern, r.1, r.2) }
    poisonC := c.poisonC ++ ((List.range 512).filter fun g => v / 2 ^ (8 * 0x640 + g) % 2 == 1).map ((c.ctxAt kern).cwin.base / 256 + ·) }

/-- Group 0, STATE; none while its reads cannot be made. -/
def State.restoreState (s : State) (core kern : Nat) : Option State := do
  let x := s.ctxOf core kern
  let (s1, v) ← s.areaRead core kern 0 0xC000
  let (s2, mail) ← s1.areaRead core kern 0x24000 0x5000
  let s3 ← (s2.modCoreAt core fun c => c.unpoison x).loadWindow core kern 2 0x40000 x.wwin
  let s4 ← s3.loadWindow core kern 1 0x60000 x.awin
  let s5 ← s4.loadWindow core kern 3 0x80000 x.cwin
  some (((s5.modCtxOf core kern fun c => c.loadTables (pkgOf core * 128) v mail).modCoreAt core fun c => c.loadTables kern v).groupDone core kern 0)

/-- Renews the leases of a list: how many were refused; none while one waits. -/
def State.renewLeases (s : State) (core kern : Nat) : List (Nat × Nat × Nat) → Option (State × Nat)
  | [] => some (s, 0)
  | (page, expiry, length) :: rest =>
    let now := s.time (pkgOf core)
    match s.subscribe core kern page (if expiry ≤ now then now + 1000 * length else expiry) length with
    | (s1, .expiry _) => State.renewLeases s1 core kern rest
    | (_, .wait) => none
    | (s1, _) => (State.renewLeases s1 core kern rest).map fun p => (p.1, p.2 + 1)

/-- Group 1, LEASES (19 R364). -/
def State.restoreLeases (s : State) (core kern : Nat) : Option State := do
  let (s1, v) ← s.areaRead core kern 0 0xE000
  let l := (List.range (areaField v 0x3C 2 % 512)).map fun i =>
    (areaField v (0xC000 + 32 * i) 8 % 2 ^ 48 / 2 ^ 15, areaField v (0xC008 + 32 * i) 8, areaField v (0xC010 + 32 * i) 8)
  let (s2, lost) ← s1.renewLeases core kern l
  let s3 ← if lost = 0 then some s2 else s2.areaWrite core kern 0x620 8 (areaField v 0x620 8 + lost)
  some (s3.groupDone core kern 1)

/-- A truss command from its entry in the save area and what stands beside it. -/
def TrussCmd.restored (t : TrussCmd) (uid ecode v : Nat) : TrussCmd :=
  let mg : AMap Word := (List.range 12).map fun i => (i, BitVec.ofNat 64 (areaField v (8 * i) 8))
  let u := startUnit mg
  { t with
    mg := mg, a := BitVec.ofNat 64 (areaField v 96 8), b := BitVec.ofNat 64 (areaField v 104 8), seq := BitVec.ofNat 32 (areaField v 112 4)
    rb := u.1, chunk := u.2, present := false, stopped := false, held := t.held && ecode != 0
    bufA := [], bufB := [], uid := uid, after := [] }

/-- Group 2, TRUSS: the queue entries, and the operand messages of the spill ring ahead of any new one (14 R280). -/
def State.restoreTruss (s : State) (core kern : Nat) : Option State := do
  let (s0, v) ← s.areaRead core kern 0x800 0x1800
  let x := s0.ctxOf core kern
  let s1 ← if x.spill.isEmpty then some s0
    else (s0.areaRead core kern 0x30000 0x10000).map fun p =>
      p.1.modBentAt (bentOf core) fun b => { b with sram := Memory.writeNat b.sram (0x100000 + core % 16 * 0x10000) 0x10000 p.2 }
  let s2 := s1.modCoreAt core fun c =>
    let cmds := ((List.range 32).zip x.kept.truss).map fun p => p.2.restored (c.nextCmd + p.1) x.ecode.toNat (areaField v (0x800 + 128 * p.1) 128)
    { c with truss := c.truss ++ cmds, nextCmd := c.nextCmd + cmds.length, chunksIn := x.spill ++ c.chunksIn }
  let s3 := s2.modCtxOf core kern fun c => { c with spill := [], trussSeq := BitVec.ofNat 32 (areaField v 0x68 4), kept := { c.kept with truss := [] } }
  some (s3.groupDone core kern 2)

/-- Makes the tasks of a kernel that run batches of a saved queue name its new entry. -/
def State.relinkBatches (s : State) (pkg kern : Nat) (old new : Nat × Nat) : State :=
  let f (sl : Slot) : Slot := if sl.batch = some old then { sl with batch := some new } else sl
  { s with cores := AMap.mapKeyed s.cores fun n c =>
      if pkgOf n = pkg && AMap.has c.ctxs kern then
        let c1 : Core := { c with slots := c.slots.map fun (sl : Slot) => if sl.ctx = some kern then f sl else sl }
        c1.modCtxAt kern fun x => { x with kept := { x.kept with slots := AMap.mapVals x.kept.slots f } }
      else c }

/-- Reopens a saved queue in the bent of the core (13 R259): the new entry; none while the descriptor or an entry is not to be had. -/
def State.reopenQueue (s : State) (core kern : Nat) (x : Nat × Nat × OpenQueue) : Option (State × Nat) :=
  let bent := bentOf core
  let sp := s.kernelSpace (pkgOf core) kern core
  let q := ({ x.2.2 with core := core, arrivals := x.2.2.arrivals.map (s.cycle - ·) }.advance).cutBatches none 64
  match (List.range 256).find? fun e => !AMap.has (s.bentAt bent).queues e, s.engineXlat bent sp.1 sp.2 .store (q.desc.toNat % 2 ^ 48 + 0x18) with
  | some e, (s1, .ok pa) =>
    if !s1.quietRange bent pa 24 then none
    else
      let s2 := (s1.modBentAt bent fun b => { b with queues := AMap.set b.queues e q }).engineWrite bent pa 24
        (packLanes 64 [q.enqcnt, q.donecnt, queueHandle bent e q.cfg.toNat])
      some (s2.relinkBatches (pkgOf core) kern (x.1, x.2.1) (bent, e), e)
  | _, _ => none

/-- Reopens the queues of a list: their new entries in order. -/
def State.reopenQueues (s : State) (core kern : Nat) : List (Nat × Nat × OpenQueue) → Option (State × List Nat)
  | [] => some (s, [])
  | q :: r => do
    let (s1, e) ← s.reopenQueue core kern q
    let (s2, es) ← State.reopenQueues s1 core kern r
    some (s2, e :: es)

/-- Puts saved bins back into a bent, under free numbers of the kernel. -/
def Bent.addBins (b : Bent) (kern cycle : Nat) (entries : List Nat) (l : List Bin) : Bent :=
  l.foldl (fun b x =>
    match (b.binsOf kern).find? fun n => !AMap.has b.bins n with
    | some n => { b with bins := AMap.set b.bins n { x with set := entries.getD x.set 0, arrivals := x.arrivals.map (cycle - ·) } }
    | none => b) b

/-- Group 3, ENGQ: the withdrawn posts are posted again and the queues reopen (17 R332, 13 R259). -/
def State.restoreEngq (s : State) (core kern : Nat) : Option State := do
  let (s0, _) ← s.areaRead core kern 0x20000 0x4000
  let (s1, _) ← s0.areaRead core kern 0x29000 0x4000
  let x := s1.ctxOf core kern
  let (s2, es) ← s1.reopenQueues core kern x.kept.queues
  let s3 := s2.modBentAt (bentOf core) fun b =>
    { b.addBins kern s.cycle es x.kept.bins with waits := b.waits ++ x.kept.waits.map fun w => { w with core := core } }
  let s4 := x.kept.posts.foldl (fun s p => (s.enterPost (dieOf core) { p with core := core }).1) s3
  some ((s4.modCtxOf core kern fun c => { c with kept := { c.kept with posts := [], queues := [], bins := [], waits := [] } }).groupDone core kern 3)

/-- A slot of a restored context: a force-stopped task goes on from its record, and a free slot keeps what belongs to the slot. -/
def Slot.resumed (sl template : Slot) (kern cycle v : Nat) : Slot :=
  let x := if template.run = .stopped then { template.ofRecord v with run := .ready } else { template.emptied with run := .free }
  { x with ctx := some kern, num := sl.num, cx := sl.cx, stage := sl.stage, nextIssue := cycle + 1, boundG := 0, boundV := 0, out := 0, inRecord := 0 }

/-- Loads the task records into the slots of a context. -/
def Core.loadTasks (c : Core) (kern cycle v : Nat) (kept : AMap Slot) : Core :=
  { c with slots := c.slots.map fun sl =>
      if sl.ctx = some kern then
        match AMap.find? kept sl.num.toNat with
        | some t => if t.run = .stopped || sl.run = .free then sl.resumed t kern cycle (areaField v (0x2000 * sl.num.toNat) 0x2000) else sl
        | none => sl
      else sl }

/-- Group 4, TASKS: the task records are loaded and the context comes to Ready; a kernel whose contexts are all Ready runs (09 table 9.6). -/
def State.restoreTasks (s : State) (core kern : Nat) : Option State := do
  let (s1, v) ← s.areaRead core kern 0x10000 0x10000
  let s2 := s1.modCoreAt core fun c => c.loadTasks kern s.cycle v (s1.ctxOf core kern).kept.slots
  let s3 := ((s2.modCtxOf core kern fun c => { c with kept := {} }).groupDone core kern 4).becomeReady core kern
  let s4 := s3.modCoreAt core fun c => (c.settleCtx kern).countParked s.cycle
  match s4.kernelAt (pkgOf core) kern with
  | some k =>
    if k.state = .resuming && (k.cores.all fun c => (s4.ctxOf c kern).state ≠ .restoring && (s4.ctxOf c kern).state ≠ .saved) then
      let s5 := s4.modKernel (pkgOf core) kern fun k => { k with state := .running }
      some (if k.preemptHeld then s5.startPreempt (pkgOf core) kern else s5.kernelCheck (pkgOf core) kern)
    else some s4
  | none => some s4

/-- Runs restore group n. -/
def State.restoreGroup (s : State) (core kern n : Nat) : Option State :=
  if n = 0 then s.restoreState core kern
  else if n = 1 then s.restoreLeases core kern
  else if n = 2 then s.restoreTruss core kern
  else if n = 3 then s.restoreEngq core kern
  else s.restoreTasks core kern

/-- Runs groups in order; none while one cannot complete, and the flag is set where a group may not start. -/
def State.restoreGroups (s : State) (core kern : Nat) : List Nat → Option (State × Bool)
  | [] => some (s, false)
  | n :: r =>
    if !(s.ctxOf core kern).mayRestore n then some (s, true)
    else (s.restoreGroup core kern n).bind fun s1 => State.restoreGroups s1 core kern r

/-- A supervisor's write of RESTCTL (19 R363): none while a group that it starts cannot complete.  A write that names a group which may not
start starts nothing and sets ERR; a one in ERR clears it. -/
def State.writeRestctl (s : State) (core kern : Nat) (v : Word) : Option State :=
  let groups := (List.range 5).filter fun n => v.getLsbD n
  let cleared := if v.getLsbD 63 then s.modCtxOf core kern fun c => { c with restctl := c.restctl &&& 0x7FFFFFFFFFFFFFFF } else s
  let c := s.ctxOf core kern
  let done := c.restctl.toNat % 32
  let bad := !groups.isEmpty && (c.state ≠ .restoring ||
    groups.any fun n => (List.range n).any fun m => !groups.contains m && done / 2 ^ m % 2 == 0)
  if bad then some (cleared.modCtxOf core kern fun c => { c with restctl := c.restctl ||| 0x8000000000000000 })
  else (cleared.restoreGroups core kern groups).map Prod.fst

/-- One restore group as an event. -/
def restoreEvent (core kern n : Nat) (s : State) : Host.Outcome State Fault Refusal :=
  .next (if (s.ctxOf core kern).mayRestore n then (s.restoreGroup core kern n).getD s else s)

/-- RESTORE_STATE. -/
def execRestoreState (core kern : Nat) (s : State) : Host.Outcome State Fault Refusal := restoreEvent core kern 0 s

/-- RESTORE_LEASES. -/
def execRestoreLeases (core kern : Nat) (s : State) : Host.Outcome State Fault Refusal := restoreEvent core kern 1 s

/-- RESTORE_TRUSS. -/
def execRestoreTruss (core kern : Nat) (s : State) : Host.Outcome State Fault Refusal := restoreEvent core kern 2 s

/-- RESTORE_ENGQ. -/
def execRestoreEngq (core kern : Nat) (s : State) : Host.Outcome State Fault Refusal := restoreEvent core kern 3 s

/-- RESTORE_TASKS. -/
def execRestoreTasks (core kern : Nat) (s : State) : Host.Outcome State Fault Refusal := restoreEvent core kern 4 s

/-- RESTCTL_ERR_CLEAR: a supervisor writes 1 to ERR. -/
def execRestctlErrClear (core kern : Nat) (s : State) : Host.Outcome State Fault Refusal :=
  .next (s.modCtxOf core kern fun c => { c with restctl := c.restctl &&& 0x7FFFFFFFFFFFFFFF })

end Sys2Proof.Machine
end

