-- ==== Sys2Proof/Machine/Csr.lean ====
section
/-!
DEFINITION. The CSR instructions (02 R54, R55; 04 R105) and the registers that they reach, with the writes of CORECFG.YARD and TRACECTL.

Readings of the manual and choices that this file codes: assumption log 4, 26, 38, 46, 47, 48, 94, 120.
-/
namespace Sys2Proof.Machine

open Sys2Proof

/-! ### The spill yard (06 R144) -/

/-- Whether a slot of a core other than n holds a task. -/
def Core.otherTasks (c : Core) (n : Nat) : Bool := (List.range 8).any fun k => k ≠ n && (c.slotAt k).run ≠ .free

/-- The lines of the L1D in the ways that the yard takes when it leaves so many ways. -/
def Core.surplus (c : Core) (ways : Nat) : List Nat := AMap.keys (c.l1.filter fun p => decide (ways ≤ p.2.way) && p.2.occupies)

/-- A core whose yard changes its size: the registers of a slot that the yard has no room for any longer go to the slot's task record. -/
def Core.resizeYard (c : Core) (slot : Nat) (size : BitVec 2) : Core :=
  let c1 := { c with yard := size }
  c1.modSlotAt slot fun sl => { sl with inRecord := sl.inRecord ||| yardOverflow c1.yardBytes (maskRegs (sl.out &&& ~~~sl.inRecord)) }

/-- A write of CORECFG.YARD by a slot: it keeps the old size while another slot holds a task; a yard that grows first cleans and invalidates
the ways that it takes, and the write waits for lines that are in use (none); registers of the slot in ways that leave the yard go to its task
record. -/
def State.writeYard (s : State) (core slot : Nat) (size : BitVec 2) : Option State :=
  let c := s.coreAt core
  if c.otherTasks slot then some s
  else
    let lines := c.surplus ({ c with yard := size }).ways
    let s1 := (lines.foldl (fun s l => s.dropFrom (bentOf core) core l) s).modCoreAt core fun c => c.resizeYard slot size
    let moved := Core.recorded c (s1.coreAt core)
    if (lines.all fun l => s.quiet (bentOf core) l) && moved.all (s.spillQuiet core) then some (moved.foldl (fun s p => s.spillRegister core p) s1)
    else none

/-- YARD_WRITE. -/
def execYardWrite (core slot : Nat) (size : BitVec 2) (s : State) : Host.Outcome State Fault Refusal :=
  .next ((s.writeYard core slot size).getD s)

/-! ### TRACECTL (07 R171, table 7.6) -/

/-- Zeroes both words of entry 0 of a trace ring; a page that does not translate sets OVF, and none stands for a line in use. -/
def State.clearTrace (s : State) (core kern : Nat) : Option State :=
  let c := s.ctxOf core kern
  match s.engineXlat (bentOf core) c.asid c.ptroot .store (c.tracectl.toNat % 2 ^ 48 / 2 ^ 12 * 2 ^ 12) with
  | (s1, .ok pa) => if s1.quiet (bentOf core) (pa / 256) then some (s1.bentWrite (bentOf core) pa 16 0) else none
  | (s1, .fault _) => some (s1.traceOverflow core kern)

/-- A write of TRACECTL: SIZE 9 to 15 hold the old value, OVF clears where one is written, and EN stays 0 without feature 8. -/
def State.writeTracectl (s : State) (core kern : Nat) (v : Word) : Option State :=
  let old := (s.ctxOf core kern).tracectl
  let en := v.getLsbD 0 && s.accepted core 8
  let size := if (v.toNat / 2 ^ 8 % 16) ≤ 8 then v &&& 0xF00 else old &&& 0xF00
  let new := (v &&& 0xFFFFFFFFF000) ||| size ||| (if v.getLsbD 1 then 0 else old &&& 2) ||| BitVec.ofNat 64 en.toNat
  let s1 := s.modCtxOf core kern fun c => { c with tracectl := new }
  if en && !old.getLsbD 0 then s1.clearTrace core kern else some s1

/-- TRACECTL_ENABLE: a supervisor's write of TRACECTL that sets EN. -/
def execTracectlEnable (core kern : Nat) (value : BitVec 64) (s : State) : Host.Outcome State Fault Refusal :=
  .next (if s.hasCtx core kern && value.getLsbD 0 then (s.writeTracectl core kern value).getD s else s)

/-! ### Reading (02 table 2.11) -/

/-- Whether a CSR belongs to the context of the slot. -/
def csrOfContext (n : Nat) : Bool :=
  n = 1 || (0x10 ≤ n && n ≤ 0x12) || n = 0x20 || n = 0x110 || n = 0x111 || n = 0x120 || n = 0x121 || n = 0x140 || n = 0x141 ||
    (0x180 ≤ n && n ≤ 0x18C) || (0x200 ≤ n && n ≤ 0x27F) || (0x300 ≤ n && n ≤ 0x33F) || n = 0x380

/-- COREID (01 table 1.4). -/
def State.coreid (s : State) (core : Nat) : Word :=
  BitVec.ofNat 64 (numOf core + 2 ^ 11 * (s.pkgAt (pkgOf core)).corePkg.toNat + 2 ^ 22 * (s.coreAt core).phys.toNat)

/-- CORECFG (19 table 19.5). -/
def Core.corecfg (c : Core) : Word := BitVec.ofNat 64 (c.schk.toNat + 2 * c.fencetrap.toNat + 4 * c.yard.toNat)

/-- TASKID of a slot (19 R350). -/
def Slot.taskid (sl : Slot) : Word := BitVec.ofNat 64 (sl.num.toNat + 256 * sl.seq.toNat)

/-- A word of a trap bank: TEPC, TCAUSE, TVAL, TSTAT, TINFO. -/
def Bank.word (b : Bank) (k : Nat) : Word :=
  match k with
  | 0 => b.tepc
  | 1 => b.tcause
  | 2 => b.tval
  | 3 => b.tstat
  | _ => b.tinfo

/-- A CSR of the context of a kernel on a core. -/
def State.ctxCsr (s : State) (core kern n : Nat) : Word :=
  let c := s.ctxOf core kern
  if n = 1 then c.place
  else if n = 0x11 then c.kernid.setWidth 64
  else if n = 0x12 then c.groupid
  else if n = 0x20 then s.budgetWord core kern
  else if n = 0x110 then c.tvec
  else if n = 0x111 then c.crashptr
  else if n = 0x120 then c.asid.setWidth 64
  else if n = 0x121 then c.ptroot
  else if n = 0x140 then c.saveptr
  else if n = 0x141 then c.restctl
  else if n < 0x200 then s.mgRead core kern (n - 0x180)
  else if n < 0x240 then (if c.chan ≤ n - 0x200 then 0 else (s.chanOf core kern (n - 0x200)).cwm)
  else if n < 0x280 then (if c.chan ≤ n - 0x240 then 0 else ((s.chanOf core kern (n - 0x240)).seq).setWidth 64)
  else if n < 0x340 then s.monCsrRead core kern n
  else c.tracectl

/-- A CSR as a slot reads it; a register of the context has no stated value in a slot without a context, but PLACE, TASKID, KERNID and GROUPID
read zero there (10 table 10.4, 26 R412). -/
def State.csrRead (s : State) (core slot n : Nat) : Word :=
  let c := s.coreAt core
  let sl := s.slotOf core slot
  let p := s.pkgAt (pkgOf core)
  if csrOfContext n then
    match sl.ctx with
    | some k => if n = 0x10 then sl.taskid else s.ctxCsr core k n
    | none => if n = 1 || n < 0x20 then 0 else (Config.freeValue s.fresh).setWidth 64
  else if n = 0 then s.coreid core
  else if n = 2 then BitVec.ofNat 64 (s.cycleOf core)
  else if n = 3 then BitVec.ofNat 64 (s.time (pkgOf core))
  else if n = 4 then sl.status
  else if n = 5 then c.corecfg
  else if n = 6 then p.revid.setWidth 64
  else if n < 0x10 then (p.feat >>> (64 * (n - 8))).setWidth 64
  else if n < 0x110 then (sl.bank ((n - 0x100) / 8)).word (n % 8)
  else if n < 0x410 then AMap.getD c.perf (n - 0x400) 0
  else if n = 0x700 then c.fwvec
  else if n = 0x701 then c.sealBits.setWidth 64
  else if n = 0x702 then c.healthptr
  else 0

/-! ### Writing -/

/-- A trap bank with one word replaced: TEPC[1:0] reads zero, TCAUSE has reserved bits, and every bit of TSTAT is writable (19 R351, R353). -/
def Bank.withWord (b : Bank) (k : Nat) (v : Word) : Bank :=
  match k with
  | 0 => { b with tepc := v &&& 0xFFFFFFFFFFFFFFFC }
  | 1 => { b with tcause := v &&& 0x80000000000007FF }
  | 2 => { b with tval := v }
  | 3 => { b with tstat := v }
  | _ => { b with tinfo := v }

/-- The copies of a kernel in a core's copy queues and on its channels, each replaced. -/
def Core.mapCopies (c : Core) (kern : Nat) (f : Transfer → Transfer) : Core :=
  let x := c.modCtxAt kern fun x => { x with chans := AMap.mapVals x.chans fun ch => { ch with cur := ch.cur.map f } }
  { x with copyq := AMap.mapVals x.copyq fun q => q.map fun p => if p.1 = kern then (p.1, f p.2) else p }

/-- A chained copy that keeps the value of a register of MG as the write of its mirror found it, for its operation comes before the write. -/
def Transfer.keepMg (core i : Nat) (old : Word) (t : Transfer) : Transfer :=
  if t.chained && t.open && t.target core = core && !AMap.has t.mgKeep i then { t with mgKeep := AMap.set t.mgKeep i old } else t

/-- A write of an MG mirror CSR: ordered after the commands in the core's truss and copy queues, so that a queued MLOAD leaves the register alone and
the operation of an earlier chained copy takes the old value (02 R55). -/
def State.writeMirror (s : State) (core kern i : Nat) (v : Word) : State :=
  let old := AMap.getD (s.ctxOf core kern).mg i 0
  let s0 := if i < 12 then s.modCoreAt core fun c => c.mapCopies kern (Transfer.keepMg core i old) else s
  (s0.mgWrite core kern i v).modCoreAt core fun c =>
    { c with truss := c.truss.map fun t =>
        match t.kind with
        | .mload _ => if t.kern = kern then { t with keep := i :: t.keep } else t
        | _ => t }

/-- A write of a CSR of the context of a kernel by a slot; none while it waits. -/
def State.ctxCsrWrite (s : State) (core slot kern n : Nat) (v : Word) : Option State :=
  if n = 0x20 then some (s.writeBudget core slot v)
  else if n = 0x110 then some (s.modCtxOf core kern fun c => { c with tvec := v &&& 0xFFFFFFFFFFFFFF00 })
  else if n = 0x111 then some (s.modCtxOf core kern fun c => { c with crashptr := v })
  else if n = 0x120 then some (s.modCtxOf core kern fun c => { c with asid := v.setWidth 12 })
  else if n = 0x121 then some (s.writePtroot core kern v)
  else if n = 0x140 then some (s.modCtxOf core kern fun c => { c with saveptr := v })
  else if n = 0x141 then s.writeRestctl core kern v
  else if n < 0x18D then (if n = 0x18B && (s.coreAt core).progBusy (s.slotOf core slot) then none else some (s.writeMirror core kern (n - 0x180) v))
  else if n < 0x240 then some (s.writeCwm core kern (n - 0x200) v)
  else if n < 0x280 then some (s.writeCseq core kern (n - 0x240) v)
  else if n < 0x340 then some (s.monCsrWrite core kern n v)
  else s.writeTracectl core kern v

/-- A write of a CSR by a slot; none while it waits.  Read-only and reserved bits keep their values (01 R5, R6). -/
def State.csrWrite (s : State) (core slot n : Nat) (v : Word) : Option State :=
  if csrOfContext n then
    match (s.slotOf core slot).ctx with
    | some k => s.ctxCsrWrite core slot k n v
    | none => some s
  else if n = 4 then some (s.modSlotOf core slot fun sl => { sl with te := v.getLsbD 5, evt := v.getLsbD 4 })
  else if n = 5 then
    (s.modCoreAt core fun c => { c with schk := v.getLsbD 0, fencetrap := v.getLsbD 1 }).writeYard core slot ((v >>> 2).setWidth 2)
  else if n < 0x110 then
    some (s.modSlotOf core slot fun sl => sl.setBank ((n - 0x100) / 8) ((sl.bank ((n - 0x100) / 8)).withWord (n % 8) v))
  else if n < 0x410 then some (s.modCoreAt core fun c => { c with perf := AMap.set c.perf (n - 0x400) v })
  else if n = 0x700 then some (s.modCoreAt core fun c => { c with fwvec := v &&& 0xFFFFFFFFFF00 })
  else if n = 0x702 then some (s.modCoreAt core fun c => { c with healthptr := v &&& 0xFFFFFFFFFFC0 })
  else some s

/-- The bits of a CSR on which a written one acts: they read back otherwise than written (TRACECTL.OVF; ERR and the groups of RESTCTL). -/
def actionBits (n : Nat) : Word :=
  if n = 0x380 then 2 else if n = 0x141 then 0x800000000000001F else 0

/-- Whether the write just made reloaded the slot that made it: restore group TASKS put the record of its stopped task into it. -/
def State.reloaded (s s1 : State) (core slot n : Nat) : Bool :=
  match (s.slotOf core slot).ctx with
  | some k => n = 0x141 && (s.ctxOf core k).state = .restoring && (s1.ctxOf core k).state ≠ .restoring &&
      (match AMap.find? (s.ctxOf core k).kept.slots (s.slotOf core slot).num.toNat with
       | some t => t.run = .stopped
       | none => false)
  | none => false

/-- Whether reading a CSR in a slot takes a free value. -/
def Slot.readsFree (sl : Slot) (n : Nat) : Bool := csrOfContext n && sl.ctx.isNone && 0x20 ≤ n

/-- A write of a CSR by the current slot with its old value to a register; the slot waits where the write waits. -/
def State.swapCsr (s : State) (d : BitVec 5) (n : Nat) (v : Word) : State :=
  let old := s.csrRead s.cur s.core.curSlot.val n
  let free := s.slot.readsFree n
  match s.csrWrite s.cur s.core.curSlot.val n v with
  | some s1 =>
    if s.reloaded s1 s.cur s.core.curSlot.val n then s1
    else ((if free then s1.bump else s1).putG d old 2 false).retire
  | none => if n = 0x18B then s.progWait else s.wait

/-- A read of a CSR by the current slot. -/
def State.takeCsr (s : State) (d : BitVec 5) (n : Nat) : State :=
  let old := s.csrRead s.cur s.core.curSlot.val n
  ((if s.slot.readsFree n then s.bump else s).putG d old 2 false).retire

/-- CSRR. -/
def execCsrr (h : BitVec 6) (d : BitVec 5) (l : BitVec 6) (s : State) : Host.Outcome State Fault Refusal :=
  issue (.csrr h d l) [] [.g d] s fun s => s.takeCsr d (csrNumber h l)

/-- CSRW. -/
def execCsrw (h : BitVec 6) (a d : BitVec 5) (l : BitVec 6) (s : State) : Host.Outcome State Fault Refusal :=
  issue (.csrw h a d l) [.g a] [.g d] s fun s => s.swapCsr d (csrNumber h l) (s.readG a)

/-- CSRS: bits on which a written one acts are written only where ga names them. -/
def execCsrs (h : BitVec 6) (a d : BitVec 5) (l : BitVec 6) (s : State) : Host.Outcome State Fault Refusal :=
  issue (.csrs h a d l) [.g a] [.g d] s fun s =>
    let n := csrNumber h l
    if a = 0 then s.takeCsr d n
    else
      let old := s.csrRead s.cur s.core.curSlot.val n
      let v := s.readG a
      s.swapCsr d n ((old &&& ~~~(actionBits n)) ||| v)

/-- CSRC: bits on which a written one acts are written as zero. -/
def execCsrc (h : BitVec 6) (a d : BitVec 5) (l : BitVec 6) (s : State) : Host.Outcome State Fault Refusal :=
  issue (.csrc h a d l) [.g a] [.g d] s fun s =>
    let n := csrNumber h l
    if a = 0 then s.takeCsr d n
    else
      let old := s.csrRead s.cur s.core.curSlot.val n
      let v := s.readG a
      s.swapCsr d n (old &&& ~~~v &&& ~~~(actionBits n))

end Sys2Proof.Machine
end

