-- ==== Sys2Proof/Machine/Frames.lean ====
section
/-!
DEFINITION. Frames, the continuation deque and joins: PUBLISH, SPAWN, RETS, SYNC, TEND and TSELF (11 R212 to R225, R229).

Readings of the manual and choices that this file codes: assumption log 56, 57, 59, 159.
-/
namespace Sys2Proof.Machine

open Sys2Proof

/-! ### The frame record (11 table 11.1) -/

/-- Word i (8 bytes) of a 128-byte frame image. -/
def frameWord (f i : Nat) : Nat := f / 2 ^ (64 * i) % 2 ^ 64

/-- The answer of FrameCheck: the frame's physical address and whether it lies in a table page. -/
inductive FrameCheck where
  | ok (pa : Nat) (table : Bool)
  | trap (cause : BitVec 8) (tval tinfo : Word)
  | wait
deriving DecidableEq, Repr

/-- FrameCheck of the fork and join instructions: a 128-byte access whose address has no descriptor. -/
def State.frameCheck (s : State) (use : PageUse) (a : Word) : State × FrameCheck :=
  if a.toNat / 2 ^ 48 ≠ 0 then (s, .trap Cause.descriptor a 0)
  else
    match s.checkAccess use 128 a with
    | (s1, .ok (.mem pa table)) => if s1.copyStall a 128 then (s1, .wait) else (s1, .ok pa table)
    | (s1, .trap c v t) => (s1, .trap c v t)
    | (s1, _) => (s1, .wait)

/-- Runs a body with the physical address of a frame, once its line can be written. -/
def State.withFrame (s : State) (use : PageUse) (a : Word) (body : State → Nat → Bool → State) : State :=
  match s.frameCheck use a with
  | (s1, .trap c v t) => s1.trap c v t
  | (s1, .wait) => s1.wait
  | (s1, .ok pa table) => if s1.storeReady pa then body s1 pa table else s1.wait

/-- Reads runs of words of a frame, each given by its first word and length, into an image whose other words are zero. -/
def State.frameWords (s : State) (a : Word) (pa : Nat) (table : Bool) : List (Nat × Nat) → Nat → State × BlockRead
  | [], f => (s, .ok f)
  | (w, n) :: r, f =>
    match s.readTarget a (.mem (pa + 8 * w) table) (8 * n) with
    | (s1, .ok v) => State.frameWords s1 a pa table r (f + v * 2 ^ (64 * w))
    | x => x

/-- Runs a body with an image of a frame in which the words stand that the instruction reads, and no others. -/
def State.readFrame (s : State) (a : Word) (pa : Nat) (table : Bool) (words : List (Nat × Nat)) (body : State → Nat → State) : State :=
  match s.frameWords a pa table words 0 with
  | (s1, .ok f) => body s1 f
  | (s1, .trap c v t) => s1.trap c v t
  | (s1, .wait) => s1.wait

/-- The image of words of a frame, given by their numbers. -/
def wordsValue (words : List (Nat × Nat)) : Nat := words.foldl (fun v w => v + w.2 % 2 ^ 64 * 2 ^ (64 * w.1)) 0

/-- The byte mask of words of a frame. -/
def wordsMask (words : List (Nat × Nat)) : Nat := words.foldl (fun m w => m + 255 * 2 ^ (8 * w.1)) 0

/-- Writes words of a frame, given by their numbers. -/
def State.putFrame (s : State) (pa : Nat) (table : Bool) (words : List (Nat × Nat)) : State :=
  s.bentStore pa table 128 (wordsValue words) (wordsMask words)

/-- STATE of a FLAGS word. -/
def flagsState (f : Nat) : Nat := f % 8

/-- FLAGS with a new STATE. -/
def flagsWith (f state : Nat) : Nat := f / 2 ^ 32 * 2 ^ 32 + f % 2 ^ 27 / 8 * 8 + state

/-- FLAGS with a new STATE, NT and HOLDER. -/
def flagsHeld (f state nt holder : Nat) : Nat :=
  f / 2 ^ 32 * 2 ^ 32 + holder % 2 ^ 11 * 2 ^ 16 + f / 2 ^ 12 % 16 * 2 ^ 12 + nt % 16 * 2 ^ 8 + f % 2 ^ 8 / 8 * 8 + state

/-- The mask of nonzero tile descriptors. -/
def tileMask (tiles : List Nat) : Nat := packLanes 1 (tiles.map fun t => if t = 0 then 0 else 1)

/-- The tile words of a frame image. -/
def frameTiles (f : Nat) : List Nat := (List.range 4).map fun i => frameWord f (4 + i)

/-- The registers that a frame saves, in the order of its words 8 to 15. -/
def savedRegs : List (BitVec 5) := [16, 17, 18, 19, 20, 21, 22, 2]

/-- SCOPE of the group of a frame of a kernel by FLAGS.LEVEL (11 R213, 09 R189). -/
def State.levelScope (s : State) (pkg kern level : Nat) : Nat :=
  match s.kernelAt pkg kern with
  | some k =>
    let n := recordField k.record 0x28 1
    recordField k.record (0x60 + 8 * (if level < n then level else n - 1) + 1) 1
  | none => 0

/-- The group scope of a frame of the current kernel. -/
def State.frameScope (s : State) (f : Nat) : Nat := s.levelScope (pkgOf s.cur) s.kern (frameWord f 3 / 16 % 8)

/-! ### Join tables (11 R215, R229) -/

/-- A join handle: whether it is VALID, the bent key and the entry's number. -/
def joinHandle (pkg h : Nat) : Option (Nat × Nat) :=
  if h / 2 ^ 63 = 1 then some (pkg * 128 + h / 2 ^ 12 % 128, h % 2 ^ 12) else none

/-- An entry of a join table. -/
def State.joinEntry (s : State) (bent index : Nat) : Nat := Memory.readNat (s.bentAt bent).sram (8 * index) 8

/-- Writes an entry of a join table; an entry of zero is free. -/
def State.setJoin (s : State) (bent index v : Nat) : State :=
  s.modBentAt bent fun b =>
    { b with
      sram := Memory.writeNat b.sram (8 * index) 8 v
      joinOwner := if v = 0 then AMap.erase b.joinOwner index else b.joinOwner }

/-- The port of an entry, where those of one cycle are taken in the order increments (rank 0), decrements (1), tests (2) (11 R229). -/
def joinPort (index : Nat) : Nat := 2 ^ 32 + index

/-- Whether an entry is VALID and counts for a frame. -/
def joinMatches (e : Nat) (a : Word) : Bool := e / 2 ^ 63 == 1 && e % 2 ^ 41 == a.toNat % 2 ^ 48 / 2 ^ 7

/-- COUNT of an entry. -/
def joinCount (e : Nat) : Nat := e / 2 ^ 41 % 2 ^ 21
/-- SUSP of an entry. -/
def joinSusp (e : Nat) : Bool := e / 2 ^ 62 % 2 == 1

/-- Whether the table of a bent can be reached from the current core now: a wait, or a reply code where no path leads there. -/
def State.bentPath (s : State) (bent : Nat) : Route := s.route (dieOf s.cur) (dieOfBent bent)

/-! ### PUBLISH and TSELF -/

/-- PUBLISH (11 R219): stages a named tile for the next SPAWN or suspending SYNC. -/
def execPublish (a b : BitVec 5) (n : BitVec 2) (sc : BitVec 3) (s : State) : Host.Outcome State Fault Refusal :=
  issue (.publish a b n sc) [.g a, .g b] [] s fun s =>
    let x := s.readG a
    let len := (s.readG b).toNat
    let set (v : Word) := s.modSlot fun sl => { sl with stage := sl.stage.set n.toNat v n.isLt }
    if len = 0 then (set 0).retire (stallOf sc)
    else if spaceOf x < 1 ∨ 3 < spaceOf x then s.trap Cause.spacePermission x
    else if !descriptorOk s.hasFeature x then s.trap Cause.descriptor x
    else if x.toNat % 64 ≠ 0 ∨ len % 64 ≠ 0 then s.trap Cause.dmisalign x (s.readG b)
    else if (s.ctx.window (spaceOf x)).size < offsetOf x + len then s.trap Cause.spacePermission x 1
    else (set (BitVec.ofNat 64 (spaceOf x * 2 ^ 62 + len / 64 % 2 ^ 12 * 2 ^ 11 + offsetOf x / 64 % 2 ^ 11))).retire (stallOf sc)

/-- The result of TSELF (11 table 11.8). -/
def Slot.self (sl : Slot) : Word := BitVec.ofNat 64 (sl.kind.toNat * 2 ^ 56 + sl.origin.toNat)

/-- TSELF (11 R224). -/
def execTself (d : BitVec 5) (sc : BitVec 3) (s : State) : Host.Outcome State Fault Refusal :=
  issue (.tself d sc) [] [.g d] s fun s => (s.putG d s.slot.self 2 false).retire (stallOf sc)

/-! ### SPAWN -/

/-- The status of a SPAWN (11 R217). -/
def Deque.spawnStatus (q : Deque) (slot : Nat) : Nat :=
  if q.owner ≠ none ∧ q.owner ≠ some slot then 2 else if q.bot = 64 then 1 else 0

/-- Pushes a frame (11 R220). -/
def Deque.push (q : Deque) (slot : Nat) (a : Word) : Deque :=
  { q with owner := some slot, entries := AMap.set q.entries q.bot a, bot := q.bot + 1, reported := q.reported && q.bot != q.top }

/-- The staged tiles of the current slot, which a SPAWN or a suspending SYNC takes. -/
def State.staged (s : State) : List Nat := s.slot.stage.toList.map BitVec.toNat

/-- Clears the staged tiles. -/
def State.unstage (s : State) : State := s.modSlot fun sl => { sl with stage := Vector.replicate 4 0 }

/-- SPAWN (11 R220): the frame is written, pushed where the deque permits, and the child runs; its first instruction issues 4 cycles
later. -/
def execSpawn (d a b : BitVec 5) (sc : BitVec 3) (s : State) : Host.Outcome State Fault Refusal :=
  issue (.spawn d a b sc) ([.g a, .g b] ++ savedRegs.map .g) [.g d, .g 1] s fun s =>
    let addr := s.readG a
    let target := s.readG b
    s.withFrame .store addr fun s pa table =>
      match targetCause target with
      | some c => s.trap c target
      | none => s.readFrame addr pa table [(3, 1)] fun s f =>
        let slot := s.core.curSlot.val
        let st := s.core.deque.spawnStatus slot
        let regs := savedRegs.map fun r => if r = d ∧ d ≠ 0 then st else (s.readG r).toNat
        let tiles := s.staged
        let words := [(0, s.slot.pc.toNat + 4), (3, flagsHeld (frameWord f 3) 1 (tileMask tiles) s.ctx.rank.toNat)] ++
          ((List.range 4).zip tiles).map (fun p => (4 + p.1, p.2)) ++ ((List.range 8).zip regs).map fun p => (8 + p.1, p.2)
        let s1 := (s.putFrame pa table words).unstage
        let s2 := if st = 0 then s1.ownerTurn.modCore fun c => { c with deque := c.deque.push slot addr } else s1.modCore fun c => c.count 0x7 1
        ((s2.putG d (BitVec.ofNat 64 st)).putG 1 (if st = 0 then addr else addr + 1)).retireAt target (stallOf sc) 3

/-! ### RETS -/

/-- Whether a steal of a frame of a core has not yet counted itself at the join table: a decrement follows it (11 R228,
R229). -/
def State.stealPending (s : State) (core : Nat) (a : Word) : Bool :=
  s.cores.any fun c => match c.2.steal.phase with
    | .taken v _ x _ _ _ => v == core && x == a
    | .idle => false
    | .probing _ _ => false
    | .empty => false
    | .counted _ _ _ => false
    | .landed _ _ _ _ _ => false

/-- RETS into its own frame: the continuation goes on inline, 6 cycles later. -/
def State.retsInline (s : State) (pa : Nat) (table : Bool) (a : Word) (d : BitVec 5) (degraded : Bool) (stall : Nat) : State :=
  s.readFrame a pa table [(0, 1)] fun s f =>
  let target := BitVec.ofNat 64 (frameWord f 0)
  match targetCause target with
  | some c => s.trap c target
  | none => s.readFrame a pa table [(3, 1), (8, 8)] fun s f =>
    let s1 := if degraded then s else s.ownerTurn.modCore fun c =>
      let q := { c.deque with bot := c.deque.bot - 1 }
      { c with deque := if q.bot = 0 then { q with owner := none, top := 0 } else q }
    let s2 := ((List.range 8).zip savedRegs).foldl (fun s p => s.putG p.2 (BitVec.ofNat 64 (frameWord f (8 + p.1)))) s1
    (((s2.putFrame pa table [(3, flagsWith (frameWord f 3) 2)]).putG 1 a).putG d 0).retireAt target stall 5

/-- RETS that finds its frame stolen: JoinDecrement (11 R229), whose result ends the task or resumes the frame in the
slot. -/
def State.retsStolen (s : State) (pa : Nat) (table : Bool) (a : Word) : State :=
  s.readFrame a pa table [(2, 2)] fun s f =>
  match joinHandle (pkgOf s.cur) (frameWord f 2) with
  | none => s.trap Cause.badret a
  | some (bent, i) =>
    match s.bentPath bent with
    | .wait => s.wait
    | .error c => s.trap Cause.remoteError a (BitVec.ofNat 64 c)
    | .go =>
      let e := s.joinEntry bent i
      if !joinMatches e a then s.trap Cause.badret a
      else if joinCount e = 0 then s.trap Cause.badret a
      else if !s.endReady s.cur s.core.curSlot.val then s.wait
      else
        s.released (s.frameScope f) fun s =>
          let s1 := s.ownerTurn.taking bent (joinPort i) 1
          if joinCount e = 1 ∧ joinSusp e then (s1.setJoin bent i 0).finishTask (.resuming a pa)
          else (s1.setJoin bent i (e - 2 ^ 41)).finishTask

/-- RETS (11 R221). -/
def execRets (d : BitVec 5) (sc : BitVec 3) (s : State) : Host.Outcome State Fault Refusal :=
  issue (.rets d sc) [.g 1] ([.g d, .g 1] ++ savedRegs.map .g) s fun s =>
    let g1 := s.readG 1
    let degraded := g1.getLsbD 0
    let a := if degraded then g1 - 1 else g1
    s.withFrame .load a fun s pa table =>
      let q := s.core.deque
      if degraded then s.retsInline pa table a d true (stallOf sc)
      else if q.owner ≠ some s.core.curSlot.val ∨ q.bot = 0 ∨ AMap.getD q.entries (q.bot - 1) 0 ≠ a then s.trap Cause.badret g1
      else if q.top ≤ q.bot - 1 then s.retsInline pa table a d false (stallOf sc)
      else if s.stealPending s.cur a then s.wait
      else s.retsStolen pa table a

/-! ### SYNC -/

/-- The tiles of a frame after a SYNC: the staged ones if any is staged, else those it holds. -/
def syncTiles (staged : List Nat) (f : Nat) : List Nat := if staged.all (· = 0) then frameTiles f else staged

/-- The tile words that a SYNC writes. -/
def tileWords (staged : List Nat) : List (Nat × Nat) :=
  if staged.all (· = 0) then [] else ((List.range 4).zip staged).map fun p => (4 + p.1, p.2)

/-- SYNC with a join handle (11 R222): release, JoinTest, and either the acquire and the end of the spawn phase, or the
suspension, which ends the task. -/
def State.syncJoin (s : State) (pa : Nat) (table : Bool) (flags3 : Nat) (a : Word) (bent i stall : Nat) : State :=
  let e := s.joinEntry bent i
  if !joinMatches e a then s.trap Cause.badret a
  else s.readFrame a pa table (if s.staged.all (· = 0) then [(4, 4)] else []) fun s tiles =>
    let f := flags3 * 2 ^ 192 + tiles
    let scope := s.frameScope f
    let staged := s.staged
    let common := [(0, s.slot.pc.toNat + 4)] ++ tileWords staged ++
      ((List.range 8).zip savedRegs).map fun p => (8 + p.1, (s.readG p.2).toNat)
    let flags (st : Nat) := flagsHeld (frameWord f 3) st (tileMask (syncTiles staged f)) s.ctx.rank.toNat
    if joinCount e = 0 then
      s.released scope fun s =>
        let s1 := ((((s.putFrame pa table common).unstage).release s.cur scope).taking bent (joinPort i) 2).setJoin bent i 0
        ((s1.acquire s.cur scope).putFrame pa table [(2, 0), (3, flags 7)]).retire stall
    else if !s.endReady s.cur s.core.curSlot.val then s.wait
    else
      s.released scope fun s =>
        let s1 := (s.putFrame pa table (common ++ [(3, flags 5)])).release s.cur scope
        ((s1.taking bent (joinPort i) 2).setJoin bent i (Nat.lor e (2 ^ 62))).finishTask

/-- SYNC (11 R222). -/
def execSync (a : BitVec 5) (sc : BitVec 3) (s : State) : Host.Outcome State Fault Refusal :=
  issue (.sync a sc) ([.g a] ++ savedRegs.map .g) [] s fun s =>
    let addr := s.readG a
    s.withFrame .store addr fun s pa table => s.readFrame addr pa table [(3, 1)] fun s f =>
      let st := flagsState (frameWord f 3)
      if st = 1 ∨ st = 3 ∨ st = 5 then s.trap Cause.badret addr
      else s.readFrame addr pa table [(2, 1)] fun s h =>
        match joinHandle (pkgOf s.cur) (frameWord h 2) with
        | none => ((s.putFrame pa table (tileWords s.staged ++ [(3, flagsWith (frameWord f 3) 7)])).unstage).retire (stallOf sc)
        | some (bent, i) =>
          match s.bentPath bent with
          | .wait => s.wait
          | .error c => s.trap Cause.remoteError addr (BitVec.ofNat 64 c)
          | .go => s.syncJoin pa table (frameWord f 3) addr bent i (stallOf sc)

/-! ### TEND -/

/-- TEND (11 R223): BADRET inside a pushed spawn, else the task ends. -/
def execTend (sc : BitVec 3) (s : State) : Host.Outcome State Fault Refusal :=
  issue (.tend sc) [] [] s fun s =>
    let q := s.core.deque
    if q.owner = some s.core.curSlot.val ∧ 0 < q.bot then s.trap Cause.badret (AMap.getD q.entries (q.bot - 1) 0)
    else s.finishTask

end Sys2Proof.Machine
end

