-- ==== Sys2Proof/Machine/Integer.lean ====
section
/-!
DEFINITION. Integer, select, immediate, constant, pointer and multiply instructions (04 R82 to R90).
-/
namespace Sys2Proof.Machine

open Sys2Proof

/-- An operation on two registers with a fixed latency (04 R84, 02 R35). -/
def binaryOp (i : Instr) (d a b : BitVec 5) (sc : BitVec 3) (f : Word → Word → Word) (lat : Nat) (s : State) : Host.Outcome State Fault Refusal :=
  issue i [.g a, .g b] [.g d] s fun s =>
    (s.putG d (f (s.readG a) (s.readG b)) lat true (s.taints [a, b])).retire (stallOf sc)

/-- An operation on one register with a fixed latency of one cycle. -/
def unaryOp (i : Instr) (d a : BitVec 5) (sc : BitVec 3) (f : Word → Word) (s : State) : Host.Outcome State Fault Refusal :=
  issue i [.g a] [.g d] s fun s =>
    (s.putG d (f (s.readG a)) 1 true (s.taints [a])).retire (stallOf sc)

/-- An operation on a register and the sign-extended immediate (04 R87). -/
def immediateOp (i : Instr) (d a : BitVec 5) (imm : BitVec 16) (f : Word → Word → Word) (s : State) : Host.Outcome State Fault Refusal :=
  issue i [.g a] [.g d] s fun s =>
    (s.putG d (f (s.readG a) (imm.signExtend 64)) 1 true (s.taints [a])).retire

/-- A conditional select (04 R85). -/
def selectOp (i : Instr) (k : ZCond) (d a b c : BitVec 5) (sc : BitVec 3) (s : State) : Host.Outcome State Fault Refusal :=
  issue i [.g a, .g b, .g c] [.g d] s fun s =>
    (s.putG d (if k.holds (s.readG c) then s.readG a else s.readG b) 1 true (s.taints [a, b, c])).retire (stallOf sc)

/-- A division (04 R90), interlocked: 6 cycles and one more for every two significant bits of the quotient q. -/
def divideOp (i : Instr) (d a b : BitVec 5) (sc : BitVec 3) (f q : Word → Word → Word) (s : State) : Host.Outcome State Fault Refusal :=
  issue i [.g a, .g b] [.g d] s fun s =>
    let x := s.readG a
    let y := s.readG b
    let n := if y = 0 then 0 else significantBits (q x y).toNat
    (s.putG d (f x y) (6 + (n + 1) / 2) false (s.taints [a, b])).retire (stallOf sc)

/-- Moves a pointer by delta bytes, or takes POINTER-OVERFLOW with delta in TINFO (04 R89). -/
def pointerOp (i : Instr) (d a : BitVec 5) (reads : List Reg) (sc : BitVec 3) (delta : State → Word) (srcs : List (BitVec 5)) (s : State) :
    Host.Outcome State Fault Refusal :=
  issue i reads [.g d] s fun s =>
    let o : Int := ((s.readG a).toNat % 2 ^ 48 : Nat) + (delta s).toInt
    if o < 0 ∨ (2 ^ 48 : Nat) ≤ o then s.trap Cause.pointerOverflow (s.readG a) (delta s)
    else
      (s.putG d ((s.readG a &&& 0xFFFF000000000000) ||| BitVec.ofNat 64 o.toNat) 1 true (s.taints srcs)).retire (stallOf sc)

/-- The signed quotient (04 table 4.4). -/
def sdivWord (x y : Word) : Word := if y = 0 then BitVec.allOnes 64 else x.sdiv y
/-- The unsigned quotient. -/
def udivWord (x y : Word) : Word := if y = 0 then BitVec.allOnes 64 else x / y
/-- The signed remainder. -/
def sremWord (x y : Word) : Word := if y = 0 then x else x.srem y
/-- The unsigned remainder. -/
def uremWord (x y : Word) : Word := if y = 0 then x else x % y
/-- The magnitude of a signed word. -/
def absWord (x : Word) : Word := if x.msb then -x else x


/-- ADD (04 table 4.2). -/
def execAdd (d a b : BitVec 5) (sc : BitVec 3) (s : State) : Host.Outcome State Fault Refusal :=
  binaryOp (.add d a b sc) d a b sc (fun x y => x + y) 1 s

/-- SUB (04 table 4.2). -/
def execSub (d a b : BitVec 5) (sc : BitVec 3) (s : State) : Host.Outcome State Fault Refusal :=
  binaryOp (.sub d a b sc) d a b sc (fun x y => x - y) 1 s

/-- AND (04 table 4.2). -/
def execAnd (d a b : BitVec 5) (sc : BitVec 3) (s : State) : Host.Outcome State Fault Refusal :=
  binaryOp (.and d a b sc) d a b sc (fun x y => x &&& y) 1 s

/-- OR (04 table 4.2). -/
def execOr (d a b : BitVec 5) (sc : BitVec 3) (s : State) : Host.Outcome State Fault Refusal :=
  binaryOp (.or d a b sc) d a b sc (fun x y => x ||| y) 1 s

/-- XOR (04 table 4.2). -/
def execXor (d a b : BitVec 5) (sc : BitVec 3) (s : State) : Host.Outcome State Fault Refusal :=
  binaryOp (.xor d a b sc) d a b sc (fun x y => x ^^^ y) 1 s

/-- ANDN (04 table 4.2). -/
def execAndn (d a b : BitVec 5) (sc : BitVec 3) (s : State) : Host.Outcome State Fault Refusal :=
  binaryOp (.andn d a b sc) d a b sc (fun x y => x &&& ~~~y) 1 s

/-- SLL (04 table 4.2). -/
def execSll (d a b : BitVec 5) (sc : BitVec 3) (s : State) : Host.Outcome State Fault Refusal :=
  binaryOp (.sll d a b sc) d a b sc (fun x y => x <<< (y.toNat % 64)) 1 s

/-- SRL (04 table 4.2). -/
def execSrl (d a b : BitVec 5) (sc : BitVec 3) (s : State) : Host.Outcome State Fault Refusal :=
  binaryOp (.srl d a b sc) d a b sc (fun x y => x >>> (y.toNat % 64)) 1 s

/-- SRA (04 table 4.2). -/
def execSra (d a b : BitVec 5) (sc : BitVec 3) (s : State) : Host.Outcome State Fault Refusal :=
  binaryOp (.sra d a b sc) d a b sc (fun x y => x.sshiftRight (y.toNat % 64)) 1 s

/-- MIN (04 table 4.2). -/
def execMin (d a b : BitVec 5) (sc : BitVec 3) (s : State) : Host.Outcome State Fault Refusal :=
  binaryOp (.min d a b sc) d a b sc (fun x y => if x.slt y then x else y) 1 s

/-- MAX (04 table 4.2). -/
def execMax (d a b : BitVec 5) (sc : BitVec 3) (s : State) : Host.Outcome State Fault Refusal :=
  binaryOp (.max d a b sc) d a b sc (fun x y => if x.slt y then y else x) 1 s

/-- MINZ (04 table 4.2). -/
def execMinz (d a b : BitVec 5) (sc : BitVec 3) (s : State) : Host.Outcome State Fault Refusal :=
  binaryOp (.minz d a b sc) d a b sc (fun x y => if x.ult y then x else y) 1 s

/-- MAXZ (04 table 4.2). -/
def execMaxz (d a b : BitVec 5) (sc : BitVec 3) (s : State) : Host.Outcome State Fault Refusal :=
  binaryOp (.maxz d a b sc) d a b sc (fun x y => if x.ult y then y else x) 1 s

/-- SLT (04 table 4.2). -/
def execSlt (d a b : BitVec 5) (sc : BitVec 3) (s : State) : Host.Outcome State Fault Refusal :=
  binaryOp (.slt d a b sc) d a b sc (fun x y => flagWord (x.slt y)) 1 s

/-- SLTZ (04 table 4.2). -/
def execSltz (d a b : BitVec 5) (sc : BitVec 3) (s : State) : Host.Outcome State Fault Refusal :=
  binaryOp (.sltz d a b sc) d a b sc (fun x y => flagWord (x.ult y)) 1 s

/-- SEQ (04 table 4.2). -/
def execSeq (d a b : BitVec 5) (sc : BitVec 3) (s : State) : Host.Outcome State Fault Refusal :=
  binaryOp (.seq d a b sc) d a b sc (fun x y => flagWord (x == y)) 1 s

/-- CLZ (04 table 4.2). -/
def execClz (d a : BitVec 5) (sc : BitVec 3) (s : State) : Host.Outcome State Fault Refusal :=
  unaryOp (.clz d a sc) d a sc (fun x => BitVec.ofNat 64 (leadingZeros x 64)) s

/-- CTZ (04 table 4.2). -/
def execCtz (d a : BitVec 5) (sc : BitVec 3) (s : State) : Host.Outcome State Fault Refusal :=
  unaryOp (.ctz d a sc) d a sc (fun x => BitVec.ofNat 64 (trailingZeros x 64)) s

/-- POPC (04 table 4.2). -/
def execPopc (d a : BitVec 5) (sc : BitVec 3) (s : State) : Host.Outcome State Fault Refusal :=
  unaryOp (.popc d a sc) d a sc (fun x => BitVec.ofNat 64 (oneBits x 64)) s

/-- PADD (04 R89). -/
def execPadd (d a b : BitVec 5) (sc : BitVec 3) (s : State) : Host.Outcome State Fault Refusal :=
  pointerOp (.padd d a b sc) d a [.g a, .g b] sc (fun s => s.readG b) [a, b] s

/-- PSUB (04 R89): the distance of two offsets. -/
def execPsub (d a b : BitVec 5) (sc : BitVec 3) (s : State) : Host.Outcome State Fault Refusal :=
  binaryOp (.psub d a b sc) d a b sc (fun x y => ((x.setWidth 48).setWidth 64) - ((y.setWidth 48).setWidth 64)) 1 s

/-- PDESC (04 R89): the descriptor. -/
def execPdesc (d a : BitVec 5) (sc : BitVec 3) (s : State) : Host.Outcome State Fault Refusal :=
  unaryOp (.pdesc d a sc) d a sc (fun x => x >>> 48) s

/-- PSET (04 R89): the low 16 bits of gb become the descriptor. -/
def execPset (d a b : BitVec 5) (sc : BitVec 3) (s : State) : Host.Outcome State Fault Refusal :=
  binaryOp (.pset d a b sc) d a b sc (fun x y => (y <<< 48) ||| (x &&& 0xFFFFFFFFFFFF)) 1 s

/-- CSEL.EQZ (04 R85). -/
def execCselEqz (d a b c : BitVec 5) (sc : BitVec 3) (s : State) : Host.Outcome State Fault Refusal :=
  selectOp (.cselEqz d a b c sc) .eqz d a b c sc s

/-- CSEL.NEZ (04 R85). -/
def execCselNez (d a b c : BitVec 5) (sc : BitVec 3) (s : State) : Host.Outcome State Fault Refusal :=
  selectOp (.cselNez d a b c sc) .nez d a b c sc s

/-- CSEL.LTZ (04 R85). -/
def execCselLtz (d a b c : BitVec 5) (sc : BitVec 3) (s : State) : Host.Outcome State Fault Refusal :=
  selectOp (.cselLtz d a b c sc) .ltz d a b c sc s

/-- CSEL.GEZ (04 R85). -/
def execCselGez (d a b c : BitVec 5) (sc : BitVec 3) (s : State) : Host.Outcome State Fault Refusal :=
  selectOp (.cselGez d a b c sc) .gez d a b c sc s

/-- CSEL.GTZ (04 R85). -/
def execCselGtz (d a b c : BitVec 5) (sc : BitVec 3) (s : State) : Host.Outcome State Fault Refusal :=
  selectOp (.cselGtz d a b c sc) .gtz d a b c sc s

/-- CSEL.LEZ (04 R85). -/
def execCselLez (d a b c : BitVec 5) (sc : BitVec 3) (s : State) : Host.Outcome State Fault Refusal :=
  selectOp (.cselLez d a b c sc) .lez d a b c sc s

/-- MUL (04 table 4.4). -/
def execMul (d a b : BitVec 5) (sc : BitVec 3) (s : State) : Host.Outcome State Fault Refusal :=
  binaryOp (.mul d a b sc) d a b sc (fun x y => x * y) 3 s

/-- MULH (04 table 4.4). -/
def execMulh (d a b : BitVec 5) (sc : BitVec 3) (s : State) : Host.Outcome State Fault Refusal :=
  binaryOp (.mulh d a b sc) d a b sc (fun x y => (x.signExtend 128 * y.signExtend 128).extractLsb' 64 64) 3 s

/-- MULHZ (04 table 4.4). -/
def execMulhz (d a b : BitVec 5) (sc : BitVec 3) (s : State) : Host.Outcome State Fault Refusal :=
  binaryOp (.mulhz d a b sc) d a b sc (fun x y => (x.setWidth 128 * y.setWidth 128).extractLsb' 64 64) 3 s

/-- DIV (04 table 4.4). -/
def execDiv (d a b : BitVec 5) (sc : BitVec 3) (s : State) : Host.Outcome State Fault Refusal :=
  divideOp (.div d a b sc) d a b sc sdivWord (fun x y => absWord x / absWord y) s

/-- DIVZ (04 table 4.4). -/
def execDivz (d a b : BitVec 5) (sc : BitVec 3) (s : State) : Host.Outcome State Fault Refusal :=
  divideOp (.divz d a b sc) d a b sc udivWord (fun x y => x / y) s

/-- REM (04 table 4.4). -/
def execRem (d a b : BitVec 5) (sc : BitVec 3) (s : State) : Host.Outcome State Fault Refusal :=
  divideOp (.rem d a b sc) d a b sc sremWord (fun x y => absWord x / absWord y) s

/-- REMZ (04 table 4.4). -/
def execRemz (d a b : BitVec 5) (sc : BitVec 3) (s : State) : Host.Outcome State Fault Refusal :=
  divideOp (.remz d a b sc) d a b sc uremWord (fun x y => x / y) s

/-- ADDI (04 table 4.3). -/
def execAddi (d a : BitVec 5) (imm : BitVec 16) (s : State) : Host.Outcome State Fault Refusal :=
  immediateOp (.addi d a imm) d a imm (fun x y => x + y) s

/-- ANDI (04 table 4.3). -/
def execAndi (d a : BitVec 5) (imm : BitVec 16) (s : State) : Host.Outcome State Fault Refusal :=
  immediateOp (.andi d a imm) d a imm (fun x y => x &&& y) s

/-- ORI (04 table 4.3). -/
def execOri (d a : BitVec 5) (imm : BitVec 16) (s : State) : Host.Outcome State Fault Refusal :=
  immediateOp (.ori d a imm) d a imm (fun x y => x ||| y) s

/-- XORI (04 table 4.3). -/
def execXori (d a : BitVec 5) (imm : BitVec 16) (s : State) : Host.Outcome State Fault Refusal :=
  immediateOp (.xori d a imm) d a imm (fun x y => x ^^^ y) s

/-- SLTI (04 table 4.3). -/
def execSlti (d a : BitVec 5) (imm : BitVec 16) (s : State) : Host.Outcome State Fault Refusal :=
  immediateOp (.slti d a imm) d a imm (fun x y => flagWord (x.slt y)) s

/-- SLTIZ (04 table 4.3). -/
def execSltiz (d a : BitVec 5) (imm : BitVec 16) (s : State) : Host.Outcome State Fault Refusal :=
  immediateOp (.sltiz d a imm) d a imm (fun x y => flagWord (x.ult y)) s

/-- SLLI (04 table 4.3). -/
def execSlli (d a : BitVec 5) (n : BitVec 6) (s : State) : Host.Outcome State Fault Refusal :=
  unaryOp (.slli d a n) d a 0 (fun x => x <<< n.toNat) s

/-- SRLI (04 table 4.3). -/
def execSrli (d a : BitVec 5) (n : BitVec 6) (s : State) : Host.Outcome State Fault Refusal :=
  unaryOp (.srli d a n) d a 0 (fun x => x >>> n.toNat) s

/-- SRAI (04 table 4.3). -/
def execSrai (d a : BitVec 5) (n : BitVec 6) (s : State) : Host.Outcome State Fault Refusal :=
  unaryOp (.srai d a n) d a 0 (fun x => x.sshiftRight n.toNat) s

/-- PADDI (04 R89). -/
def execPaddi (d a : BitVec 5) (imm : BitVec 16) (s : State) : Host.Outcome State Fault Refusal :=
  pointerOp (.paddi d a imm) d a [.g a] 0 (fun _ => imm.signExtend 64) [a] s

/-- LUK (04 R88). -/
def execLuk (d : BitVec 5) (imm : BitVec 21) (s : State) : Host.Outcome State Fault Refusal :=
  issue (.luk d imm) [] [.g d] s fun s => (s.putG d (imm.signExtend 64 <<< 11)).retire

/-- A PC and a displacement: bits [63:48] stay those of the PC (04 R88). -/
def pcPlus (pc delta : Word) : Word := pc.extractLsb' 48 16 ++ (pc + delta).extractLsb' 0 48

/-- ADDPC (04 R88). -/
def execAddpc (d : BitVec 5) (imm : BitVec 21) (s : State) : Host.Outcome State Fault Refusal :=
  issue (.addpc d imm) [] [.g d] s fun s => (s.putG d (pcPlus s.slot.pc (imm.signExtend 64 <<< 11))).retire

end Sys2Proof.Machine
end

