-- ==== Sys2Proof/Machine/Links.lean ====
section
/-!
DEFINITION. Links (22 R381 to R393): their states, lane repair, the loss of a link, and the writes to their registers.  An event names a
link by package times 256 plus LINKID.

Readings of the manual and choices that this file codes: assumption log 19, 106, 107, 108, 109, 124.
-/
namespace Sys2Proof.Machine

open Sys2Proof

/-- Package of a link's name. -/
def linkPkg (link : Nat) : Nat := link / 256
/-- LINKID of a link's name. -/
def linkId (link : Nat) : Nat := link % 256

/-- The link with a name. -/
def State.linkAt (s : State) (link : Nat) : Link := s.link (linkPkg link) (linkId link)

/-- Whether a name is that of a link of a package (22 table 22.1), whose dies the package has (00 R1). -/
def State.hasLink (s : State) (link : Nat) : Bool :=
  !(linkEnds (linkId link)).isEmpty && (linkEnds (linkId link)).all fun d => s.hasDie (linkPkg link * 4 + d)

/-- Replaces a link by f of it. -/
def State.modLinkAt (s : State) (link : Nat) (f : Link → Link) : State := s.modLink (linkPkg link) (linkId link) f

/-- Enters an event of a link in the logs of the dies at its ends. -/
def State.logAt (s : State) (link event count lane : Nat) : State :=
  (linkEnds (linkId link)).foldl (fun s d => s.logLink (linkPkg link * 4 + d) (linkId link) event count lane) s

/-- Whether a link is a UCIe link. -/
def isUcie (link : Nat) : Bool := decide (linkId link ≤ 6)
/-- Whether a link is a host link. -/
def isHostLink (link : Nat) : Bool := linkId link = 7 || linkId link = 8

/-- The least width of a link: 4 of 8 UCIe modules, 2 Weavel lanes, 4 PCIe lanes (22 table 22.3). -/
def leastWidth (link : Nat) : Nat := if isUcie link then 4 else if isHostLink link then 4 else 2

/-- Failed lanes of a module in one direction. -/
def Link.failed (l : Link) (far : Bool) (module : Nat) : Nat := (l.lanes.filter fun x => x.1 == far && x.2.1 == module).length

/-- The greatest width that a link's failed lanes leave it (22 table 22.3): the UCIe modules without a fifth failed lane in a direction,
the Weavel lanes of the worse direction, which has one spare beside its four, or 16 PCIe lanes. -/
def Link.mostWidth (l : Link) (link : Nat) : Nat :=
  if isUcie link then ((List.range 8).filter fun m => decide (l.failed false m ≤ 4) && decide (l.failed true m ≤ 4)).length
  else if isHostLink link then 16
  else
    let n := Nat.max (l.failed false 0) (l.failed true 0)
    if n ≤ 1 then 4 else if n ≤ 3 then 2 else 0

/-! ### States (22 table 22.4) -/

/-- Puts a link into Retraining: its time out of Up counts from the cycle given. -/
def State.startRetraining (s : State) (link since : Nat) (again : Bool) (lane : Nat) : State :=
  (s.modLinkAt link fun l =>
    { l with st := .retraining, retrains := l.retrains + 1, since := since, quiesceNext := l.quiesceNext || again, streak := 0 }).logAt link 2 0 lane

/-- Declares a link lost. -/
def State.failLink (s : State) (link : Nat) : State :=
  (s.modLinkAt link fun l => { l with st := .failed, quiesceNext := false, health := { l.health with state := 2, uncorrected := l.health.uncorrected + 1 } }).logAt
    link 5 0 0

/-- LINK_TRAINING_START. -/
def execLinkTrainingStart (link : Nat) (s : State) : Host.Outcome State Fault Refusal :=
  .next (if s.hasLink link && (s.linkAt link).st = .down then s.modLinkAt link fun l => { l with st := .training, since := s.cycle } else s)

/-- LINK_TRAINED: training ends at a width; below the least width the link is lost.  A regained Up replays the flits that were kept, whose
number the manual does not fix, and a quiesce command that waited is acted on at once (22 table 22.9). -/
def execLinkTrained (link : Nat) (width : BitVec 8) (s : State) : Host.Outcome State Fault Refusal :=
  let l := s.linkAt link
  let w := Nat.min width.toNat (l.mostWidth link)
  .next (if l.st ≠ .training ∧ l.st ≠ .retraining then s
    else if w < leastWidth link then s.failLink link
    else
      let again : Bool := l.st = .retraining
      let replayed := if again then (Config.freeValue s.fresh).toNat % 65 else 0
      let s1 := (if again then s.bump else s).modLinkAt link fun l =>
        { l with st := if l.quiesceNext then .quiescing else .up, width := w, streak := 0, replays := l.replays + replayed, quiesceNext := false
                 since := if l.quiesceNext then l.since else s.cycle }
      let s2 := if again && decide (w < l.width) then s1.logAt link 4 w 0 else s1
      if again then s2.logAt link 3 w 0 else s2)

/-- LTMO_EXPIRY: a link in Training or Retraining that has been out of Up for LTMO is lost. -/
def execLtmoExpiry (link : Nat) (s : State) : Host.Outcome State Fault Refusal :=
  let l := s.linkAt link
  .next (if (l.st = .training ∨ l.st = .retraining) ∧ l.since + s.ltmoCycles (linkPkg link) (linkId link) ≤ s.cycle then s.failLink link else s)

/-! ### Faults (22 R383, R387) -/

/-- LANE_FAILURE: a lane of one direction fails.  Within the limits of table 22.3 it is repaired in Up: one lane of a Weavel port, four of
a UCIe module; a PCIe link has no such repair.  Beyond them the link retrains; the lanes of a disabled module are not in use. -/
def execLaneFailure (link : Nat) (lane : BitVec 16) (far : Bool) (s : State) (module : Nat := 0) : Host.Outcome State Fault Refusal :=
  let l := s.linkAt link
  let m := if isUcie link then module else 0
  let n := l.failed far m
  let fixed : Bool := l.st = .up && !isHostLink link && decide (n < if isUcie link then 4 else 1)
  let named := if isUcie link then m else lane.toNat
  let s1 := s.modLinkAt link fun l => { l with lanes := (far, m, lane.toNat) :: l.lanes }
  .next (if !s.hasLink link || l.lanes.contains (far, m, lane.toNat) || (isUcie link && decide (8 ≤ m)) then s
    else if fixed then (s1.modLinkAt link fun l => { l with repaired := l.repaired + 1, health := { l.health with corrected := l.health.corrected + 1 } }).logAt link 1 1 lane.toNat
    else if isUcie link && decide (5 ≤ n) then s1
    else if l.st = .up then s1.startRetraining link s.cycle false named
    else if l.st = .quiescing then s1.startRetraining link l.since true named
    else s1)

/-- FLIT_CRC_ERROR: a flit is replayed; sixteen successive replays of one flit retrain the link.  Whether the flit is the one replayed last is
not recorded in any register and is a free value. -/
def execFlitCrcError (link : Nat) (s : State) : Host.Outcome State Fault Refusal :=
  let l := s.linkAt link
  .next (if l.st ≠ .up ∧ l.st ≠ .quiescing then s
    else
      let n := (if (Config.freeValue s.fresh).getLsbD 0 then l.streak else 0) + 1
      let s1 := s.bump.modLinkAt link fun l => { l with replays := l.replays + 1, streak := n }
      if n < 16 then s1
      else if l.st = .up then s1.startRetraining link s.cycle false 0
      else s1.startRetraining link l.since true 0)

/-! ### Quiescing (22 table 22.4) -/

/-- A quiesce command: a link in Training or Retraining acts on it when it is Up. -/
def State.quiesceLink (s : State) (link : Nat) : State :=
  s.modLinkAt link fun l =>
    match l.st with
    | .up => { l with st := .quiescing, since := s.cycle }
    | .training => { l with quiesceNext := true }
    | .retraining => { l with quiesceNext := true }
    | _ => l

/-- QUIESCE_COMMAND. -/
def execQuiesceCommand (link : Nat) (s : State) : Host.Outcome State Fault Refusal := .next (if s.hasLink link then s.quiesceLink link else s)

/-- Whether a request between two dies crosses a link of a package: the UCIe link that joins them, or, between packages, a port of either. -/
def crossesLink (link src dst : Nat) : Bool :=
  let p := linkPkg link
  if isUcie link then src / 4 = p && dst / 4 = p && src != dst && ucieLink (src % 4) (dst % 4) = linkId link
  else if isHostLink link then false
  else src / 4 != dst / 4 && (src / 4 = p || dst / 4 = p)

/-- Whether a request crosses a link: a request of space 6 goes to the host by the active host link. -/
def State.requestCrosses (s : State) (link core : Nat) (r : Request) : Bool :=
  if spaceOf r.addr = 6 then
    if isHostLink link then pkgOf core = linkPkg link && s.hostLink (pkgOf core) = linkId link
    else crossesLink link (dieOf core) (pkgOf core * 4 + (s.pkgAt (pkgOf core)).control)
  else crossesLink link (dieOf core) (r.targetDie core)

/-- QUIESCE_DRAINED: with every reply that crosses it acknowledged the link is Quiesced; its time there does not count against LTMO. -/
def execQuiesceDrained (link : Nat) (s : State) : Host.Outcome State Fault Refusal :=
  let l := s.linkAt link
  .next (if l.st = .quiescing && !(s.cores.any fun c => c.2.requests.any fun r => r.done && !r.landed && s.requestCrosses link c.1 r) then
      let s1 := s.modLinkAt link fun l => { l with st := .quiesced, since := s.cycle - l.since }
      if (linkEnds (linkId link)).any fun d => (s.dieAt (linkPkg link * 4 + d)).phase = .quiescing then s1.logAt link 8 0 0 else s1
    else s)

/-- The release of a link from Quiesced. -/
def State.releaseLink (s : State) (link : Nat) : State :=
  if (s.linkAt link).st = .quiesced then s.startRetraining link (s.cycle - (s.linkAt link).since) false 0 else s

/-- QUIESCE_RELEASE. -/
def execQuiesceRelease (link : Nat) (s : State) : Host.Outcome State Fault Refusal := .next (s.releaseLink link)

/-! ### Loss (22 R390) -/

/-- Whether the loss of a link answers a request that crosses it: between packages only one that no other plane can take is lost. -/
def State.requestLost (s : State) (link core : Nat) (r : Request) : Bool :=
  isUcie link || isHostLink link || s.route (dieOf core) (r.targetDie core) = .error 3

/-- Answers the requests of a core that were on a lost link. -/
def State.settleCore (s : State) (link core : Nat) : State :=
  ((s.coreAt core).requests.filter fun r => !r.done && s.requestCrosses link core r && s.requestLost link core r).foldl
    (fun s r => s.answerRequest core r.id 0 (some (Cause.remoteError, 3))) s

/-- The bents and pages that a home agent has in its directory and can no longer reach. -/
def State.unreachable (s : State) : List (Nat × Nat) :=
  s.dies.flatMap fun d => (d.2.subDir 0).flatMap fun e => (e.2.filter fun b => s.route d.1 (dieOfBent b) = .error 3).map fun b => (b, e.1)

/-- Withdraws the subscriptions of bents that their home cannot reach, with the pushes on their way. -/
def State.withdraw (s : State) : State := s.unreachable.foldl (fun s e => s.dropLeases e.1 fun p _ => p = e.2) s

/-- Whether a failed link has cut the path from a die to a die that crossed it. -/
def State.pathLost (s : State) (link src dst : Nat) : Bool := crossesLink link src dst && (isUcie link || s.route src dst = .error 3)

/-- Settles the events for barriers that were on a failed link: each is a posted error of its task with code 3 (16 R310). -/
def State.settleBars (s : State) (link : Nat) : State :=
  s.bents.foldl (fun s b =>
    let onLink (m : BarMsg) : Bool := s.pathLost link (dieOf m.source) (dieOfBent b.1)
    let lost := b.2.barIn.filter fun m => onLink m && m.kind != 1
    let s1 := s.modBentAt b.1 fun x => { x with barIn := x.barIn.filter fun m => !(onLink m && m.kind != 1) }
    lost.foldl (fun s m => match m.task with
      | some (core, slot) => s.postedError core slot Cause.remoteError (barName b.1 m.index) 3 true (linkId link)
      | none => s) s1) s

/-- LINK_FAILED_SETTLE: every request that was on the link is settled, and the link is Isolated. -/
def execLinkFailedSettle (link : Nat) (s : State) : Host.Outcome State Fault Refusal :=
  .next (if (s.linkAt link).st ≠ .failed then s
    else if !(s.unreachable.all fun e => s.pageQuiet e.1 e.2) then s
    else
      let posted (s : State) (c : Nat × Core) : Nat := ((s.coreAt c.1).requests.filter fun r =>
        r.dest = .posted && r.done && s.requestCrosses link c.1 r && r.error = some (Cause.remoteError, 3)).length
      let before := s.cores.foldl (fun n c => n + posted s c) 0
      let s0 := (s.settleBars link).failWaits (s.pathLost link)
      let s1 := s0.cores.foldl (fun s c => State.settleCore s link c.1) s0
      let lost := s.cores.foldl (fun n c => n + posted s1 c) 0 - before
      let s2 := s1.withdraw
      let s3 := if lost = 0 then s2 else s2.logAt link 6 lost 0
      (s3.modLinkAt link fun l => { l with st := .isolated }).logAt link 7 0 0)

/-- A link reset. -/
def State.downLink (s : State) (link : Nat) : State :=
  s.modLinkAt link fun l => if l.st = .isolated then { l with st := .down, width := 0, quiesceNext := false, streak := 0 } else l

/-- LINK_RESET. -/
def execLinkReset (link : Nat) (s : State) : Host.Outcome State Fault Refusal := .next (if s.hasLink link then s.downLink link else s)

/-- PLANE_MASK_UPDATE (22 R385). -/
def execPlaneMaskUpdate (pkg : Nat) (mask : BitVec 36) (s : State) : Host.Outcome State Fault Refusal :=
  .next (s.modPkgAt pkg fun p => { p with planeMask := mask })

/-! ### Registers (22 R389, R392) -/

/-- LTMO_WRITE. -/
def execLtmoWrite (die : Nat) (value : BitVec 64) (s : State) : Host.Outcome State Fault Refusal :=
  .next (s.modDieAt die fun d => d.writeLtmo value.toNat)

/-- LOGHEAD_WRITE. -/
def execLogheadWrite (die : Nat) (value : BitVec 64) (s : State) : Host.Outcome State Fault Refusal :=
  .next (s.modDieAt die fun d => d.writeLogHead value.toNat)

end Sys2Proof.Machine
end

