-- ==== Sys2Proof/Machine/Platform.lean ====
section
/-!
DEFINITION. The platform (10 R209, 22 R394, 26): gating, failures and resets of cores, dies and packages, the launch and management
controllers, thermal state, soft errors, attestation and the host's register writes.

Readings of the manual and choices that this file codes: assumption log 4, 18, 45, 110, 111, 112, 113, 115, 116, 117, 124.
-/
namespace Sys2Proof.Machine

open Sys2Proof

/-! ### Gating (10 R209) -/

/-- CORE_GATE: a core that has held no context for 14,000 cycles is gated. -/
def execCoreGate (core : Nat) (s : State) : Host.Outcome State Fault Refusal :=
  let c := s.coreAt core
  .next (if !c.gated && !c.resetting && (c.resident []).isEmpty && decide (c.idleSince + 14000 ≤ s.cycle) then
      s.modCoreAt core fun c => { c with gated := true, waking := false }
    else s)

/-- Whether a kernel holds a bin, a sequence counter, a barrier, a join counter or a claimed monitor in a bent. -/
def Bent.held (b : Bent) : Bool :=
  (b.binOwner.any fun e => e.2 != 0) || (b.seqOwner.any fun e => e.2.2 != 0) || !b.bars.isEmpty || !b.joinOwner.isEmpty || !b.joinReserved.isEmpty || b.monitors.any fun m => m.2.st ≠ .free

/-- BENT_GATE: a bent whose cores are all gated and that holds nothing of a kernel is gated once its L2 has written back. -/
def execBentGate (bent : Nat) (s : State) : Host.Outcome State Fault Refusal :=
  let b := s.bentAt bent
  let lines := s.dirtyLines bent
  .next (if !b.gated && !b.held && ((coresOfBent bent).all fun k => (s.coreAt k).gated && !(s.coreAt k).waking) && lines.all (s.quiet bent) then
      (lines.foldl (fun s l => s.cleanLine bent l) s).modBentAt bent fun b => { b with gated := true, waking := false, dirtyOverflow := false }
    else s)

/-- BENT_WAKE_COMPLETE: a gated bent is awake and its cores stay gated. -/
def execBentWakeComplete (bent : Nat) (s : State) : Host.Outcome State Fault Refusal :=
  let b := s.bentAt bent
  .next (if b.gated && b.waking then s.modBentAt bent fun b => { b with gated := false, waking := false } else s)

/-- A context on a core that is awake: it enters the state that it waits to enter. -/
def Ctx.woken (c : Ctx) : Ctx :=
  match c.entry with
  | some st => { c with state := st, entry := none }
  | none => c

/-- CORE_WAKE_COMPLETE: a gated core of an awake bent is awake, and the contexts placed on it enter Loading or Restoring. -/
def execCoreWakeComplete (core : Nat) (s : State) : Host.Outcome State Fault Refusal :=
  let c := s.coreAt core
  .next (if c.gated && c.waking && !(s.bentAt (bentOf core)).gated then
      s.modCoreAt core fun c => { c with gated := false, waking := false, idleSince := s.cycle, ctxs := AMap.mapVals c.ctxs Ctx.woken }
    else s)

/-! ### Cores (01 R24; 19 R354; 26 R412) -/

/-- A core right after a reset other than cold reset: what only a cold reset changes stays, and so do its caches, whose lines its bent keeps
coherent. -/
def Core.restarted (c : Core) (k cycle : Nat) : Core :=
  { Core.reset k with
    phys := c.phys
    slots := (Vector.replicate 8 ({} : Slot)).set 0 { Slot.boot with pc := c.fwvec }
    l1 := c.l1, l1clock := c.l1clock, toL1 := c.toL1, toL2 := c.toL2
    requests := c.requests.filterMap fun r => if r.done then none else some { r with slot := 8, dest := .posted }
    nextReq := c.nextReq, nextCmd := c.nextCmd
    fwvec := c.fwvec, sealBits := c.sealBits, healthptr := c.healthptr
    health := c.health, outOfPlacement := c.outOfPlacement, idleSince := cycle }

/-- CORE_RESET_COMPLETE: the 2,048 cycles of a core reset have passed; a core that its firmware marked failed stays out of placement. -/
def execCoreResetComplete (core : Nat) (s : State) : Host.Outcome State Fault Refusal :=
  let c := s.coreAt core
  .next (if c.resetting && decide (c.resetAt + 2048 ≤ s.cycle) then
      (s.modCoreAt core fun c => { c.restarted core s.cycle with outOfPlacement := c.outOfPlacement || c.health.state = 2 }).checkBent (bentOf core)
    else s)

/-- Aborts kernels whose contexts or tables are lost, with status 0x12; the manual gives such a completion record no trap cause. -/
def State.abortLost (s : State) (pkg : Nat) (kerns : List Nat) (core : Nat) : State :=
  kerns.foldl (fun s k => s.bump.abortKernel pkg k 0x12 ((Config.freeValue s.fresh).toNat % 2 ^ 16) core) s

/-- CORE_FAILURE: a running core fails; its contexts become Faulted, their kernels are aborted and it leaves placement. -/
def execCoreFailure (core : Nat) (s : State) : Host.Outcome State Fault Refusal :=
  let kerns := AMap.keys ((s.coreAt core).ctxs.filter fun p => !p.2.away)
  let s1 := s.modCoreAt core fun c =>
    { c with
      slots := c.slots.map fun sl => { sl with run := .free }
      ctxs := AMap.mapVals c.ctxs fun x => if x.away then x else { x with state := .faulted, entry := none }
      halted := true
      outOfPlacement := true
      health := { c.health with state := 2, time := BitVec.ofNat 64 (s.time (pkgOf core)) } }
  .next ((s1.abortLost (pkgOf core) kerns (numOf core)).checkBent (bentOf core))

/-! ### Warm reset of a die (22 R394) -/

/-- DIE_WARM_RESET: step 1. -/
def execDieWarmReset (die : Nat) (s : State) : Host.Outcome State Fault Refusal :=
  .next (if (s.dieAt die).phase = .running then s.modDieAt die fun d => { d with phase := .leaving, phaseAt := s.cycle, inPlacement := false } else s)

/-- The kernels that hold state in a bent. -/
def Bent.users (b : Bent) : List Nat :=
  AMap.vals b.joinOwner ++ AMap.keys b.seqOwner ++ AMap.keys b.binOwner ++ (AMap.vals b.bars).map BarInfo.kern ++ (AMap.vals b.queues).map OpenQueue.kern ++
    ((AMap.vals b.monitors).filter fun m => m.st ≠ .free).map Monitor.kern

/-- The kernels that hold a context on a die or state in one of its bents. -/
def State.kernelsOfDie (s : State) (die : Nat) : List Nat :=
  ((s.cores.flatMap fun (c : Nat × Core) => if dieOf c.1 = die then AMap.keys (c.2.ctxs.filter fun p => !p.2.away) else []) ++
    (s.bents.flatMap fun (b : Nat × Bent) => if dieOfBent b.1 = die then b.2.users else [])).eraseDups

/-- The core, by number, of a kernel's first context on a die, or 0. -/
def State.coreOnDie (s : State) (die kern : Nat) : Nat :=
  match List.find? (fun (c : Nat × Core) => dieOf c.1 = die && AMap.has c.2.ctxs kern && !(c.2.ctxAt kern).away) s.cores with
  | some c => numOf c.1
  | none => 0

/-- RESET_WAIT_EXPIRY: step 2. -/
def execResetWaitExpiry (die : Nat) (s : State) : Host.Outcome State Fault Refusal :=
  let d := s.dieAt die
  .next (if d.phase = .leaving && decide (d.phaseAt + 1400 * (s.pkgAt (die / 4)).rstwait.toNat ≤ s.cycle) then
      ((s.kernelsOfDie die).foldl (fun s k => s.abortLost (die / 4) [k] (s.coreOnDie die k)) s).modDieAt die fun d =>
        { d with phase := .recalling, phaseAt := s.cycle }
    else s)

/-- The lines homed on a die that a bent holds. -/
def State.linesHomed (s : State) (bent die : Nat) : List Nat :=
  ((s.bentAt bent).l2.keys ++ (coresOfBent bent).flatMap fun k => (s.coreAt k).l1.keys).eraseDups.filter fun l => homeOf (l * 256) = die

/-- The links of a die. -/
def linksOfDie (die : Nat) : List Nat := ((List.range 13).map (linkOfDie (die % 4))).filterMap fun id => if id = 0 then none else some (die / 4 * 256 + id)

/-- Recalls what a bent holds of a die: its lines and pushes, and the translations made from them. -/
def State.recallDie (s : State) (die bent : Nat) : State :=
  let s1 := (s.linesHomed bent die).foldl (fun s l => s.dropLine bent l) s
  (s1.modBentAt bent fun b => { b with pushes := b.pushes.filter fun p => homeOf (p.line * 256) != die }).tlbDrop bent fun e =>
    e.lines.any fun l => homeOf (l * 256) = die

/-- Whether every home agent of a die stands still. -/
def Die.still (d : Die) : Bool := d.rehomes.isEmpty && d.rehomeQueue.isEmpty && d.ptWrites.isEmpty

/-- DIE_RECALL_COMPLETE: step 3 ends and step 4 begins. -/
def execDieRecallComplete (die : Nat) (s : State) : Host.Outcome State Fault Refusal :=
  let own := s.bents.keys.filter fun b => dieOfBent b = die
  .next (if (s.dieAt die).phase ≠ .recalling || !(s.dieAt die).still then s
    else if !(s.recallTargets.all fun b => (s.linesHomed b die).all (s.quiet b)) || !(own.all fun b => (s.dirtyLines b).all (s.quiet b)) then s
    else
      let s1 := s.recallTargets.foldl (fun s b => s.recallDie die b) s
      let s2 := own.foldl (fun s b => (s.dirtyLines b).foldl (fun s l => s.cleanLine b l) s) s1
      let s3 := (linksOfDie die).foldl (fun s l => s.quiesceLink l) s2
      let planes : BitVec 36 := BitVec.ofNat 36 (511 * 2 ^ (9 * (die % 4)))
      { s3 with pkgs := AMap.mapVals s3.pkgs fun p => { p with planeMask := p.planeMask &&& ~~~planes } }.modDieAt die fun d =>
        { d with phase := .quiescing, phaseAt := s.cycle })

/-- Whether a link of a die in reset has come to rest. -/
def LinkState.atRest : LinkState → Bool
  | .quiesced | .down | .failed | .isolated => true
  | _ => false

/-- The cores of a list that spares can stand in for: failed or degraded ones, one in each bent that has its spare left. -/
def State.spared (s : State) (die : Nat) (spares : List Nat) : List Nat :=
  spares.foldl (fun l n =>
    let k := die / 4 * 2048 + n
    if dieOf k = die && (s.coreAt k).health.state ≠ 0 && !(coresOfBent (bentOf k)).any (fun m => (s.coreAt m).phys = 16) && !l.any (fun m => bentOf m = bentOf k)
      then l ++ [k] else l) []

/-- A core of a die after the die's reset; a spare takes the place of a failed one, and another core goes on out of placement as it was. -/
def Core.afterDieReset (c : Core) (k cycle : Nat) (spare : Bool) : Core :=
  let r := { c.restarted k cycle with l1 := [], l1clock := 0, toL1 := [], toL2 := [], requests := [] }
  if spare then { r with phys := 16, health := {}, outOfPlacement := false }
  else { r with halted := c.health.state = 2, outOfPlacement := c.health.state = 2 }

/-- The bents and walkers of a die leave what other homes wait for. -/
def Die.forgetDie (d : Die) (die : Nat) : Die :=
  let keep (b : Nat) : Bool := dieOfBent b != die
  { d with
    ptSharers := AMap.mapVals d.ptSharers fun l => { l with sharers := l.sharers.filter keep }
    ptWrites := d.ptWrites.map fun w => { w with waiting := w.waiting.filter keep }
    rehomes := d.rehomes.map fun r =>
      match r.phase with
      | .final w => { r with phase := .final (w.filter keep) }
      | _ => r
    subDirs := d.subDirs.map fun m => (AMap.mapVals m fun l => l.filter keep).filter fun e => !e.2.isEmpty }

/-- DIE_RESET_COMPLETE: step 5 ends, and the links are released (step 6).  The UMQ, the error log, the health and thermal state and the
registers of the link block stay. -/
def execDieResetComplete (die : Nat) (spares : List Nat) (s : State) : Host.Outcome State Fault Refusal :=
  let links := linksOfDie die
  .next (if (s.dieAt die).phase ≠ .quiescing || !links.all (fun l => (s.linkAt l).st.atRest) then s
    else
      let chosen := s.spared die spares
      let s1 := { s with
        cores := AMap.mapKeyed s.cores fun k c => if dieOf k = die then c.afterDieReset k s.cycle (chosen.contains k) else c
        bents := s.bents.filter fun b => dieOfBent b.1 != die
        dies := AMap.mapVals s.dies fun d => d.forgetDie die }
      let s2 := s1.modDieAt die fun d =>
        { d with
          subDirs := Vector.replicate 3 [], ptSharers := [], posts := [], landings := []
          phase := .retraining, phaseAt := s.cycle, cycle0 := s.cycle }
      let s3 := ((List.range 32).map (die * 32 + ·)).foldl (fun s b => s.checkBent b) s2
      links.foldl (fun s l => (s.releaseLink l).downLink l) s3)

/-- Registers the leases of a bent again for a page: its lines leave the bent first (08 R184). -/
def State.registerAgain (s : State) (bent page : Nat) : State :=
  let s1 := s.modDieAt (homeOf (page * 2 ^ 15)) fun d =>
    d.modSubDirs fun m => let l := AMap.getD m page []; if l.contains bent then m else AMap.set m page (l ++ [bent])
  (s1.heldLines bent page).foldl (fun s l => s.dropLine bent l) s1

/-- DIE_RETURN_TO_PLACEMENT: the end of step 6. -/
def execDieReturnToPlacement (die : Nat) (s : State) : Host.Outcome State Fault Refusal :=
  let leases := s.recallTargets.flatMap fun b => ((s.bentAt b).subs.keys.filter fun page => homeOf (page * 2 ^ 15) = die).map fun page => (b, page)
  .next (if (s.dieAt die).phase ≠ .retraining || (linksOfDie die).any (fun l => (s.linkAt l).st = .retraining) then s
    else if !leases.all (fun e => s.pageQuiet e.1 e.2) then s
    else (leases.foldl (fun s e => s.registerAgain e.1 e.2) s).modDieAt die fun d => { d with phase := .running, phaseAt := s.cycle, inPlacement := true })

/-! ### Cold reset (26 R409, R413, R414) -/

/-- The code with which an image is refused (26 table 26.5), in the order of the table. -/
def Image.refusal (x : Image) (counter : Nat) : Option Nat :=
  if !x.ecdsa then some 1
  else if !x.lms then some 2
  else if x.version < counter then some 3
  else if !x.header then some 4
  else none

/-- A package after cold reset: what the host link sent stays sent, the flash and its counter stay, and the die numbers are those that the
dies' straps give (26 R409). -/
def Pkg.coldReset (p : Pkg) (cycle : Nat) : Pkg :=
  let fresh : Pkg :=
    { flash := p.flash, counter := p.counter, coreFlux := p.coreFlux, trussFlux := p.trussFlux, straps := p.straps
      dies := (p.straps.map BitVec.toNat).eraseDups
      management := if p.straps.contains 0 then 0 else (p.straps.headD 0).toNat
      revid := p.revid, version := p.version, dropped := p.dropped, hostWrites := p.hostWrites
      hostAtomics := p.hostAtomics, msix := p.msix, spdm := p.spdm, time0 := cycle }
  match p.flash.refusal p.counter with
  | some code => { fresh with bstat := BitVec.ofNat 16 (2 + 256 * code) }
  | none => { fresh with bstat := 1, revid := p.flash.revision, version := p.flash.version, coreFlux := p.flash.coreFlux, trussFlux := p.flash.trussFlux, dropped := false }

/-- Applies an entry of the spare map (01 R24): the bent's one spare takes the place of the first core named in it; a further one is lost,
and the bent is degraded. -/
def State.applySpare (s : State) (core : Nat) : State :=
  if (coresOfBent (bentOf core)).any fun k => (s.coreAt k).phys = 16 then
    (s.modCoreAt core fun c => { c with halted := true, outOfPlacement := true, health := { c.health with state := 2 } }).checkBent (bentOf core)
  else s.modCoreAt core fun c => { c with phys := 16 }

/-- COLD_RESET: every core, bent and die of a package and its memory are as after reset; the spare map of the accepted image places the
spare cores. -/
def execColdReset (pkg : Nat) (s : State) : Host.Outcome State Fault Refusal :=
  let p := (s.pkgAt pkg).coldReset s.cycle
  let old := s.cores.filterMap fun c => if pkgOf c.1 = pkg && c.2.phys = 16 then some (numOf c.1) else none
  let spares := if p.bstat = 1 then p.flash.spareMap else old
  let s1 := { s with
    cores := s.cores.filter fun c => pkgOf c.1 != pkg
    bents := s.bents.filter fun b => pkgOfBent b.1 != pkg
    dies := s.dies.filter fun d => d.1 / 4 != pkg
    mem := s.mem.filter fun c => c.1 / 2 ^ 40 != pkg
    poison := s.poison.filter fun g => g * 8 / 2 ^ 40 != pkg }
  let s2 := (List.range 4).foldl (fun s d => s.modDieAt (pkg * 4 + d) fun x => { x with cycle0 := s.cycle }) s1
  let s3 := (spares.map fun n => pkg * 2048 + n % 2048).eraseDups.foldl State.applySpare s2
  .next ({ s3 with pkgs := AMap.set s3.pkgs pkg p })

/-! ### Controllers (26 R416) -/

/-- MANAGEMENT_TAKEOVER: the standby management controller takes over; a die alone has none (00 R1). -/
def execManagementTakeover (pkg : Nat) (s : State) : Host.Outcome State Fault Refusal :=
  .next (s.modPkgAt pkg fun p => if p.dies.contains 0 && p.dies.contains 3 then { p with management := if p.management = 0 then 3 else 0 } else p)

/-- LAUNCH_CONTROLLER_TAKEOVER: the standby launch controller takes over with its host link and the doorbell page; records are read again from
QHEAD, which has passed only records whose admission was decided. -/
def execLaunchControllerTakeover (pkg : Nat) (s : State) : Host.Outcome State Fault Refusal :=
  .next (s.modPkgAt pkg fun p => if p.dies.contains 0 && p.dies.contains 1 then { p with control := if p.control = 0 then 1 else 0 } else p)

/-! ### Thermal state (26 R406, R407) -/

/-- Replaces the thermal state of a region. -/
def State.modThermal (s : State) (die region : Nat) (f : Thermal → Thermal) : State :=
  s.modDieAt die fun d => { d with thermal := AMap.set d.thermal region (f (AMap.getD d.thermal region {})) }

/-- THERMAL_DUTY_STEP: a region's grant duty falls or is restored by 1/16. -/
def execThermalDutyStep (die region : Nat) (restore : Bool) (s : State) : Host.Outcome State Fault Refusal :=
  .next (if region < 8 then
      s.modThermal die region fun t => { t with duty := if restore then Nat.min 16 (t.duty + 1) else if 1 < t.duty then t.duty - 1 else t.duty }
    else s)

/-- REGION_DEGRADED: a region at the least duty is reported degraded. -/
def execRegionDegraded (die region : Nat) (s : State) : Host.Outcome State Fault Refusal :=
  .next (if region < 8 ∧ (AMap.getD (s.dieAt die).thermal region {}).duty ≤ 1 then s.modThermal die region fun t => { t with degraded := true } else s)

/-- FLUX_WRITE: the measured flux of a region. -/
def execFluxWrite (die region : Nat) (value : BitVec 64) (s : State) : Host.Outcome State Fault Refusal :=
  .next (if region < 8 then s.modThermal die region fun t => { t with flux := value.toNat } else s)

/-! ### Soft errors (26 R418) -/

/-- PATROL_SCRUB: a word without an error is visited and stays as it is. -/
def execPatrolScrub (_core : Nat) (_store : BitVec 2) (_word : Nat) (s : State) : Host.Outcome State Fault Refusal := .next s

/-- CORRECTED_ERROR: the error is counted; more than 16 within one second mark the core degraded. -/
def execCorrectedError (core : Nat) (s : State) : Host.Outcome State Fault Refusal :=
  let now := s.time (pkgOf core)
  .next (s.modCoreAt core fun c =>
    let recent := now :: c.health.recent.filter fun t => decide (now < t + 1000000000)
    { c with health := { c.health with
        corrected := c.health.corrected + 1
        recent := recent
        state := if c.health.state = 0 && decide (16 < recent.length) then 1 else c.health.state } })

/-- Poisons the granule of a word: of the A-, W- or C-store of a core by the codes 1 to 3 (06 R138), or of memory as the L2 of the core's
bent caches it. -/
def State.poisonWord (s : State) (core : Nat) (store : BitVec 2) (word : Nat) : State :=
  if store = 0 then { s with poison := word :: s.poison }
  else s.modCoreAt core fun c =>
    if store = 1 then { c with poisonA := word :: c.poisonA }
    else if store = 2 then { c with poisonW := word :: c.poisonW }
    else { c with poisonC := word / 32 :: c.poisonC }

/-- UNCORRECTABLE_ERROR. -/
def execUncorrectableError (core : Nat) (store : BitVec 2) (word : Nat) (s : State) : Host.Outcome State Fault Refusal :=
  .next (if store ≠ 0 ∧ 0x4000 ≤ word then s
    else (s.poisonWord core store word).modCoreAt core fun c => { c with health := { c.health with uncorrected := c.health.uncorrected + 1 } })

/-! ### Attestation (26 R415) -/

/-- Answers an SPDM request. -/
def State.answerSpdm (s : State) (pkg kind : Nat) (doe : Bool) (content : List Nat) : State :=
  s.modPkgAt pkg fun p => { p with spdm := ⟨kind, doe, content⟩ :: p.spdm }

/-- GET_CERTIFICATE: the certificate chain in module flash. -/
def execGetCertificate (pkg : Nat) (doe : Bool) (s : State) : Host.Outcome State Fault Refusal :=
  .next (s.answerSpdm pkg 0 doe (Config.certificateChain pkg))

/-- CHALLENGE: a signature of the nonce by the identity key of the die whose management controller is active. -/
def execChallenge (pkg : Nat) (doe : Bool) (nonce : BitVec 256) (s : State) : Host.Outcome State Fault Refusal :=
  .next (s.answerSpdm pkg 1 doe [(Config.signature (pkg * 4 + (s.pkgAt pkg).management) nonce).toNat])

/-- What the measurements cover: the boot ROM, the firmware image, the configuration blob and the platform block. -/
def Pkg.measured (p : Pkg) : List (List Nat) :=
  [[0], [1, p.version], [2, p.version, p.revid.toNat], [3, p.hwbase.toNat, p.hwsize.toNat, p.rstwait.toNat, p.umqsize.toNat, p.pkgno.toNat, p.bstat.toNat]]

/-- GET_MEASUREMENTS. -/
def execGetMeasurements (pkg : Nat) (doe : Bool) (s : State) : Host.Outcome State Fault Refusal :=
  .next (s.answerSpdm pkg 2 doe ((s.pkgAt pkg).measured.map fun x => (Config.measurement x).toNat))

/-! ### Register writes of the host (01 R6; 09 table 9.4; 26 table 26.2) -/

/-- A write of the platform block. -/
def Pkg.writePlatform (p : Pkg) (off : Nat) (v : Word) : Pkg :=
  if off = 0 then { p with hwbase := v &&& 0xFFFFFFFFFFFFF000 }
  else if off = 8 then { p with hwsize := v &&& 0xFFFFFFFFFFFFF000 }
  else if off = 0x10 then
    (let x := v.toNat % 2 ^ 20
     if 1 ≤ x ∧ x ≤ 1000000 then { p with rstwait := BitVec.ofNat 20 x } else p)
  else if off = 0x18 then { p with umqsize := v.setWidth 4 }
  else if off = 0x20 then { p with pkgno := v.setWidth 8 }
  else p

/-- A write of a register of a launch queue that has no event of its own. -/
def HostQueue.write (h : HostQueue) (off : Nat) (v : Word) : HostQueue :=
  if off = 0 then { h with base := v &&& 0xFFFFFFFFFFFFF000 }
  else if off = 8 then { h with size := v.setWidth 4 }
  else if off = 0x10 then { h with root := v &&& 0xFFFFFFFFF000 }
  else if off = 0x18 then { h with asid := v.setWidth 12 }
  else if off = 0x28 then { h with ctl := v.setWidth 16 &&& 0xFF01 }
  else h

/-- A write of a word of FEATACC. -/
def Pkg.writeFeatacc (p : Pkg) (i : Nat) (v : Word) : Pkg :=
  { p with featacc := (p.featacc &&& ~~~((0xFFFFFFFFFFFFFFFF : BitVec 256) <<< (64 * i))) ||| (v.setWidth 256 <<< (64 * i)) }

/-- Whether firmware has sealed the platform block (26 table 26.4, group 2). -/
def State.platformSealed (s : State) (pkg : Nat) : Bool := s.cores.any fun c => pkgOf c.1 = pkg && c.2.sealBits.getLsbD 2

/-- REGISTER_WRITE: the host writes a register of BAR0 that has no event of its own; other offsets ignore writes. -/
def execRegisterWrite (pkg offset : Nat) (value : BitVec 64) (s : State) : Host.Outcome State Fault Refusal :=
  .next (if 0x20 ≤ offset ∧ offset < 0x40 ∧ offset % 8 = 0 then s.modPkgAt pkg fun p => p.writeFeatacc ((offset - 0x20) / 8) value
    else if 0x100 ≤ offset ∧ offset < 0x300 then
      s.modPkgAt pkg fun p =>
        let q := (offset - 0x100) / 0x40
        { p with hostq := AMap.set p.hostq q ((AMap.getD p.hostq q {}).write ((offset - 0x100) % 0x40) value) }
    else if 0x5000 ≤ offset ∧ offset < 0x6000 then
      (if (s.pkgAt pkg).committed || s.platformSealed pkg then s else s.modPkgAt pkg fun p => p.writePlatform (offset - 0x5000) value)
    else s)

end Sys2Proof.Machine
end

