-- ==== Sys2Proof/Machine/Steals.lean ====
section
/-!
DEFINITION. The steal engines and the resumption of suspended frames (11 R226 to R230).

Readings of the manual and choices that this file codes: assumption log 32, 58, 59, 159.
-/
namespace Sys2Proof.Machine

open Sys2Proof

/-! ### Victims (11 R226) -/

/-- The kernel's placement list and the group sizes of its levels. -/
def State.kernelCores (s : State) (pkg kern : Nat) : List Nat :=
  match s.kernelAt pkg kern with
  | some k => k.cores
  | none => []

/-- Core numbers of a class in the order in which a thief visits them: rising from after a number, then wrapping. -/
def rotateAfter (n : Nat) (l : List Nat) : List Nat := l.filter (fun c => decide (n < c)) ++ l.filter fun c => decide (c ≤ n)

/-- The cores of a list in the order of the locality classes of a thief, by core number within the package. -/
def localityOrder (me : Nat) (l : List Nat) : List Nat :=
  let l := (l.filter (· != me)).mergeSort fun x y => decide (x ≤ y)
  rotateAfter me (l.filter fun c => c / 4 == me / 4) ++
    rotateAfter me (l.filter fun c => c / 16 == me / 16 && c / 4 != me / 4) ++
    rotateAfter me (l.filter fun c => c / 512 == me / 512 && c / 16 != me / 16) ++
    [1, 2, 3].flatMap fun i =>
      let die := (me / 512 + i) % 4
      rotateAfter (die * 512 + me % 512) (l.filter fun c => c / 512 == die)

/-- The victims of a core's engine for a kernel: the other cores of the context's level-0 group, without gated cores and cores out of
placement. -/
def State.victims (s : State) (core kern : Nat) : List Nat :=
  match s.kernelAt (pkgOf core) kern with
  | some k =>
    let n := k.cores.length / Nat.max 1 (recordField k.record 0x64 4)
    let group := ((k.cores.drop ((s.ctxOf core kern).rank.toNat / Nat.max 1 n * n)).take n)
    ((localityOrder (numOf core) (group.map numOf)).map (pkgOf core * 2048 + ·)).filter fun v =>
      let c := s.coreAt v
      s.hasCtx v kern && !c.gated && !c.outOfPlacement && !c.resetting && (s.dieAt (dieOf v)).inPlacement
  | none => []

/-- Whether a queue, bin or wake has a task for a context (11 R226). -/
def State.workWaits (s : State) (core kern : Nat) : Bool :=
  (s.bentAt (bentOf core)).queues.any (fun q => q.2.kern == kern && q.2.batches.any fun b => b.st = .cut) ||
  (s.ctxOf core kern).bindings.any fun b => b.2.bound && b.2.wake ≠ 0 && decide (0 < b.2.available (s.ctxOf core kern))

/-- Whether a kernel drains: its groups join and their engines stop probing (10 table 10.2). -/
def State.joining (s : State) (pkg kern : Nat) : Bool :=
  match s.kernelAt pkg kern with
  | some k => k.state = .draining
  | none => false

/-- The contexts of a core for which its engine probes, in slot order: able to start tasks, with a free slot and no work waiting. -/
def State.seekers (s : State) (core : Nat) : List Nat :=
  (((List.range 8).filterMap fun n => (s.slotOf core n).ctx).eraseDups).filter fun k =>
    (s.ctxOf core k).starts && !s.joining (pkgOf core) k && ((s.coreAt core).freeSlot k).isSome && !s.workWaits core k

/-- One sweep of a core's engine: the contexts with their victims. -/
def State.sweep (s : State) (core : Nat) : List (Nat × Nat) :=
  (s.seekers core).flatMap fun k => (s.victims core k).map fun v => (v, k)

/-- The end of a sweep that found nothing: a wait of 64 cycles, doubled by each further empty sweep up to 4,096. -/
def Steal.backOff (t : Steal) (cycle : Nat) : Steal :=
  { t with pos := 0, phase := .idle, blocked := cycle + t.wait, wait := Nat.min (2 * t.wait) 4096 }

/-- Replaces the steal engine of a core. -/
def State.setSteal (s : State) (core : Nat) (t : Steal) : State := s.modCoreAt core fun c => { c with steal := t }

/-- STEAL_PROBE (11 R226): an engine that does not wait probes the next victim of its sweep. -/
def execStealProbe (core : Nat) (s : State) : Host.Outcome State Fault Refusal :=
  let t := (s.coreAt core).steal
  .next (if t.phase = .idle ∧ t.blocked = 0 ∧ (s.coreAt core).active ∧ s.seekers core ≠ [] then
      match (s.sweep core).drop t.pos with
      | (v, k) :: _ => s.setSteal core { t with phase := .probing v k }
      | [] => s.setSteal core (t.backOff s.cycle)
    else s)

/-- STEAL_BACKOFF_EXPIRY (11 R226). -/
def execStealBackoffExpiry (core : Nat) (s : State) : Host.Outcome State Fault Refusal :=
  let t := (s.coreAt core).steal
  .next (if t.blocked ≠ 0 ∧ t.blocked ≤ s.cycle then s.setSteal core { t with blocked := 0 } else s)

/-! ### The probe at the victim (11 R227) -/

/-- Whether a tile descriptor is malformed for a context (11 R214). -/
def tileMalformed (c : Ctx) (t : Nat) : Bool :=
  let store := t / 2 ^ 62
  let len := t / 2 ^ 11 % 2 ^ 12
  let off := t % 2 ^ 11
  if store = 0 then t != 0
  else t / 2 ^ 23 % 2 ^ 39 != 0 || len == 0 || decide (2048 < len) || decide ((c.window store).size / 64 < off + len)

/-- The mask of malformed tiles of a frame image. -/
def malformedTiles (c : Ctx) (f : Nat) : Nat := packLanes 1 ((frameTiles f).map fun t => if tileMalformed c t then 1 else 0)

/-- Whether the unit of a core at a level of a kernel contains another core (10 R205). -/
def State.sameUnit (s : State) (kern core other level : Nat) : Bool :=
  match s.kernelAt (pkgOf core) kern with
  | some k =>
    let n := recordField k.record 0x28 1
    let kind := recordField k.record (0x60 + 8 * (if level < n then level else n - 1)) 1
    let size := if kind = 0 then 1 else if kind = 1 then 4 else if kind = 2 then 16 else if kind = 3 then 512 else 2048
    pkgOf core == pkgOf other && numOf core / size == numOf other / size
  | none => false

/-- A free entry of the join table of a bent. -/
def State.freeJoin (s : State) (bent : Nat) : Option Nat :=
  (List.range 4096).find? fun i => s.joinEntry bent i / 2 ^ 63 = 0 && !AMap.has (s.bentAt bent).joinReserved i

/-- The physical address of the frame at TOP of a core's deque as its caches translate it for a kernel. -/
def State.frameXlat (s : State) (core kern : Nat) (a : Word) : State × EngineXlat :=
  let x := s.ctxOf core kern
  s.engineXlat (bentOf core) x.asid x.ptroot .store (a.toNat % 2 ^ 48)

/-- A frame image as a core reads it through its bent. -/
def State.frameImage (s : State) (core pa : Nat) : State × Nat :=
  let s1 := s.l2Current (bentOf core) (pa / 256)
  (s1, s1.l2Read (bentOf core) pa 128)

/-- The empty answer to a thief, with a frame record for the victim's supervisor where one is due: at most one while a frame stays at TOP, held
while the queue is full (19 R356). -/
def State.answerEmpty (s : State) (thief victim kern : Nat) (record : Option (Word × Nat)) : State :=
  let s1 := match record with
    | some r =>
      if (s.coreAt victim).deque.reported then s
      else (s.modCoreAt victim fun c => { c with deque := { c.deque with reported := true, record := some (kern, r) } }).flushFrameRecord victim
    | none => s
  s1.modCoreAt thief fun c => { c with steal := { c.steal with phase := .empty } }

/-- The victim's answer about the frame at TOP, whose line translates to pa. -/
def State.probeFrame (s : State) (thief victim kern : Nat) (a : Word) (pa : Nat) : State :=
  let p := s.frameImage victim pa
  let s := p.1
  let f := p.2
  let x := s.ctxOf victim kern
  let bad := malformedTiles x f
  if !s.sameUnit kern victim thief (frameWord f 3 / 16 % 8) then s.answerEmpty thief victim kern none
  else if bad ≠ 0 then s.answerEmpty thief victim kern (some (a, bad * 2 ^ 8))
  else
    let take (s : State) (fresh : Bool) (bent i : Nat) :=
      (s.modCoreAt victim fun c => { c with deque := { c.deque with top := c.deque.top + 1, reported := false } }).modCoreAt thief
        fun c => { c with steal := { c.steal with phase := .taken victim kern a fresh bent i } }
    match joinHandle (pkgOf victim) (frameWord f 2) with
    | some (bent, i) => take s false bent i
    | none =>
      let bent := bentOf victim
      match s.freeJoin bent with
      | some i => take (s.modBentAt bent fun b => { b with joinReserved := AMap.set b.joinReserved i kern }) true bent i
      | none => s.answerEmpty thief victim kern none

/-- PROBE_ARRIVAL (11 R227): the probe of a thief reaches its victim, which gives the frame at TOP or answers empty. -/
def execProbeArrival (core : Nat) (s : State) : Host.Outcome State Fault Refusal :=
  match (s.coreAt core).steal.phase with
  | .probing victim kern =>
    let c := s.coreAt victim
    let q := c.deque
    let mine := match q.owner with
      | some n => (c.slotAt n).ctx = some kern
      | none => false
    let x := s.ctxOf victim kern
    if !mine || decide (q.bot ≤ q.top) || !(s.hasCtx victim kern) || !(x.state = .running || x.state = .parked) then
      .next ((s.answerEmpty core victim kern none).probed victim)
    else
      let a := AMap.getD q.entries q.top 0
      if !s.recordReady victim kern then .next s
      else
        match s.frameXlat victim kern a with
        | (s1, .fault t) => .next ((s1.answerEmpty core victim kern (some (a, t))).probed victim)
        | (s1, .ok pa) => if s1.quietRange (bentOf victim) pa 128 then .next ((s1.probeFrame core victim kern a pa).probed victim) else .next s
  | _ => .next s

/-- PROBE_EMPTY_REPLY (11 R226): the sweep goes on with the next victim, or the engine waits. -/
def execProbeEmptyReply (core : Nat) (s : State) : Host.Outcome State Fault Refusal :=
  let t := (s.coreAt core).steal
  .next (if t.phase = .empty then
      let t1 := { t with phase := .idle, pos := t.pos + 1 }
      (s.setSteal core (if (s.sweep core).length ≤ t1.pos then t1.backOff s.cycle else t1)).modCoreAt core fun c => c.count 0x6 1
    else s)

/-! ### Taking a frame (11 R228) -/

/-- JOIN_INCREMENT (11 R228, step 1): the stolen child is counted at the join table, and the frame goes to Stolen. -/
def execJoinIncrement (core : Nat) (s : State) : Host.Outcome State Fault Refusal :=
  match (s.coreAt core).steal.phase with
  | .taken victim kern a fresh bent i =>
    match s.frameXlat victim kern a with
    | (s1, .ok pa) =>
      let vb := bentOf victim
      if !s1.quietRange vb pa 128 || s1.homeRoute vb pa = .wait || s1.route (dieOf victim) (dieOfBent bent) = .wait then .next s
      else
        let e := s1.joinEntry bent i
        let s1 := s1.taking bent (joinPort i) 0
        let s2 := if fresh then
            (s1.setJoin bent i (2 ^ 63 + 2 ^ 41 + a.toNat % 2 ^ 48 / 2 ^ 7)).modBentAt bent fun b =>
              { b with joinReserved := AMap.erase b.joinReserved i, joinOwner := AMap.set b.joinOwner i kern }
          else s1.setJoin bent i (if joinCount e < 2 ^ 21 - 1 then e + 2 ^ 41 else e)
        let p := s2.frameImage victim pa
        let words := (if fresh then [(2, 2 ^ 63 + bent % 128 * 2 ^ 12 + i)] else []) ++ [(3, flagsWith (frameWord p.2 3) 3)]
        .next ((p.1.bentStoreAt vb none pa false 128 (wordsValue words) (wordsMask words)).setSteal core
          { (s.coreAt core).steal with phase := .counted victim kern a })
    | (_, .fault _) => .next s
  | _ => .next s

/-- Copies one tile from a context's window on a core to the same offsets of another core's window (11 R228, R230). -/
def State.copyTile (s : State) (src dst kern tile : Nat) : State :=
  let store := tile / 2 ^ 62
  let n := tile / 2 ^ 11 % 2 ^ 12 * 64
  let o := tile % 2 ^ 11 * 64
  if store = 0 then s
  else
    let from0 := ((s.ctxOf src kern).window store).base + o
    let to0 := ((s.ctxOf dst kern).window store).base + o
    s.storeWrite dst store to0 n (s.storeRead src store from0 n) (fullMask n)

/-- Copies the tiles of a frame image. -/
def State.copyTiles (s : State) (src dst kern : Nat) (tiles : List Nat) : State :=
  tiles.foldl (fun s t => s.copyTile src dst kern t) s

/-- STEAL_FRAME_SEND (11 R228, steps 2 and 3): the victim releases at the group scope and cleans its L1D; frame image and tiles go to the thief, and the
frame goes to Running-on-thief with the thief's rank as HOLDER, at the home for a thief of another bent. -/
def execStealFrameSend (core : Nat) (s : State) : Host.Outcome State Fault Refusal :=
  match (s.coreAt core).steal.phase with
  | .counted victim kern a =>
    match s.frameXlat victim kern a with
    | (s1, .ok pa) =>
      let vb := bentOf victim
      let remote := decide (bentOf core ≠ vb)
      if !s1.quietRange vb pa 128 || s1.homeRoute vb pa = .wait then .next s
      else
        let f0 := s1.frameImage victim pa
        let scope := Nat.max (s1.levelScope (pkgOf victim) kern (frameWord f0.2 3 / 16 % 8)) (if remote then 3 else 2)
        if !((List.range 8).all fun n => f0.1.releaseReady victim n scope) || !(f0.1.coreAt victim).dirtyL1.all (f0.1.quiet vb) then .next s
        else
          let p := ((f0.1.release victim scope).cleanOwn victim).frameImage victim pa
          let s2 := p.1.copyTiles victim core kern (frameTiles p.2)
          let words := [(3, frameWord p.2 3 / 2 ^ 32 * 2 ^ 32 + (s2.ctxOf core kern).rank.toNat * 2 ^ 16 + frameWord p.2 3 % 2 ^ 16 / 8 * 8 + 4)]
          let s3 := s2.bentStoreAt vb none pa false 128 (wordsValue words) (wordsMask words)
          .next ((if remote then s3.cleanLine vb (pa / 256) else s3).setSteal core
            { (s.coreAt core).steal with phase := .landed kern a (BitVec.ofNat 1024 p.2) scope remote })
    | (_, .fault _) => .next s
  | _ => .next s

/-- The registers that a continuation starts with: g1, g2 and g16 to g22 (11 R228, R230). -/
def continuationRegs (a : Word) (f : Nat) : List (BitVec 5 × Word) :=
  (1, a) :: ((List.range 8).zip savedRegs).map fun p => (p.2, BitVec.ofNat 64 (frameWord f (8 + p.1)))

/-- STOLEN_TASK_START (11 R228, steps 4 and 5): the thief acquires and the continuation starts in a free slot at RESUME. -/
def execStolenTaskStart (core : Nat) (s : State) : Host.Outcome State Fault Refusal :=
  match (s.coreAt core).steal.phase with
  | .landed kern a image scope remote =>
    match (s.coreAt core).freeSlot kern with
    | some slot =>
      let s1 := if remote then s.acquire core scope else s.dropClean core
      let s2 := (s1.setSteal core {}).modCoreAt core fun c => c.count 0x5 1
      .next (s2.startTask core slot kern
        { kind := 1, origin := a.setWidth 48, pc := BitVec.ofNat 64 (frameWord image.toNat 0), regs := continuationRegs a image.toNat })
    | none => .next s
  | _ => .next s

/-! ### Resumption (11 R230) -/

/-- The number of the lowest malformed tile of a mask. -/
def lowestTile (mask : Nat) : Nat := ((List.range 4).find? fun n => mask / 2 ^ n % 2 = 1).getD 0

/-- CONTINUATION_RESUME (11 R230): the core acquires, copies the tiles that another context holds, writes JOIN, STATE and HOLDER
and starts the continuation in the slot; a malformed tile is not copied and takes BADRET before the first instruction. -/
def execContinuationResume (core slot : Nat) (s : State) : Host.Outcome State Fault Refusal :=
  let sl := s.slotOf core slot
  match sl.run, sl.ctx with
  | .resuming a pa, some kern =>
    let bent := bentOf core
    if !s.quietRange bent pa 128 || s.homeRoute bent pa = .wait then .next s
    else
      let f0 := s.frameImage core pa
      let s1 := f0.1.acquire core (f0.1.levelScope (pkgOf core) kern (frameWord f0.2 3 / 16 % 8))
      let p := s1.frameImage core pa
      let f := p.2
      let x := p.1.ctxOf core kern
      let bad := malformedTiles x f
      let holder := frameWord f 3 / 2 ^ 16 % 2 ^ 11
      let tiles := (frameTiles f).filter fun t => !tileMalformed x t
      let s2 := if holder = x.rank.toNat then p.1
        else p.1.copyTiles ((p.1.kernelCores (pkgOf core) kern).getD holder core) core kern tiles
      let words := [(2, 0), (3, frameWord f 3 / 2 ^ 32 * 2 ^ 32 + x.rank.toNat * 2 ^ 16 + frameWord f 3 % 2 ^ 16 / 8 * 8 + 6)]
      let resume := BitVec.ofNat 64 (frameWord f 0)
      let s3 := (s2.bentStoreAt bent none pa false 128 (wordsValue words) (wordsMask words)).startTask core slot kern
        { kind := 2, origin := a.setWidth 48, pc := resume, regs := continuationRegs a f }
      .next (if bad = 0 || (targetCause resume).isSome then s3
        else s3.takeTrapAt core slot Cause.badret a (BitVec.ofNat 64 (lowestTile bad)) resume false)
  | _, _ => .next s

end Sys2Proof.Machine
end

