-- ==== Sys2Proof/Machine/System.lean ====
section
/-!
DEFINITION. System instructions: NOP, WFE, BREAK, HALT (04 R106), TRAP and TRET (19 R353), the firmware escapes (26 R411),
illegal words (02 R30) and the delivery of held asynchronous traps (19 R351).

Readings of the manual and choices that this file codes: assumption log 20, 104.
-/
namespace Sys2Proof.Machine

open Sys2Proof

/-- NOP (04 R106). -/
def execNop (s : State) : Host.Outcome State Fault Refusal := issue .nop [] [] s fun s => s.retire

/-- TRAP (19 R353): SOFTWARE with the immediate in TVAL. -/
def execTrap (imm : BitVec 6) (s : State) : Host.Outcome State Fault Refusal :=
  issue (.trap imm) [] [] s fun s => s.trap Cause.software (imm.setWidth 64)

/-- BREAK (04 R106). -/
def execBreak (s : State) : Host.Outcome State Fault Refusal := issue .break [] [] s fun s => s.trap Cause.break 0

/-- WFE (04 R106): takes the event flag, or parks until it is set. -/
def execWfe (s : State) : Host.Outcome State Fault Refusal :=
  issue .wfe [] [] s fun s => if s.slot.evt then (s.modSlot fun sl => { sl with evt := false }).retire else s.wait

/-- Whether every access of a core is complete and acknowledged. -/
def State.coreSettled (s : State) (core : Nat) : Bool :=
  let c := s.coreAt core
  c.requests.isEmpty && (List.range 8 ++ [noSlot] ++ c.ctxs.keys.map endedSlot).all (s.accessesDone core)

/-- HALT (04 R106): once every access of the core is acknowledged it fetches nothing more. -/
def execHalt (s : State) : Host.Outcome State Fault Refusal :=
  issue .halt [] [] s fun s => if s.coreSettled s.cur then s.retire.modCore fun c => { c with halted := true } else s.wait

/-! ### Return from a trap -/

/-- Whether a saved status cannot be returned to from bank b by a slot in a mode (19 R353). -/
def badStatus (x : Word) (mode : Mode) (b : Nat) : Bool :=
  x.toNat / 2 ^ 7 != 0 || x.toNat % 4 == 3 || decide (mode.code < x.toNat % 4) || x.toNat / 4 % 4 != b

/-- The return of a slot to bank b with a saved status. -/
def State.trapReturn (s : State) (b : Nat) (x : Word) : State :=
  (s.modSlot fun sl =>
    { sl with
      mode := Mode.ofCode (x.toNat % 4)
      td := if b = 0 then 0 else 1
      evt := true
      te := x.getLsbD 5 }).retireAt ((s.slot.bank b).tepc &&& ~~~3#64)

/-- TRET (19 R353): ILLEGAL at depth 0, BADRET on a bad saved status; a service task ends under END, an aborted handler ends
instead of being returned to (17 R324), and otherwise the slot returns. -/
def execTret (s : State) : Host.Outcome State Fault Refusal :=
  issue .tret [] [] s fun s =>
    if s.slot.td = 0 then s.trap Cause.illegal 0x60020000
    else
      let b := s.slot.td.val - 1
      let x := (s.slot.bank b).tstat
      if badStatus x s.slot.mode b then s.trap Cause.badret x (s.slot.bank b).tepc
      else if x.getLsbD 6 then s.finishTask
      else if b = 0 && (match s.slot.handler with
        | some h => h.aborted
        | none => false) then s.finishTask
      else s.trapReturn b x

/-! ### Firmware escapes -/

/-- FDROP (26 R411): the target is checked, then the slot runs in supervisor mode at it.  The first FDROP of an accepted
image advances the flash's counter to its security version (26 R413). -/
def execFdrop (a : BitVec 5) (s : State) : Host.Outcome State Fault Refusal :=
  issue (.fdrop a) [.g a] [] s fun s =>
    let target := s.readG a
    match targetCause target with
    | some c => s.trap c target
    | none =>
      ((s.modSlot fun sl => { sl with mode := .supervisor, td := 0, te := false, evt := false }).modPkgAt (pkgOf s.cur) fun p =>
        if p.dropped then p else { p with dropped := true, counter := Nat.max p.counter p.version }).retireAt target

/-- FSEAL (26 R411). -/
def execFseal (imm : BitVec 6) (s : State) : Host.Outcome State Fault Refusal :=
  issue (.fseal imm) [] [] s fun s => (s.modCore fun c => { c with sealBits := c.sealBits ||| imm.setWidth 8 }).retire

/-! ### Illegal words and held traps -/

/-- ILLEGAL_WORD (02 R30): a word that is reserved, or that the accepted features or the mode exclude, traps with no
effect. -/
def execIllegalWord (word : BitVec 32) (s : State) : Host.Outcome State Fault Refusal :=
  .next (if s.core.canIssue s.core.curSlot.val && (match decode word with
      | some i => !s.permitted i
      | none => true) then s.trap Cause.illegal (word.setWidth 64) else s)

/-- HELD_ASYNC_TRAP_DELIVERY (19 R351): a slot below depth 2 takes the asynchronous trap that it has held longest. -/
def execHeldAsyncTrapDelivery (core slot : Nat) (s : State) : Host.Outcome State Fault Refusal :=
  let sl := s.slotOf core slot
  .next (match sl.held with
    | h :: rest =>
      if sl.td ≠ 2 && (sl.run = .ready || sl.run = .waiting) && !(s.coreAt core).awaits slot then
        (s.modSlotOf core slot fun sl => { sl with held := rest }).takeTrapAt core slot h.cause h.tval h.tinfo sl.pc true
      else s
    | [] => s)

end Sys2Proof.Machine
end

