-- ==== Sys2Proof/Machine/Vector.lean ====
section
/-!
DEFINITION. Vector integer and floating operations and compares (05 R113 to R118).
-/
namespace Sys2Proof.Machine

open Sys2Proof

/-- The bits of the enabled lanes of width w. -/
def State.laneMask (s : State) (g : BitVec 2) (w : Nat) : Vec := laneBits w (s.enabled g)

/-- An instruction on the lanes of two sources (05 R113): its latency, and whether it is one of fixed latency. -/
def laneOp2 (i : Instr) (d a b : BitVec 5) (g : BitVec 2) (sc : BitVec 3) (w lat : Nat) (fixed : Bool) (f : Nat → Nat → Nat) (s : State) :
    Host.Outcome State Fault Refusal :=
  vissue i g [a, b] [d] [] [] s fun s xs =>
    let x := xs.getD 0 0
    let y := xs.getD 1 0
    (s.giveV d (vecOf w fun k => f (lane x w k) (lane y w k)) (s.laneMask g w) lat fixed).retire (stallOf sc)

/-- An instruction on the lanes of one source (05 R115). -/
def laneOp1 (i : Instr) (d a : BitVec 5) (g : BitVec 2) (sc : BitVec 3) (w lat : Nat) (fixed : Bool) (f : Nat → Nat) (s : State) :
    Host.Outcome State Fault Refusal :=
  vissue i g [a] [d] [] [] s fun s xs =>
    let x := xs.getD 0 0
    (s.giveV d (vecOf w fun k => f (lane x w k)) (s.laneMask g w) lat fixed).retire (stallOf sc)

/-! ### VINT -/

/-- VADD (05 table 5.1). -/
def execVadd (d a b : BitVec 5) (g w : BitVec 2) (sc : BitVec 3) (s : State) : Host.Outcome State Fault Refusal :=
  laneOp2 (.vadd d a b g w sc) d a b g sc (widthOf w) 2 true (intLane .add (widthOf w)) s

/-- VSUB (05 table 5.1). -/
def execVsub (d a b : BitVec 5) (g w : BitVec 2) (sc : BitVec 3) (s : State) : Host.Outcome State Fault Refusal :=
  laneOp2 (.vsub d a b g w sc) d a b g sc (widthOf w) 2 true (intLane .sub (widthOf w)) s

/-- VMUL (05 table 5.1). -/
def execVmul (d a b : BitVec 5) (g w : BitVec 2) (sc : BitVec 3) (s : State) : Host.Outcome State Fault Refusal :=
  laneOp2 (.vmul d a b g w sc) d a b g sc (widthOf w) 3 true (intLane .mul (widthOf w)) s

/-- VMULH (05 table 5.1). -/
def execVmulh (d a b : BitVec 5) (g w : BitVec 2) (sc : BitVec 3) (s : State) : Host.Outcome State Fault Refusal :=
  laneOp2 (.vmulh d a b g w sc) d a b g sc (widthOf w) 3 true (intLane .mulh (widthOf w)) s

/-- VMIN (05 table 5.1). -/
def execVmin (d a b : BitVec 5) (g w : BitVec 2) (sc : BitVec 3) (s : State) : Host.Outcome State Fault Refusal :=
  laneOp2 (.vmin d a b g w sc) d a b g sc (widthOf w) 2 true (intLane .min (widthOf w)) s

/-- VMAX (05 table 5.1). -/
def execVmax (d a b : BitVec 5) (g w : BitVec 2) (sc : BitVec 3) (s : State) : Host.Outcome State Fault Refusal :=
  laneOp2 (.vmax d a b g w sc) d a b g sc (widthOf w) 2 true (intLane .max (widthOf w)) s

/-- VAND (05 table 5.1). -/
def execVand (d a b : BitVec 5) (g w : BitVec 2) (sc : BitVec 3) (s : State) : Host.Outcome State Fault Refusal :=
  laneOp2 (.vand d a b g w sc) d a b g sc (widthOf w) 2 true (intLane .and (widthOf w)) s

/-- VOR (05 table 5.1). -/
def execVor (d a b : BitVec 5) (g w : BitVec 2) (sc : BitVec 3) (s : State) : Host.Outcome State Fault Refusal :=
  laneOp2 (.vor d a b g w sc) d a b g sc (widthOf w) 2 true (intLane .or (widthOf w)) s

/-- VXOR (05 table 5.1). -/
def execVxor (d a b : BitVec 5) (g w : BitVec 2) (sc : BitVec 3) (s : State) : Host.Outcome State Fault Refusal :=
  laneOp2 (.vxor d a b g w sc) d a b g sc (widthOf w) 2 true (intLane .xor (widthOf w)) s

/-- VSLL (05 table 5.1). -/
def execVsll (d a b : BitVec 5) (g w : BitVec 2) (sc : BitVec 3) (s : State) : Host.Outcome State Fault Refusal :=
  laneOp2 (.vsll d a b g w sc) d a b g sc (widthOf w) 2 true (intLane .sll (widthOf w)) s

/-- VSRL (05 table 5.1). -/
def execVsrl (d a b : BitVec 5) (g w : BitVec 2) (sc : BitVec 3) (s : State) : Host.Outcome State Fault Refusal :=
  laneOp2 (.vsrl d a b g w sc) d a b g sc (widthOf w) 2 true (intLane .srl (widthOf w)) s

/-- VSRA (05 table 5.1). -/
def execVsra (d a b : BitVec 5) (g w : BitVec 2) (sc : BitVec 3) (s : State) : Host.Outcome State Fault Refusal :=
  laneOp2 (.vsra d a b g w sc) d a b g sc (widthOf w) 2 true (intLane .sra (widthOf w)) s

/-! ### VFP -/

/-- The correctly rounded sum. -/
def addLane (f : Fmt) (a b : Nat) : Nat := roundF f .rne (addF .rne (decodeF f a) (decodeF f b))
/-- The correctly rounded difference. -/
def subLane (f : Fmt) (a b : Nat) : Nat := roundF f .rne (addF .rne (decodeF f a) (negF (decodeF f b)))
/-- The correctly rounded product. -/
def mulLane (f : Fmt) (a b : Nat) : Nat := roundF f .rne (mulF (decodeF f a) (decodeF f b))
/-- The correctly rounded quotient. -/
def divLane (f : Fmt) (a b : Nat) : Nat := divF f .rne (decodeF f a) (decodeF f b)
/-- The correctly rounded square root. -/
def sqrtLane (f : Fmt) (a : Nat) : Nat := sqrtF f .rne (decodeF f a)

/-- The latency of VFDIV and VFSQRT in a format (05 table 5.2). -/
def divLatency (root : Bool) (f : Fmt) : Nat := if f = .fp64 then (if root then 30 else 28) else if f = .fp32 then 16 else 10

/-- VFADD (05 table 5.2). -/
def execVfadd (d a b : BitVec 5) (g w : BitVec 2) (sc : BitVec 3) (s : State) : Host.Outcome State Fault Refusal :=
  laneOp2 (.vfadd d a b g w sc) d a b g sc (fmtOf w).width 4 true (addLane (fmtOf w)) s

/-- VFSUB (05 table 5.2). -/
def execVfsub (d a b : BitVec 5) (g w : BitVec 2) (sc : BitVec 3) (s : State) : Host.Outcome State Fault Refusal :=
  laneOp2 (.vfsub d a b g w sc) d a b g sc (fmtOf w).width 4 true (subLane (fmtOf w)) s

/-- VFMUL (05 table 5.2). -/
def execVfmul (d a b : BitVec 5) (g w : BitVec 2) (sc : BitVec 3) (s : State) : Host.Outcome State Fault Refusal :=
  laneOp2 (.vfmul d a b g w sc) d a b g sc (fmtOf w).width 4 true (mulLane (fmtOf w)) s

/-- VFMIN (05 table 5.2). -/
def execVfmin (d a b : BitVec 5) (g w : BitVec 2) (sc : BitVec 3) (s : State) : Host.Outcome State Fault Refusal :=
  laneOp2 (.vfmin d a b g w sc) d a b g sc (fmtOf w).width 4 true (minmaxF (fmtOf w) false) s

/-- VFMAX (05 table 5.2). -/
def execVfmax (d a b : BitVec 5) (g w : BitVec 2) (sc : BitVec 3) (s : State) : Host.Outcome State Fault Refusal :=
  laneOp2 (.vfmax d a b g w sc) d a b g sc (fmtOf w).width 4 true (minmaxF (fmtOf w) true) s

/-- VFDIV (05 table 5.2). -/
def execVfdiv (d a b : BitVec 5) (g w : BitVec 2) (sc : BitVec 3) (s : State) : Host.Outcome State Fault Refusal :=
  laneOp2 (.vfdiv d a b g w sc) d a b g sc (fmtOf w).width (divLatency false (fmtOf w)) false (divLane (fmtOf w)) s

/-- VFSQRT (05 table 5.2). -/
def execVfsqrt (d a : BitVec 5) (g w : BitVec 2) (sc : BitVec 3) (s : State) : Host.Outcome State Fault Refusal :=
  laneOp1 (.vfsqrt d a g w sc) d a g sc (fmtOf w).width (divLatency true (fmtOf w)) false (sqrtLane (fmtOf w)) s

/-- VFRCP (05 R115, R116). -/
def execVfrcp (d a : BitVec 5) (g w : BitVec 2) (sc : BitVec 3) (s : State) : Host.Outcome State Fault Refusal :=
  laneOp1 (.vfrcp d a g w sc) d a g sc (fmtOf w).width 6 true (approx (fmtOf w) .rcp) s

/-- VFRSQ (05 R115, R116). -/
def execVfrsq (d a : BitVec 5) (g w : BitVec 2) (sc : BitVec 3) (s : State) : Host.Outcome State Fault Refusal :=
  laneOp1 (.vfrsq d a g w sc) d a g sc (fmtOf w).width 6 true (approx (fmtOf w) .rsq) s

/-- VFEXP2 (05 R115, R116). -/
def execVfexp2 (d a : BitVec 5) (g w : BitVec 2) (sc : BitVec 3) (s : State) : Host.Outcome State Fault Refusal :=
  laneOp1 (.vfexp2 d a g w sc) d a g sc (fmtOf w).width 6 true (approx (fmtOf w) .exp2) s

/-- VFLOG2 (05 R115, R116). -/
def execVflog2 (d a : BitVec 5) (g w : BitVec 2) (sc : BitVec 3) (s : State) : Host.Outcome State Fault Refusal :=
  laneOp1 (.vflog2 d a g w sc) d a g sc (fmtOf w).width 6 true (approx (fmtOf w) .log2) s

/-! ### VFMA -/

/-- A fused operation (05 R117): va times vb, the destination as addend, one rounding. -/
def fusedOp (i : Instr) (d a b : BitVec 5) (g w : BitVec 2) (sc : BitVec 3) (negProduct negAddend : Bool) (s : State) :
    Host.Outcome State Fault Refusal :=
  vissue i g [a, b, d] [d] [] [] s fun s xs =>
    let f := fmtOf w
    let n := f.width
    let val (j k : Nat) : FVal := decodeF f (lane (xs.getD j 0) n k)
    let r (k : Nat) : Nat :=
      let p := mulF (val 0 k) (val 1 k)
      roundF f .rne (addF .rne (if negProduct then negF p else p) (if negAddend then negF (val 2 k) else val 2 k))
    (s.giveV d (vecOf n r) (s.laneMask g n) 4).retire (stallOf sc)

/-- VFMA (05 R117). -/
def execVfma (d a b : BitVec 5) (g w : BitVec 2) (sc : BitVec 3) (s : State) : Host.Outcome State Fault Refusal :=
  fusedOp (.vfma d a b g w sc) d a b g w sc false false s

/-- VFMS (05 R117). -/
def execVfms (d a b : BitVec 5) (g w : BitVec 2) (sc : BitVec 3) (s : State) : Host.Outcome State Fault Refusal :=
  fusedOp (.vfms d a b g w sc) d a b g w sc false true s

/-- VFNMA (05 R117). -/
def execVfnma (d a b : BitVec 5) (g w : BitVec 2) (sc : BitVec 3) (s : State) : Host.Outcome State Fault Refusal :=
  fusedOp (.vfnma d a b g w sc) d a b g w sc true false s

/-! ### VCMP -/

/-- The mask of the enabled lanes where a condition holds. -/
def State.compareMask (s : State) (g : BitVec 2) (w : Nat) (cond : Nat → Nat → Bool) (x y : Vec) : Word :=
  BitVec.ofNat 64 (packLanes 1 ((List.range (512 / w)).map fun k => (s.enabled g k && cond (lane x w k) (lane y w k)).toNat))

/-- A compare (05 R118): its mask goes to a general register and its taint is cleared. -/
def compareOp (i : Instr) (d a b : BitVec 5) (g : BitVec 2) (sc : BitVec 3) (w : Nat) (cond : Nat → Nat → Bool) (s : State) :
    Host.Outcome State Fault Refusal :=
  vissue i g [a, b] [] [] [.g d] s fun s xs =>
    (s.putG d (s.compareMask g w cond (xs.getD 0 0) (xs.getD 1 0)) 2).retire (stallOf sc)

/-- VCMP.EQ (05 R118). -/
def execVcmpEq (d a b : BitVec 5) (g w : BitVec 2) (sc : BitVec 3) (s : State) : Host.Outcome State Fault Refusal :=
  compareOp (.vcmpEq d a b g w sc) d a b g sc (widthOf w) (vcond 0 (widthOf w)) s

/-- VCMP.NE (05 R118). -/
def execVcmpNe (d a b : BitVec 5) (g w : BitVec 2) (sc : BitVec 3) (s : State) : Host.Outcome State Fault Refusal :=
  compareOp (.vcmpNe d a b g w sc) d a b g sc (widthOf w) (vcond 1 (widthOf w)) s

/-- VCMP.LT (05 R118). -/
def execVcmpLt (d a b : BitVec 5) (g w : BitVec 2) (sc : BitVec 3) (s : State) : Host.Outcome State Fault Refusal :=
  compareOp (.vcmpLt d a b g w sc) d a b g sc (widthOf w) (vcond 2 (widthOf w)) s

/-- VCMP.LE (05 R118). -/
def execVcmpLe (d a b : BitVec 5) (g w : BitVec 2) (sc : BitVec 3) (s : State) : Host.Outcome State Fault Refusal :=
  compareOp (.vcmpLe d a b g w sc) d a b g sc (widthOf w) (vcond 3 (widthOf w)) s

/-- VCMP.LTZ (05 R118). -/
def execVcmpLtz (d a b : BitVec 5) (g w : BitVec 2) (sc : BitVec 3) (s : State) : Host.Outcome State Fault Refusal :=
  compareOp (.vcmpLtz d a b g w sc) d a b g sc (widthOf w) (vcond 4 (widthOf w)) s

/-- VCMP.LEZ (05 R118). -/
def execVcmpLez (d a b : BitVec 5) (g w : BitVec 2) (sc : BitVec 3) (s : State) : Host.Outcome State Fault Refusal :=
  compareOp (.vcmpLez d a b g w sc) d a b g sc (widthOf w) (vcond 5 (widthOf w)) s

/-- VCMP.FEQ (05 R118). -/
def execVcmpFeq (d a b : BitVec 5) (g w : BitVec 2) (sc : BitVec 3) (s : State) : Host.Outcome State Fault Refusal :=
  compareOp (.vcmpFeq d a b g w sc) d a b g sc (fmtOf w).width (fcond (fmtOf w) 0) s

/-- VCMP.FLT (05 R118). -/
def execVcmpFlt (d a b : BitVec 5) (g w : BitVec 2) (sc : BitVec 3) (s : State) : Host.Outcome State Fault Refusal :=
  compareOp (.vcmpFlt d a b g w sc) d a b g sc (fmtOf w).width (fcond (fmtOf w) 1) s

/-- VCMP.FLE (05 R118). -/
def execVcmpFle (d a b : BitVec 5) (g w : BitVec 2) (sc : BitVec 3) (s : State) : Host.Outcome State Fault Refusal :=
  compareOp (.vcmpFle d a b g w sc) d a b g sc (fmtOf w).width (fcond (fmtOf w) 2) s

/-- VCMP.FUN (05 R118). -/
def execVcmpFun (d a b : BitVec 5) (g w : BitVec 2) (sc : BitVec 3) (s : State) : Host.Outcome State Fault Refusal :=
  compareOp (.vcmpFun d a b g w sc) d a b g sc (fmtOf w).width (fcond (fmtOf w) 3) s

end Sys2Proof.Machine
end

