-- ==== Sys2Proof/Machine/VectorConvert.lean ====
section
/-!
DEFINITION. Conversions of vector elements, microscaling blocks and XE8 blocks (05 R119 to R123).

Readings of the manual and choices that this file codes: assumption log 40.
-/
namespace Sys2Proof.Machine

open Sys2Proof

/-- The format of an element of VCVT: floating, or an integer of n bits. -/
inductive NumKind where
  | flt (f : Fmt)
  | int (n : Nat) (signed : Bool)
deriving DecidableEq, Repr

/-- Lane width of a format (05 R108). -/
def NumKind.lane : NumKind → Nat
  | .flt f => Nat.max 8 f.width
  | .int n _ => Nat.max 8 n

/-- The exact value of an element; the unused high bits of its lane are ignored. -/
def NumKind.value (k : NumKind) (w : Nat) : FVal :=
  match k with
  | .flt f => decodeF f (w % 2 ^ f.width)
  | .int n signed => ofIntF (if signed then toSigned n w else (w % 2 ^ n : Nat))

/-- One conversion, rounded once (05 R119, 03 R58, R72 to R74); the unused high bits of the lane are zero. -/
def NumKind.convert (k : NumKind) (mode : Rnd) (v : FVal) : Nat :=
  match k with
  | .flt f => roundF f mode v
  | .int n signed =>
    ofSigned n (if signed then toIntF mode (-(2 ^ (n - 1) : Nat)) ((2 ^ (n - 1) : Nat) - 1) v else toIntF mode 0 ((2 ^ n : Nat) - 1) v)

/-- The pairs of 05 table 5.4 in rising order: first index, source, target. -/
def cvtPairs : List (Nat × NumKind × NumKind) :=
  [(0x00, .flt .fp32, .flt .fp64), (0x02, .flt .fp64, .flt .fp32), (0x04, .flt .fp32, .flt .bf16), (0x06, .flt .fp32, .flt .fp16),
   (0x08, .flt .bf16, .flt .fp32), (0x0A, .flt .fp16, .flt .fp32), (0x0C, .flt .bf16, .flt .fp16), (0x0D, .flt .fp16, .flt .bf16),
   (0x0E, .flt .fp32, .int 32 true), (0x0F, .int 32 true, .flt .fp32), (0x10, .flt .fp32, .flt .e4m3), (0x14, .flt .fp32, .flt .e5m2),
   (0x18, .flt .fp32, .flt .e2m3), (0x1C, .flt .fp32, .flt .e3m2), (0x20, .flt .fp32, .flt .e2m1), (0x24, .flt .fp32, .int 8 true),
   (0x28, .flt .fp32, .int 8 false), (0x2C, .flt .fp32, .int 4 true)] ++
  [(0x30, .flt .e4m3, .flt .fp32), (0x34, .flt .e5m2, .flt .fp32), (0x38, .flt .e2m3, .flt .fp32), (0x3C, .flt .e3m2, .flt .fp32),
   (0x40, .flt .e2m1, .flt .fp32), (0x44, .int 8 true, .flt .fp32), (0x48, .int 8 false, .flt .fp32), (0x4C, .int 4 true, .flt .fp32),
   (0x50, .flt .bf16, .flt .e4m3), (0x52, .flt .bf16, .flt .e5m2), (0x54, .flt .e4m3, .flt .bf16), (0x56, .flt .e5m2, .flt .bf16),
   (0x58, .flt .fp16, .flt .e4m3), (0x5A, .flt .fp16, .flt .e5m2), (0x5C, .flt .e4m3, .flt .fp16), (0x5E, .flt .e5m2, .flt .fp16)] ++
  [(0x60, .flt .fp64, .int 64 true), (0x61, .int 64 true, .flt .fp64), (0x62, .flt .fp32, .int 16 true), (0x64, .int 16 true, .flt .fp32),
   (0x66, .int 8 true, .flt .bf16)]

/-- The pair of an index: source, target and part. -/
def cvtPair (n : Nat) : NumKind × NumKind × Nat :=
  match (cvtPairs.filter fun p => decide (p.1 ≤ n)).getLast? with
  | some p => (p.2.1, p.2.2, n - p.1)
  | none => (.flt .fp32, .flt .fp64, 0)

/-- The rounding mode of a code of VCVT; stochastic draws stand apart. -/
def cvtMode (r : BitVec 3) : Rnd := if r = 5 then .nsat else roundMode r

/-- Converts a list of values in order; a stochastic mode draws once for each (03 R71). -/
def convertAll (dst : NumKind) (sto : Bool) (mode : Rnd) : List FVal → BitVec 32 → List Nat × BitVec 32
  | [], gen => ([], gen)
  | v :: r, gen =>
    let p := drawMode sto mode gen
    let q := convertAll dst sto mode r p.2
    (dst.convert p.1 v :: q.1, q.2)

/-- The register that holds values in the listed lanes of width w, and the mask of those lanes. -/
def scatterLanes (w : Nat) (l : List (Nat × Nat)) : Vec × Vec :=
  l.foldl (fun acc p =>
    (acc.1 ||| BitVec.ofNat 512 (p.2 % 2 ^ w * 2 ^ (w * p.1)), acc.2 ||| BitVec.ofNat 512 ((2 ^ w - 1) * 2 ^ (w * p.1)))) (0, 0)

/-- VCVT (05 R119, R120). -/
def execVcvt (d a p : BitVec 5) (g e : BitVec 2) (r sc : BitVec 3) (s : State) : Host.Outcome State Fault Refusal :=
  vissue (.vcvt d a p g e r sc) g [a] [d] [] [] s fun s xs =>
    let k := cvtPair (e ++ p).toNat
    let ws := k.1.lane
    let wd := k.2.1.lane
    let c := 512 / Nat.max ws wd
    let src (j : Nat) : Nat := if ws ≥ wd then j else k.2.2 * c + j
    let dst (j : Nat) : Nat := if ws ≤ wd then j else k.2.2 * c + j
    let js := (List.range c).filter (s.enabled g)
    let q := convertAll k.2.1 (r = 4) (cvtMode r) (js.map fun j => k.1.value (lane (xs.getD 0 0) ws (src j))) s.ctx.gen
    let out := scatterLanes wd ((js.map dst).zip q.1)
    ((if r = 4 then s.modCtx fun c => { c with gen := q.2 } else s).giveV d out.1 out.2 4).retire (stallOf sc)

/-- The registers of a pair operand; a queue register stands for two successive entries (05 R111). -/
def pairRegs (r : BitVec 5) : List (BitVec 5) := if isQ r then [r, r] else [r, r + 1]

/-- The block image of 32 elements and a side byte (05, Microscaling and XE8 blocks). -/
def blockImage (elems : List Nat) (side : Nat) : Vec := BitVec.ofNat 512 (packLanes 8 (elems ++ [side]))

/-- VQMX (05 R121): quantizes 32 values; the rounding code 3 does not saturate. -/
def execVqmx (d a p : BitVec 5) (e : BitVec 2) (sc : BitVec 3) (s : State) : Host.Outcome State Fault Refusal :=
  vissue (.vqmx d a p e sc) 0 (if e = 0 then [a] else pairRegs a) [d] [] [] s fun s xs =>
    let v (i : Nat) : FVal :=
      if e = 0 then decodeF .bf16 (lane (xs.getD 0 0) 16 i) else decodeF .fp32 (lane (xs.getD (i / 16) 0) 32 (i % 16))
    let code := p.toNat % 4
    let q := mxQuantize (p.toNat / 4) (code = 2) (if code = 0 then .rne else if code = 1 then .rz else .nsat) ((List.range 32).map v) s.ctx.gen
    ((if code = 2 then s.modCtx fun c => { c with gen := q.2.2 } else s).giveV d (blockImage q.2.1 q.1) allBits 6).retire (stallOf sc)

/-- VDQMX (05 R122): decodes a block image into BF16 lanes or into FP32 in a pair. -/
def execVdqmx (d a p : BitVec 5) (e : BitVec 2) (sc : BitVec 3) (s : State) : Host.Outcome State Fault Refusal :=
  vissue (.vdqmx d a p e sc) 0 [a] (if e = 0 then [d] else pairRegs d) [] [] s fun s xs =>
    let x := xs.getD 0 0
    let mode := roundMode (BitVec.ofNat 3 (p.toNat % 4))
    let v (f : Fmt) (i : Nat) : Nat := roundF f mode (mxValue (p.toNat / 4) (lane x 8 32) (lane x 8 i))
    (if e = 0 then s.giveV d (vecOf 16 (v .bf16)) allBits 6
     else
       let ds := pairRegs d
       (s.giveV (ds.getD 0 0) (vecOf 32 (v .fp32)) allBits 6).giveV (ds.getD 1 0) (vecOf 32 fun i => v .fp32 (16 + i)) allBits 6).retire (stallOf sc)

/-- VXDEC (05 R123): decodes a 32-element XE8 block; a malformed block gives NaN elements and length 0. -/
def execVxdec (d a : BitVec 5) (sc : BitVec 3) (s : State) : Host.Outcome State Fault Refusal :=
  vissue (.vxdec d a sc) 0 [a] [d] [] [] s fun s xs =>
    let image := match xe8Block 32 (xs.getD 0 0).toNat with
      | some r => blockImage r.1 r.2
      | none => blockImage (List.replicate 32 0x7F) 0
    (s.giveV d image allBits 6).retire (stallOf sc)

end Sys2Proof.Machine
end

