-- ==== Sys2Proof/Machine/VectorMemory.lean ====
section
/-!
DEFINITION. Vector loads and stores (05 R124 to R127).

A lane is checked and accessed in pieces, each within one page or store: one piece of the element's width, or for a bit
stream the bytes that hold the element.

Readings of the manual and choices that this file codes: assumption log 10, 25, 39.
-/
namespace Sys2Proof.Machine

open Sys2Proof

/-! ### Lanes and their checks -/

/-- Element width of a format code (03 tables 3.1 to 3.3); none for code 0 and for XE8. -/
def formatWidth (f : Nat) : Option Nat :=
  match f with
  | 1 | 2 | 9 | 10 | 15 | 16 | 17 | 21 => some 8
  | 3 | 7 | 8 => some 16
  | 4 | 6 => some 32
  | 5 => some 64
  | 11 | 12 | 18 | 19 => some 6
  | 13 | 14 | 20 => some 4
  | _ => none

/-- Whether the format of an address agrees with an element width (05 R125). -/
def formatAgrees (a : Word) (n : Nat) : Bool := formatOf a == 0 || formatWidth (formatOf a) = some n

/-- A piece of a lane's access: lane, lane address, address of the piece (none after an overflow), bytes, alignment. -/
structure Piece where
  lane : Nat
  tval : Word
  addr : Option Word
  bytes : Nat
  align : Nat
deriving DecidableEq, Repr

/-- A piece that passed its checks. -/
structure PieceAt where
  lane : Nat
  addr : Word
  bytes : Nat
  target : Target
deriving DecidableEq, Repr

/-- The outcome of the checks of a list of pieces. -/
inductive PiecesChecked where
  | ok (l : List PieceAt)
  | trap (cause : BitVec 8) (tval tinfo : Word)
  | wait
deriving DecidableEq, Repr

/-- The checks of one piece: overflow, descriptor with the agreement of formats, alignment, the refused spaces 5 and 6, and
the rest (05 R124, R125). -/
def State.checkPiece (s : State) (use : PageUse) (width : Nat) (ga : Word) (p : Piece) : State × Checked :=
  match p.addr with
  | none => (s, .trap Cause.pointerOverflow ga 0)
  | some a =>
    if !descriptorOk s.hasFeature a || !formatAgrees a width then (s, .trap Cause.descriptor a 0)
    else if a.toNat % p.align ≠ 0 then (s, .trap Cause.dmisalign a 0)
    else if spaceOf a = 5 || spaceOf a = 6 then (s, .trap Cause.spacePermission a 0)
    else s.checkAccess use 1 a

/-- Checks pieces in lane order; the first that fails gives its trap with its lane's address and number. -/
def State.checkPieces (s : State) (use : PageUse) (width : Nat) (ga : Word) : List Piece → State × PiecesChecked
  | [] => (s, .ok [])
  | p :: ps =>
    match s.checkPiece use width ga p with
    | (s1, .trap c v _) => (s1, .trap c (if c = Cause.pointerOverflow then v else p.tval) (BitVec.ofNat 64 p.lane))
    | (s1, .wait) => (s1, .wait)
    | (s1, .ok t) =>
      match s1.checkPieces use width ga ps with
      | (s2, .ok l) => (s2, .ok (⟨p.lane, p.addr.getD 0, p.bytes, t⟩ :: l))
      | r => r

/-- The piece of an element lane at a byte distance from ga. -/
def elementPiece (ga : Word) (delta : Int) (n i : Nat) : Piece :=
  let a := addOffset ga delta
  ⟨i, a.getD ga, a, n, n⟩

/-- The bytes of an element of a bit stream (05 table 5.5). -/
def streamPieces (ga : Word) (n i : Nat) : List Piece :=
  let first := n * i / 8
  let a := addOffset ga first
  (List.range ((n * i + n - 1) / 8 - first + 1)).map fun k => ⟨i, a.getD ga, if a = none then none else addOffset ga (first + k : Nat), 1, 1⟩

/-- The enabled lanes of width w. -/
def State.lanesOn (s : State) (g : BitVec 2) (w : Nat) : List Nat := (List.range (512 / w)).filter (s.enabled g)

/-! ### Loads -/

/-- The answer of reading pieces: bytes of each as numbers, a trap at a lane, or a wait. -/
inductive PiecesRead where
  | ok (l : List Nat)
  | trap (cause : BitVec 8) (tval : Word) (lane : Nat)
  | wait
deriving DecidableEq, Repr

/-- Keeps the sector that a piece was read from for the later attempts of the same instruction, so that a load of many
sectors makes progress (assumption log 10). -/
def State.keepSector (s : State) (p : PieceAt) : State :=
  match p.target with
  | .mem pa _ =>
    if (s.core.sector (pa / 64)).st = .i then s
    else s.modSlot fun sl => { sl with fill := AMap.set sl.fill (pa / 64) ((AMap.find? sl.fill (pa / 64)).getD (s.core.sector (pa / 64)).data) }
  | _ => s

/-- Reads the pieces that do not leave the core, in lane order; a piece that leaves it reads as 0 here. -/
def State.readPieces (s : State) : List PieceAt → State × PiecesRead
  | [] => (s, .ok [])
  | p :: ps =>
    match s.loadTarget p.addr p.target p.bytes with
    | (s1, .trap c _ _) => (s1, .trap c p.addr p.lane)
    | (s1, .wait) => (s1, .wait)
    | (s1, .away) =>
      match s1.readPieces ps with
      | (s2, .ok l) => (s2, .ok (0 :: l))
      | r => r
    | (s1, .ok v) =>
      match (s1.keepSector p).readPieces ps with
      | (s2, .ok l) => (s2, .ok (v :: l))
      | r => r

/-- The bytes of a lane as one number, from its pieces in order. -/
def laneValue (i : Nat) : List PieceAt → List Nat → Nat
  | p :: ps, v :: vs => if p.lane = i then v % 2 ^ (8 * p.bytes) + 2 ^ (8 * p.bytes) * laneValue i ps vs else laneValue i ps vs
  | _, _ => 0

/-- Bytes that the pieces of a lane hold together. -/
def laneBytes (i : Nat) (ps : List PieceAt) : Nat := ps.foldl (fun n p => if p.lane = i then n + p.bytes else n) 0

/-- Number of distinct 64-byte sectors that pieces touch. -/
def sectorCount (ps : List PieceAt) : Nat :=
  ((ps.map fun p => match p.target with
    | .mem pa _ => pa / 64
    | .own code off => (code + 1) * 2 ^ 48 + off / 64
    | .away => 2 ^ 60 + p.addr.toNat / 64).eraseDups).length

/-- Whether pieces are the 64 aligned bytes of a remote store that all lanes of an access name, one after the other: such an access is
one request, and single-copy atomic (07 table 7.8). -/
def wholeRemote (w n : Nat) (ps : List PieceAt) : Bool :=
  let base := (ps.headD ⟨0, 0, 0, .away⟩).addr.toNat
  decide (n = w) && ps.length == 512 / w && base % 64 == 0 &&
    (List.range ps.length).all fun i => match ps[i]? with
      | some p => p.target = .away && p.lane == i && p.bytes == w / 8 && p.addr.toNat == base + i * (w / 8)
      | none => false

/-- Sends a request for every lane that leaves the core, or one for 64 whole bytes, keeps the values of the other lanes, and parks. -/
def State.sendLanes (s : State) (d : BitVec 5) (w n : Nat) (shift : Nat → Nat) (lanes : List Nat) (ps : List PieceAt) (vs : List Nat)
    (stall : Nat) : State :=
  let id := s.core.nextReq
  let s1 :=
    if wholeRemote w n ps then s.addRequest (ps.headD ⟨0, 0, 0, .away⟩).addr 0 (.load 64) (.lane d 512 0 0 512)
    else lanes.foldl (fun s i =>
      match ps.find? fun p => p.lane == i with
      | some p =>
        let s1 := s.addRequest p.addr 0 (.load (laneBytes i ps)) (.lane d w i (shift i) n)
        if p.target = .away then s1
        else s1.modCore fun c => { c with requests := c.requests.map fun r =>
          if r.id + 1 = c.nextReq then { r with done := true, landed := true, data := BitVec.ofNat 512 (laneValue i ps vs) } else r }
      | none => s) s
  s1.awaitReply id stall

/-- A vector load: lane i takes n bits of its bytes from bit shift i up (05 R126, R127). -/
def State.loadLanes (s : State) (d : BitVec 5) (g : BitVec 2) (w n : Nat) (ga : Word) (pieces : Nat → List Piece) (shift : Nat → Nat)
    (lat : Nat → Nat) (stall : Nat) : State :=
  let lanes := s.lanesOn g w
  match s.checkPieces .load n ga (lanes.flatMap pieces) with
  | (s1, .trap c v t) => s1.trap c v t
  | (s1, .wait) => s1.wait
  | (s1, .ok ps) =>
    if ps.any (fun p => s1.copyStall p.addr p.bytes) then s1.wait
    else
      match s1.readPieces ps with
      | (s2, .trap c v i) => s2.trap c (((ps.find? fun p => p.lane == i).map PieceAt.addr).getD v) (BitVec.ofNat 64 i)
      | (s2, .wait) => s2.wait
      | (s2, .ok vs) =>
        if ps.any (fun p => p.target = .away) then
          (if s2.core.roomFor (if wholeRemote w n ps then 1 else lanes.length) then s2.sendLanes d w n shift lanes ps vs stall else s2.wait)
        else
          (s2.putV d (vecOf w fun i => laneValue i ps vs / 2 ^ shift i % 2 ^ n) (s.laneMask g w) (lat (sectorCount ps)) false).retire stall

/-- VLD (05 table 5.5). -/
def execVld (d a : BitVec 5) (g w : BitVec 2) (sc : BitVec 3) (s : State) : Host.Outcome State Fault Refusal :=
  vissue (.vld d a g w sc) g [] [d] [.g a] [] s fun s _ =>
    let n := widthOf w
    let ga := s.readG a
    s.loadLanes d g n n ga (fun i => [elementPiece ga (i * (n / 8) : Nat) (n / 8) i]) (fun _ => 0) (fun _ => 5) (stallOf sc)

/-- VLDS (05 table 5.5). -/
def execVlds (d a b : BitVec 5) (g w : BitVec 2) (sc : BitVec 3) (s : State) : Host.Outcome State Fault Refusal :=
  vissue (.vlds d a b g w sc) g [] [d] [.g a, .g b] [] s fun s _ =>
    let n := widthOf w
    let ga := s.readG a
    let stride := (s.readG b).toInt
    s.loadLanes d g n n ga (fun i => [elementPiece ga ((i : Int) * stride) (n / 8) i]) (fun _ => 0)
      (fun k => if stride = (n / 8 : Nat) then 5 else 5 + (k + 3) / 4) (stallOf sc)

/-- VGATHER (05 table 5.5). -/
def execVgather (d a b : BitVec 5) (g w : BitVec 2) (sc : BitVec 3) (s : State) : Host.Outcome State Fault Refusal :=
  vissue (.vgather d a b g w sc) g [b] [d] [.g a] [] s fun s xs =>
    let n := widthOf w
    let ga := s.readG a
    s.loadLanes d g n n ga (fun i => [elementPiece ga (toSigned n (lane (xs.getD 0 0) n i) * (n / 8 : Nat)) (n / 8) i]) (fun _ => 0)
      (fun k => 5 + (k + 3) / 4) (stallOf sc)

/-- VLDB (05 table 5.5): n-bit elements of a bit stream, zero-extended; the field holds n less 1. -/
def execVldb (d a n : BitVec 5) (g w : BitVec 2) (sc : BitVec 3) (s : State) : Host.Outcome State Fault Refusal :=
  vissue (.vldb d a n g w sc) g [] [d] [.g a] [] s fun s _ =>
    let k := n.toNat + 1
    let ga := s.readG a
    s.loadLanes d g (widthOf w) k ga (streamPieces ga k) (fun i => k * i % 8) (fun _ => 6) (stallOf sc)

/-! ### Stores -/

/-- A piece to be stored: its target, the bits of its value and which of them are written. -/
structure PieceStore where
  at_ : PieceAt
  value : Nat
  mask : Nat
deriving DecidableEq, Repr

/-- What one 64-byte sector of memory receives. -/
structure SectorStore where
  pa : Nat
  addr : Word
  table : Bool
  value : Nat := 0
  mask : Nat := 0
deriving DecidableEq, Repr

/-- Adds a piece to the sectors; a later lane replaces the bits of an earlier one. -/
def addSector (pa : Nat) (table : Bool) (p : PieceStore) : List SectorStore → List SectorStore
  | [] =>
    let sh := 8 * (pa % 64)
    [⟨pa / 64 * 64, p.at_.addr, table, Nat.land p.value p.mask * 2 ^ sh, p.mask * 2 ^ sh⟩]
  | x :: xs =>
    if x.pa = pa / 64 * 64 then
      let sh := 8 * (pa % 64)
      { x with value := mergeBits x.value (p.value * 2 ^ sh) (p.mask * 2 ^ sh) 64, mask := Nat.lor x.mask (p.mask * 2 ^ sh) } :: xs
    else x :: addSector pa table p xs

/-- The bytes of a bit mask of n bytes: those with a bit in it (some), or with every bit in it. -/
def byteMask (whole : Bool) (mask n : Nat) : Nat :=
  packLanes 1 ((List.range n).map fun i =>
    let b := mask / 2 ^ (8 * i) % 256
    if whole then (b == 255).toNat else (b != 0).toNat)

/-- Whether a sector store shares a byte with bits that it keeps. -/
def SectorStore.partly (x : SectorStore) : Bool := byteMask true x.mask 64 != byteMask false x.mask 64

/-- The bytes that a core holds of a sector for a read-modify-write: in M or E, or in S of a subscribed line; for a line that
is written at its home, those of the home once the bent has none. -/
def State.heldSector (s : State) (x : SectorStore) : Option (State × Nat) :=
  if s.writesThrough x.pa x.table then
    (if s.lineFree x.pa && s.homeRoute (bentOf s.cur) x.pa ≠ .wait then
       (let s1 := s.dropLine (bentOf s.cur) (x.pa / 256)
        some (s1, s1.memRead x.pa 64))
     else none)
  else
    let c := s.core.sector (x.pa / 64)
    let sub := (AMap.getD s.core.l1 (x.pa / 256) {}).sub
    if c.st = .m || c.st = .e || (sub && c.st = .s) then some (s, c.data.toNat) else none

/-- Asks for a sector that a read-modify-write needs: ownership, or a copy of a subscribed line. -/
def State.askSector (s : State) (x : SectorStore) : State :=
  if s.writesThrough x.pa x.table then s
  else if (AMap.getD s.core.l1 (x.pa / 256) {}).sub then (s.l1Load x.pa 1).1
  else
    match s.core.storeSector s.cycle (x.pa / 64) s.core.curSlot.val 0 0 with
    | some c => s.modCore fun _ => c
    | none => s

/-- Stores to one sector; none while it waits. -/
def State.putSector (s : State) (x : SectorStore) : Option State :=
  if x.partly then
    match s.heldSector x with
    | some p => p.1.storeMem x.addr x.pa x.table 64 (mergeBits p.2 x.value x.mask 64) (byteMask false x.mask 64)
    | none => none
  else s.storeMem x.addr x.pa x.table 64 x.value (byteMask true x.mask 64)

/-- Stores to sectors in turn, numbered from k, up to the first that waits: its number, or none when all are done. -/
def State.putSectors (s : State) (k : Nat) : List SectorStore → State × Option Nat
  | [] => (s, none)
  | x :: xs =>
    match s.putSector x with
    | some s1 => s1.putSectors (k + 1) xs
    | none => (if x.partly && (s.heldSector x).isNone then s.askSector x else s, some k)

/-- Whether a piece shares a byte with bits that it keeps. -/
def PieceStore.partly (p : PieceStore) : Bool := p.mask != fullMask (8 * p.at_.bytes)

/-- Whether a piece lies in a local store of the core. -/
def PieceStore.own (p : PieceStore) : Bool := match p.at_.target with
  | .own _ _ => true
  | _ => false

/-- Whether a piece that keeps bits of its bytes would read poison. -/
def State.spoiled (s : State) (p : PieceStore) : Bool :=
  p.partly && match p.at_.target with
    | .own code off => s.core.storePoisoned code off p.at_.bytes
    | .mem pa _ => s.poisonedIn (bentOf s.cur) pa p.at_.bytes
    | .away => false

/-- The bytes of a piece that earlier pieces wrote, as a byte mask. -/
def PieceStore.written (p : PieceStore) (before : List PieceStore) : Nat :=
  match p.at_.target with
  | .own code off => packLanes 1 ((List.range p.at_.bytes).map fun i => (before.any fun q => match q.at_.target with
      | .own c o => c == code && decide (o ≤ off + i) && decide (off + i < o + q.at_.bytes)
      | _ => false).toNat)
  | _ => 0

/-- What the port reads for pieces that keep bits of their bytes (05 R126), eight bytes for each. -/
def State.readKept (s : State) (l : List PieceStore) : Nat :=
  packLanes 64 (l.map fun p => match p.at_.target with
    | .own code off => s.storeRead s.cur code off p.at_.bytes
    | _ => 0)

/-- Stores to the pieces that lie in local stores or leave the core, in lane order, over the bits that were read before; none while a
trace waits. -/
def State.putPieces (s : State) (kept : Nat) (before : List PieceStore) : List PieceStore → Option State
  | [] => some s
  | p :: ps =>
    let n := p.at_.bytes
    let next : Option State := match p.at_.target with
      | .mem _ _ => some s
      | .own code off =>
        let old := mergeBytes (kept % 2 ^ 64) (s.storeRead s.cur code off n) (p.written before) n
        s.ownWrite p.at_.addr code off n (mergeBits old p.value p.mask n) (byteMask false p.mask n) 0
      | .away =>
        some (if p.partly then s.addRequest p.at_.addr 0 (.bits n p.value p.mask) .posted
          else s.addRequest p.at_.addr 0 (.store n p.value (fullMask n)) .posted)
    next.bind fun s1 => s1.putPieces (kept / 2 ^ 64) (before ++ [p]) ps

/-- The sectors of memory that pieces store to; in a page that a monitor watches every element stands for itself (18 R336). -/
def State.sectorsOf (s : State) (l : List PieceStore) : List SectorStore :=
  l.foldl (fun xs p => match p.at_.target with
    | .mem pa table => if s.watched (pa / 2 ^ 15) then xs ++ addSector pa table p [] else addSector pa table p xs
    | _ => xs) []

/-- Joins a piece to the one before it where both hold bytes of one element that lie side by side in a sector or a store. -/
def joinPiece (p : PieceStore) : List PieceStore → List PieceStore
  | [] => [p]
  | q :: r =>
    let side := match p.at_.target, q.at_.target with
      | .mem pa _, .mem pb _ => pb == pa + p.at_.bytes && pa / 64 == pb / 64
      | .own c o, .own d o' => c == d && o' == o + p.at_.bytes
      | .away, .away => q.at_.addr.toNat == p.at_.addr.toNat + p.at_.bytes && p.at_.addr.toNat / 2 ^ 27 == q.at_.addr.toNat / 2 ^ 27
      | _, _ => false
    if p.at_.lane = q.at_.lane && side then
      ⟨{ p.at_ with bytes := p.at_.bytes + q.at_.bytes }, p.value + q.value * 2 ^ (8 * p.at_.bytes), p.mask + q.mask * 2 ^ (8 * p.at_.bytes)⟩ :: r
    else p :: q :: r

/-- The pieces of a lane with the bits of its value: n bits of v from bit sh of its bytes up. -/
def splitPieces (v sh n : Nat) : List PieceAt → List PieceStore
  | [] => []
  | p :: ps =>
    ⟨p, v * 2 ^ sh % 2 ^ (8 * p.bytes), fullMask n * 2 ^ sh % 2 ^ (8 * p.bytes)⟩ ::
      splitPieces (v * 2 ^ sh / 2 ^ (8 * p.bytes)) 0 (n + sh - 8 * p.bytes) ps

/-- A vector store to local stores: 64 whole bytes of a remote store are one request, and bits that are kept in the own stores are read
in one access of the port and written in a later one (05 R126). -/
def State.storeOwn (s : State) (x : Vec) (w n : Nat) (ps : List PieceAt) (l : List PieceStore) (stall : Nat) : State :=
  if wholeRemote w n ps then
    (if s.core.roomFor 1 then (s.addRequest (ps.headD ⟨0, 0, 0, .away⟩).addr 0 (.store 64 x.toNat (fullMask 64)) .posted).retire stall else s.wait)
  else if !s.core.roomFor (l.countP fun p => p.at_.target = .away) then s.wait
  else if s.slot.half.isNone && l.any (fun p => p.partly && p.own) then s.betweenWords (s.readKept l)
  else
    match s.putPieces (s.slot.half.getD (s.readKept l)) [] l with
    | some s1 => s1.retire stall
    | none => s.wait

/-- A vector store to space 0, sector by sector: what one of them waits for, the rest waits for too, and those before it are done. -/
def State.storeSectors (s : State) (l : List PieceStore) (stall : Nat) : State :=
  let k := s.slot.half.getD 0
  if k = 0 && !l.isEmpty && !s.storesDone s.cur s.core.curSlot.val then s.wait
  else
    match s.putSectors k ((s.sectorsOf l).drop k) with
    | (s1, none) => s1.retire stall
    | (s1, some j) => (if j = 0 then s1 else s1.modSlot fun sl => { sl with half := some j }).wait

/-- A vector store of the low n bits of the enabled lanes of a register (05 R126).  A lane that would keep bits of poisoned bytes writes
nothing and leaves a posted error (04 R94). -/
def State.storeLanes (s : State) (x : Vec) (g : BitVec 2) (w n : Nat) (ga : Word) (pieces : Nat → List Piece) (shift : Nat → Nat) (stall : Nat) : State :=
  let lanes := s.lanesOn g w
  match s.checkPieces .store n ga (lanes.flatMap pieces) with
  | (s1, .trap c v t) => s1.trap c v t
  | (s1, .wait) => s1.wait
  | (s1, .ok ps) =>
    if ps.any (fun p => s1.copyStall p.addr p.bytes) then s1.wait
    else
      let all := lanes.flatMap fun i => (splitPieces (lane x w i % 2 ^ n) (shift i) n (ps.filter fun p => p.lane == i)).foldr joinPiece []
      let bad := if s1.slot.half.isSome then [] else all.filter s1.spoiled
      let s2 := bad.foldl (fun s p => s.postedError s.cur s.core.curSlot.val Cause.mce p.at_.addr) s1
      let l := all.filter fun p => !s1.spoiled p
      if spaceOf ga = 0 then s2.storeSectors l stall else s2.storeOwn x w n ps l stall

/-- VST (05 table 5.5). -/
def execVst (d a : BitVec 5) (g w : BitVec 2) (sc : BitVec 3) (s : State) : Host.Outcome State Fault Refusal :=
  vissue (.vst d a g w sc) g [d] [] [.g a] [] s fun s xs =>
    let n := widthOf w
    let ga := s.readG a
    s.storeLanes (xs.getD 0 0) g n n ga (fun i => [elementPiece ga (i * (n / 8) : Nat) (n / 8) i]) (fun _ => 0) (stallOf sc)

/-- VSTS (05 table 5.5). -/
def execVsts (d a b : BitVec 5) (g w : BitVec 2) (sc : BitVec 3) (s : State) : Host.Outcome State Fault Refusal :=
  vissue (.vsts d a b g w sc) g [d] [] [.g a, .g b] [] s fun s xs =>
    let n := widthOf w
    let ga := s.readG a
    let stride := (s.readG b).toInt
    s.storeLanes (xs.getD 0 0) g n n ga (fun i => [elementPiece ga ((i : Int) * stride) (n / 8) i]) (fun _ => 0) (stallOf sc)

/-- VSCATTER (05 table 5.5). -/
def execVscatter (d a b : BitVec 5) (g w : BitVec 2) (sc : BitVec 3) (s : State) : Host.Outcome State Fault Refusal :=
  vissue (.vscatter d a b g w sc) g [b, d] [] [.g a] [] s fun s xs =>
    let n := widthOf w
    let ga := s.readG a
    s.storeLanes (xs.getD 1 0) g n n ga (fun i => [elementPiece ga (toSigned n (lane (xs.getD 0 0) n i) * (n / 8 : Nat)) (n / 8) i])
      (fun _ => 0) (stallOf sc)

/-- VSTB (05 table 5.5): the low n bits of each enabled lane; the field holds n less 1. -/
def execVstb (d a n : BitVec 5) (g w : BitVec 2) (sc : BitVec 3) (s : State) : Host.Outcome State Fault Refusal :=
  vissue (.vstb d a n g w sc) g [d] [] [.g a] [] s fun s xs =>
    let k := n.toNat + 1
    let ga := s.readG a
    s.storeLanes (xs.getD 0 0) g (widthOf w) k ga (streamPieces ga k) (fun i => k * i % 8) (stallOf sc)

end Sys2Proof.Machine
end

