-- ==== Sys2Proof/Machine/VectorPermute.lean ====
section
/-!
DEFINITION. Permutes, reductions and scans (05 R128, R129; 03 R80, R81).
-/
namespace Sys2Proof.Machine

open Sys2Proof

/-- The general register that a vector operand field names. -/
def gLane (x : Word) (w : Nat) : Nat := x.toNat % 2 ^ w

/-- VBCAST (05 table 5.6). -/
def execVbcast (d a : BitVec 5) (g w : BitVec 2) (sc : BitVec 3) (s : State) : Host.Outcome State Fault Refusal :=
  vissue (.vbcast d a g w sc) g [] [d] [.g a] [] s fun s _ =>
    let n := widthOf w
    (s.giveV d (vecOf n fun _ => gLane (s.readG a) n) (s.laneMask g n) 2).retire (stallOf sc)

/-- VMOVG (05 table 5.6): the lane that lane 0 of vb selects, sign-extended; gm is ignored and the taint cleared. -/
def execVmovg (d a b : BitVec 5) (g w : BitVec 2) (sc : BitVec 3) (s : State) : Host.Outcome State Fault Refusal :=
  vissue (.vmovg d a b g w sc) 0 [a, b] [] [] [.g d] s fun s xs =>
    let n := widthOf w
    let k := (xs.getD 1 0).toNat % 64 % (512 / n)
    (s.putG d (BitVec.ofInt 64 (toSigned n (lane (xs.getD 0 0) n k))) 2).retire (stallOf sc)

/-- VINS (05 table 5.6). -/
def execVins (d a b : BitVec 5) (g w : BitVec 2) (sc : BitVec 3) (s : State) : Host.Outcome State Fault Refusal :=
  vissue (.vins d a b g w sc) g [b] [d] [.g a] [] s fun s xs =>
    let n := widthOf w
    let k := (xs.getD 0 0).toNat % 64 % (512 / n)
    (s.giveV d (vecOf n fun _ => gLane (s.readG a) n) (laneBits n fun i => i == k && s.enabled g i) 2).retire (stallOf sc)

/-- VPERM (05 table 5.6). -/
def execVperm (d a b : BitVec 5) (g w : BitVec 2) (sc : BitVec 3) (s : State) : Host.Outcome State Fault Refusal :=
  vissue (.vperm d a b g w sc) g [a, b] [d] [] [] s fun s xs =>
    let n := widthOf w
    (s.giveV d (vecOf n fun i => lane (xs.getD 0 0) n (lane (xs.getD 1 0) n i % (512 / n))) (s.laneMask g n) 3).retire (stallOf sc)

/-- VSHUF (05 table 5.6): interleaves the low halves. -/
def execVshuf (d a b : BitVec 5) (g w : BitVec 2) (sc : BitVec 3) (s : State) : Host.Outcome State Fault Refusal :=
  vissue (.vshuf d a b g w sc) g [a, b] [d] [] [] s fun s xs =>
    let n := widthOf w
    (s.giveV d (vecOf n fun i => lane (xs.getD (i % 2) 0) n (i / 2)) (s.laneMask g n) 3).retire (stallOf sc)

/-- VCOMPRESS (05 table 5.6): every lane of the destination is written. -/
def execVcompress (d a : BitVec 5) (g w : BitVec 2) (sc : BitVec 3) (s : State) : Host.Outcome State Fault Refusal :=
  vissue (.vcompress d a g w sc) g [a] [d] [] [] s fun s xs =>
    let n := widthOf w
    let kept := ((List.range (512 / n)).filter (s.enabled g)).map (lane (xs.getD 0 0) n)
    (s.giveV d (BitVec.ofNat 512 (packLanes n kept)) allBits 3).retire (stallOf sc)

/-! ### Reductions and scans -/

/-- The floating format of a reduction code at an ew code, if it is a floating one (05 R129). -/
def reductionFmt (o : BitVec 5) (w : BitVec 2) : Option Fmt :=
  if o.toNat < 8 then none else if o.toNat < 11 then some (if w = 1 then .fp16 else if w = 2 then .fp32 else .fp64) else some .bf16

/-- The operation of a reduction code on two present values (05 table 5.7; 03 R80). -/
def combineLane (o : BitVec 5) (w : BitVec 2) (a b : Nat) : Nat :=
  match reductionFmt o w with
  | some f =>
    let k := (o.toNat - 8) % 3
    if k = 0 then addLane f a b else minmaxF f (k = 2) a b
  | none =>
    let op : IntOp := match o.toNat with
      | 0 => .add
      | 1 => .min
      | 2 => .max
      | 3 => .minz
      | 4 => .maxz
      | 5 => .and
      | 6 => .or
      | _ => .xor
    intLane op (widthOf w) a b

/-- The identity of a reduction code (03 R80, 05 R129), which VRED gives where no lane is enabled.  The manual names those of addition, minimum, maximum
and MINZ; all ones for AND and zero for OR and XOR are the model's choice (assumption log 136). -/
def reductionIdentity (o : BitVec 5) (w : BitVec 2) : Nat :=
  let n := widthOf w
  match reductionFmt o w with
  | some f =>
    let k := (o.toNat - 8) % 3
    if k = 0 then 0 else f.infinity (k = 2)
  | none =>
    match o.toNat with
    | 1 => 2 ^ (n - 1) - 1
    | 2 => 2 ^ (n - 1)
    | 3 => 2 ^ n - 1
    | 5 => 2 ^ n - 1
    | _ => 0

/-- Combine with absent values (03 R80). -/
def combineOpt (f : Nat → Nat → Nat) : Option Nat → Option Nat → Option Nat
  | some a, some b => some (f a b)
  | some a, none => some a
  | none, some b => some b
  | none, none => none

/-- One level of the pairwise tree. -/
def treeLevel (f : Nat → Nat → Nat) : List (Option Nat) → List (Option Nat)
  | x :: y :: r => combineOpt f x y :: treeLevel f r
  | l => l

/-- The tree over a list of 2^k values. -/
def treeReduce (f : Nat → Nat → Nat) : Nat → List (Option Nat) → Option Nat
  | 0, l => l.headD none
  | k + 1, l => treeReduce f k (treeLevel f l)

/-- One step of the scan at distance d. -/
def scanStep (f : Nat → Nat → Nat) (d : Nat) (l : List (Option Nat)) : List (Option Nat) :=
  (List.range l.length).map fun i => if i < d then l.getD i none else combineOpt f (l.getD (i - d) none) (l.getD i none)

/-- The scan in k steps from distance d on. -/
def scanFrom (f : Nat → Nat → Nat) : Nat → Nat → List (Option Nat) → List (Option Nat)
  | 0, _, l => l
  | k + 1, d, l => scanFrom f k (2 * d) (scanStep f d l)

/-- The lanes of a register, absent where disabled. -/
def State.presentLanes (s : State) (g : BitVec 2) (w : Nat) (x : Vec) : List (Option Nat) :=
  (List.range (512 / w)).map fun i => if s.enabled g i then some (lane x w i) else none

/-- VRED (05 R128, R129; 03 R80). -/
def execVred (d a o : BitVec 5) (g w : BitVec 2) (sc : BitVec 3) (s : State) : Host.Outcome State Fault Refusal :=
  vissue (.vred d a o g w sc) g [a] [d] [] [] s fun s xs =>
    let n := widthOf w
    let r := (treeReduce (combineLane o w) (Nat.log2 (512 / n)) (s.presentLanes g n (xs.getD 0 0))).getD (reductionIdentity o w)
    (s.giveV d (BitVec.ofNat 512 r) (laneBits n fun i => i == 0) 8).retire (stallOf sc)

/-- VSCAN (05 R128, R129; 03 R81). -/
def execVscan (d a o : BitVec 5) (g w : BitVec 2) (sc : BitVec 3) (s : State) : Host.Outcome State Fault Refusal :=
  vissue (.vscan d a o g w sc) g [a] [d] [] [] s fun s xs =>
    let n := widthOf w
    let r := scanFrom (combineLane o w) (Nat.log2 (512 / n)) 1 (s.presentLanes g n (xs.getD 0 0))
    (s.giveV d (vecOf n fun i => (r.getD i none).getD 0) (s.laneMask g n) 8).retire (stallOf sc)

end Sys2Proof.Machine
end

