-- ==== Sys2Proof/Machine/VectorRay.lean ====
section
/-!
DEFINITION. Ray tests (05 R130 to R132).

Readings of the manual and choices that this file codes: assumption log 24.
-/
namespace Sys2Proof.Machine

open Sys2Proof

/-- FP32 infinity, the distance of a miss. -/
def rayMiss : Nat := 0x7F800000

/-- The eight registers of a ray block and the register of the box or triangle, as sources. -/
def raySources (a b : BitVec 5) : List (BitVec 5) := (List.range 8).map (fun k => a + BitVec.ofNat 5 k) ++ [b]

/-- The value of input k of ray i: ox, oy, oz, dx, dy, dz, tmin, tmax. -/
def rayInput (xs : List Vec) (i k : Nat) : FVal := decodeF .fp32 (lane (xs.getD k 0) 32 i)

/-- Value k of the box or triangle. -/
def rayShape (xs : List Vec) (k : Nat) : FVal := decodeF .fp32 (lane (xs.getD 8 0) 32 k)

/-- Whether x is at most y. -/
def leF (x y : FVal) : Bool := ltF x y || eqF x y

/-- The near and far distances of one axis (05 R131), as FP32 encodings.  A numerator or a quotient that has no value although no input is a NaN (inf - inf,
inf / inf) makes the ray miss as a NaN does: the model's choice (assumption log 24). -/
def slab (lo hi o d : FVal) : Nat × Nat :=
  let p := addF .rne lo (negF o)
  let q := addF .rne hi (negF o)
  if p.isNan || q.isNan then (Fmt.fp32.nan, Fmt.fp32.nan)
  else if d.isZero then
    if p.isZero || q.isZero then (Fmt.fp32.infinity true, Fmt.fp32.infinity false)
    else
      let far := (p.neg == d.neg) || (q.neg == d.neg)
      let near := (p.neg != d.neg) || (q.neg != d.neg)
      (Fmt.fp32.infinity near, Fmt.fp32.infinity (!far))
  else
    let pFirst := leF p q
    let low := if pFirst then p else q
    let high := if pFirst then q else p
    let near := if d.neg then high else low
    let far := if d.neg then low else high
    (divF .fp32 .rdn near d, divF .fp32 .rup far d)

/-- The result of VRBOX for one enabled ray (05 R131). -/
def boxTest (xs : List Vec) (i : Nat) : Nat :=
  let inp := rayInput xs i
  let bad := (List.range 8).any (fun k => (inp k).isNan) || (List.range 6).any (fun k => (rayShape xs k).isNan)
  if bad || !leF (inp 6) (inp 7) then rayMiss
  else
    let ds := (List.range 3).map fun x => slab (rayShape xs x) (rayShape xs (3 + x)) (inp x) (inp (3 + x))
    let te := ds.foldl (fun t d => minmaxF .fp32 true t d.1) (lane (xs.getD 6 0) 32 i)
    let tx := ds.foldl (fun t d => minmaxF .fp32 false t d.2) (lane (xs.getD 7 0) 32 i)
    if leF (decodeF .fp32 te) (decodeF .fp32 tx) then te else rayMiss

/-- VRBOX (05 R131). -/
def execVrbox (d a b : BitVec 5) (g : BitVec 2) (sc : BitVec 3) (s : State) : Host.Outcome State Fault Refusal :=
  vissue (.vrbox d a b g sc) g (raySources a b) [d] [] [] s fun s xs =>
    (s.giveV d (vecOf 32 (boxTest xs)) (s.laneMask g 32) 6).retire (stallOf sc)

/-- One RNE rounding to FP32. -/
def r32 (x : FVal) : FVal := decodeF .fp32 (roundF .fp32 .rne x)

/-- The rounded quotient. -/
def q32 (x y : FVal) : FVal := decodeF .fp32 (divF .fp32 .rne x y)

/-- The exact difference. -/
def subF (x y : FVal) : FVal := addF .rne x (negF y)

/-- The magnitude of a value. -/
def absF : FVal → FVal
  | .fin _ m e => .fin false m e
  | .inf _ => .inf false
  | .nan => .nan

/-- Whether a finite value is at least zero, or at most zero. -/
def signOk (neg : Bool) (x : FVal) : Bool := x.isZero || x.neg == neg

/-- The results t, u and v of a hit of VRTRI for one enabled ray, or none for a miss (05 R132).  An exact zero among them has the sign that IEEE 754 gives
its products and sums: the model's choice (assumption log 24). -/
def triTest (xs : List Vec) (i : Nat) : Option (Nat × Nat × Nat) :=
  let inp := rayInput xs i
  let o (k : Nat) := inp k
  let d (k : Nat) := inp (3 + k)
  let bad := (List.range 6).any (fun k => (inp k).special) || (List.range 9).any (fun k => (rayShape xs k).special) ||
    (inp 6).isNan || (inp 7).isNan || !leF (inp 6) (inp 7)
  if bad then none
  else
    let k1 := if ltF (absF (d 0)) (absF (d 1)) then 1 else 0
    let kz := if ltF (absF (d k1)) (absF (d 2)) then 2 else k1
    let swap := (d kz).neg && !(d kz).isZero
    let kx := if swap then (kz + 2) % 3 else (kz + 1) % 3
    let ky := if swap then (kz + 1) % 3 else (kz + 2) % 3
    let sx := q32 (d kx) (d kz)
    let sy := q32 (d ky) (d kz)
    let sz := q32 (.fin false 1 0) (d kz)
    let q (p k : Nat) : FVal := r32 (subF (rayShape xs (3 * p + k)) (o k))
    let px (p : Nat) : FVal := r32 (subF (q p kx) (mulF sx (q p kz)))
    let py (p : Nat) : FVal := r32 (subF (q p ky) (mulF sy (q p kz)))
    let pz (p : Nat) : FVal := r32 (mulF sz (q p kz))
    let steps := [sx, sy, sz] ++ (List.range 3).flatMap fun p => [q p 0, q p 1, q p 2, px p, py p, pz p]
    if steps.any FVal.special then none
    else
      let u := subF (mulF (px 2) (py 1)) (mulF (py 2) (px 1))
      let v := subF (mulF (px 0) (py 2)) (mulF (py 0) (px 2))
      let w := subF (mulF (px 1) (py 0)) (mulF (py 1) (px 0))
      let det := addF .rne (addF .rne u v) w
      let t := addF .rne (addF .rne (mulF u (pz 0)) (mulF v (pz 1))) (mulF w (pz 2))
      let same := [u, v, w].all (signOk false) || [u, v, w].all (signOk true)
      if det.isZero || !same then none
      else
        let tr := divF .fp32 .rne t det
        let tv := decodeF .fp32 tr
        if tv.special || !leF (inp 6) tv || !leF tv (inp 7) then none
        else some (tr, divF .fp32 .rne v det, divF .fp32 .rne w det)

/-- VRTRI (05 R132). -/
def execVrtri (d a b : BitVec 5) (g : BitVec 2) (sc : BitVec 3) (s : State) : Host.Outcome State Fault Refusal :=
  vissue (.vrtri d a b g sc) g (raySources a b) [d, d + 1, d + 2, d + 3] [] [] s fun s xs =>
    let m := s.laneMask g 32
    let hit (i : Nat) : Bool := s.enabled g i && (triTest xs i).isSome
    let mask := packLanes 1 ((List.range 16).map fun i => (hit i).toNat)
    let out (pick : Nat × Nat × Nat → Nat) (miss : Nat) : Vec := vecOf 32 fun i => ((triTest xs i).map pick).getD miss
    ((((s.giveV d (out (·.1) rayMiss) m 10).giveV (d + 1) (out (·.2.1) 0) m 10).giveV (d + 2) (out (·.2.2) 0) m 10).giveV (d + 3)
      (vecOf 32 fun _ => mask) m 10).retire (stallOf sc)

end Sys2Proof.Machine
end

