-- ==== Sys2Proof/Machine/Dispatch.lean ====
section
/-!
DEFINITION. The one match from an instruction to its meaning.
-/
namespace Sys2Proof.Machine

open Sys2Proof

/-- Executes an instruction or an event. -/
def exec (i : Instr) (s : State) : Host.Outcome State Fault Refusal :=
  match i with
  | .add d a b sc => Sys2Proof.Machine.execAdd d a b sc s
  | .sub d a b sc => Sys2Proof.Machine.execSub d a b sc s
  | .and d a b sc => Sys2Proof.Machine.execAnd d a b sc s
  | .or d a b sc => Sys2Proof.Machine.execOr d a b sc s
  | .xor d a b sc => Sys2Proof.Machine.execXor d a b sc s
  | .andn d a b sc => Sys2Proof.Machine.execAndn d a b sc s
  | .sll d a b sc => Sys2Proof.Machine.execSll d a b sc s
  | .srl d a b sc => Sys2Proof.Machine.execSrl d a b sc s
  | .sra d a b sc => Sys2Proof.Machine.execSra d a b sc s
  | .min d a b sc => Sys2Proof.Machine.execMin d a b sc s
  | .max d a b sc => Sys2Proof.Machine.execMax d a b sc s
  | .minz d a b sc => Sys2Proof.Machine.execMinz d a b sc s
  | .maxz d a b sc => Sys2Proof.Machine.execMaxz d a b sc s
  | .slt d a b sc => Sys2Proof.Machine.execSlt d a b sc s
  | .sltz d a b sc => Sys2Proof.Machine.execSltz d a b sc s
  | .seq d a b sc => Sys2Proof.Machine.execSeq d a b sc s
  | .clz d a sc => Sys2Proof.Machine.execClz d a sc s
  | .ctz d a sc => Sys2Proof.Machine.execCtz d a sc s
  | .popc d a sc => Sys2Proof.Machine.execPopc d a sc s
  | .padd d a b sc => Sys2Proof.Machine.execPadd d a b sc s
  | .psub d a b sc => Sys2Proof.Machine.execPsub d a b sc s
  | .pdesc d a sc => Sys2Proof.Machine.execPdesc d a sc s
  | .pset d a b sc => Sys2Proof.Machine.execPset d a b sc s
  | .cselEqz d a b c sc => Sys2Proof.Machine.execCselEqz d a b c sc s
  | .cselNez d a b c sc => Sys2Proof.Machine.execCselNez d a b c sc s
  | .cselLtz d a b c sc => Sys2Proof.Machine.execCselLtz d a b c sc s
  | .cselGez d a b c sc => Sys2Proof.Machine.execCselGez d a b c sc s
  | .cselGtz d a b c sc => Sys2Proof.Machine.execCselGtz d a b c sc s
  | .cselLez d a b c sc => Sys2Proof.Machine.execCselLez d a b c sc s
  | .mul d a b sc => Sys2Proof.Machine.execMul d a b sc s
  | .mulh d a b sc => Sys2Proof.Machine.execMulh d a b sc s
  | .mulhz d a b sc => Sys2Proof.Machine.execMulhz d a b sc s
  | .div d a b sc => Sys2Proof.Machine.execDiv d a b sc s
  | .divz d a b sc => Sys2Proof.Machine.execDivz d a b sc s
  | .rem d a b sc => Sys2Proof.Machine.execRem d a b sc s
  | .remz d a b sc => Sys2Proof.Machine.execRemz d a b sc s
  | .addi d a imm => Sys2Proof.Machine.execAddi d a imm s
  | .andi d a imm => Sys2Proof.Machine.execAndi d a imm s
  | .ori d a imm => Sys2Proof.Machine.execOri d a imm s
  | .xori d a imm => Sys2Proof.Machine.execXori d a imm s
  | .slti d a imm => Sys2Proof.Machine.execSlti d a imm s
  | .sltiz d a imm => Sys2Proof.Machine.execSltiz d a imm s
  | .slli d a n => Sys2Proof.Machine.execSlli d a n s
  | .srli d a n => Sys2Proof.Machine.execSrli d a n s
  | .srai d a n => Sys2Proof.Machine.execSrai d a n s
  | .paddi d a imm => Sys2Proof.Machine.execPaddi d a imm s
  | .luk d imm => Sys2Proof.Machine.execLuk d imm s
  | .addpc d imm => Sys2Proof.Machine.execAddpc d imm s
  | .ldB t a o => Sys2Proof.Machine.execLdB t a o s
  | .ldH t a o => Sys2Proof.Machine.execLdH t a o s
  | .ldW t a o => Sys2Proof.Machine.execLdW t a o s
  | .ldD t a o => Sys2Proof.Machine.execLdD t a o s
  | .ldzB t a o => Sys2Proof.Machine.execLdzB t a o s
  | .ldzH t a o => Sys2Proof.Machine.execLdzH t a o s
  | .ldzW t a o => Sys2Proof.Machine.execLdzW t a o s
  | .stB t a o => Sys2Proof.Machine.execStB t a o s
  | .stH t a o => Sys2Proof.Machine.execStH t a o s
  | .stW t a o => Sys2Proof.Machine.execStW t a o s
  | .stD t a o => Sys2Proof.Machine.execStD t a o s
  | .ldcW t a o => Sys2Proof.Machine.execLdcW t a o s
  | .ldcD t a o => Sys2Proof.Machine.execLdcD t a o s
  | .ldbit d a b n sc => Sys2Proof.Machine.execLdbit d a b n sc s
  | .ldbitS d a b n sc => Sys2Proof.Machine.execLdbitS d a b n sc s
  | .stbit d a b n sc => Sys2Proof.Machine.execStbit d a b n sc s
  | .amoAdd d a b z c o => Sys2Proof.Machine.execAmoAdd d a b z c o s
  | .amoAnd d a b z c o => Sys2Proof.Machine.execAmoAnd d a b z c o s
  | .amoOr d a b z c o => Sys2Proof.Machine.execAmoOr d a b z c o s
  | .amoXor d a b z c o => Sys2Proof.Machine.execAmoXor d a b z c o s
  | .amoMin d a b z c o => Sys2Proof.Machine.execAmoMin d a b z c o s
  | .amoMax d a b z c o => Sys2Proof.Machine.execAmoMax d a b z c o s
  | .amoMinz d a b z c o => Sys2Proof.Machine.execAmoMinz d a b z c o s
  | .amoMaxz d a b z c o => Sys2Proof.Machine.execAmoMaxz d a b z c o s
  | .amoSwap d a b z c o => Sys2Proof.Machine.execAmoSwap d a b z c o s
  | .amoCas d a b z c o => Sys2Proof.Machine.execAmoCas d a b z c o s
  | .amoFaddF32 d a b c o => Sys2Proof.Machine.execAmoFaddF32 d a b c o s
  | .amoFaddBf16 d a b c o => Sys2Proof.Machine.execAmoFaddBf16 d a b c o s
  | .updAdd a b z c => Sys2Proof.Machine.execUpdAdd a b z c s
  | .updFadd a b z c => Sys2Proof.Machine.execUpdFadd a b z c s
  | .updMin a b z c => Sys2Proof.Machine.execUpdMin a b z c s
  | .updMax a b z c => Sys2Proof.Machine.execUpdMax a b z c s
  | .updOr a b z c => Sys2Proof.Machine.execUpdOr a b z c s
  | .updAnd a b z c => Sys2Proof.Machine.execUpdAnd a b z c s
  | .beq a b imm => Sys2Proof.Machine.execBeq a b imm s
  | .bne a b imm => Sys2Proof.Machine.execBne a b imm s
  | .blt a b imm => Sys2Proof.Machine.execBlt a b imm s
  | .bge a b imm => Sys2Proof.Machine.execBge a b imm s
  | .bltz a b imm => Sys2Proof.Machine.execBltz a b imm s
  | .bgez a b imm => Sys2Proof.Machine.execBgez a b imm s
  | .jal d imm => Sys2Proof.Machine.execJal d imm s
  | .jalr d a imm => Sys2Proof.Machine.execJalr d a imm s
  | .skipEqz a n => Sys2Proof.Machine.execSkipEqz a n s
  | .skipNez a n => Sys2Proof.Machine.execSkipNez a n s
  | .skipLtz a n => Sys2Proof.Machine.execSkipLtz a n s
  | .skipGez a n => Sys2Proof.Machine.execSkipGez a n s
  | .skipGtz a n => Sys2Proof.Machine.execSkipGtz a n s
  | .skipLez a n => Sys2Proof.Machine.execSkipLez a n s
  | .fenceAcq d c => Sys2Proof.Machine.execFenceAcq d c s
  | .fenceRel d c => Sys2Proof.Machine.execFenceRel d c s
  | .fenceFull d c => Sys2Proof.Machine.execFenceFull d c s
  | .qfence q => Sys2Proof.Machine.execQfence q s
  | .cclean a c => Sys2Proof.Machine.execCclean a c s
  | .cinv a c => Sys2Proof.Machine.execCinv a c s
  | .cflush a c => Sys2Proof.Machine.execCflush a c s
  | .nop => Sys2Proof.Machine.execNop s
  | .trap imm => Sys2Proof.Machine.execTrap imm s
  | .tret => Sys2Proof.Machine.execTret s
  | .wfe => Sys2Proof.Machine.execWfe s
  | .break => Sys2Proof.Machine.execBreak s
  | .halt => Sys2Proof.Machine.execHalt s
  | .csrr h d l => Sys2Proof.Machine.execCsrr h d l s
  | .csrw h a d l => Sys2Proof.Machine.execCsrw h a d l s
  | .csrs h a d l => Sys2Proof.Machine.execCsrs h a d l s
  | .csrc h a d l => Sys2Proof.Machine.execCsrc h a d l s
  | .spawn d a b sc => Sys2Proof.Machine.execSpawn d a b sc s
  | .rets d sc => Sys2Proof.Machine.execRets d sc s
  | .sync a sc => Sys2Proof.Machine.execSync a sc s
  | .publish a b n sc => Sys2Proof.Machine.execPublish a b n sc s
  | .tend sc => Sys2Proof.Machine.execTend sc s
  | .tself d sc => Sys2Proof.Machine.execTself d sc s
  | .launch d a sc => Sys2Proof.Machine.execLaunch d a sc s
  | .qbind q a sc => Sys2Proof.Machine.execQbind q a sc s
  | .qpush q a sc => Sys2Proof.Machine.execQpush q a sc s
  | .qpop d q sc => Sys2Proof.Machine.execQpop d q sc s
  | .enq d a b sc => Sys2Proof.Machine.execEnq d a b sc s
  | .spawnb d a b sc => Sys2Proof.Machine.execSpawnb d a b sc s
  | .binflush a sc => Sys2Proof.Machine.execBinflush a sc s
  | .taskq d a b sc => Sys2Proof.Machine.execTaskq d a b sc s
  | .sqinc d a b sc => Sys2Proof.Machine.execSqinc d a b sc s
  | .sqread d a sc => Sys2Proof.Machine.execSqread d a sc s
  | .donate d a b sc => Sys2Proof.Machine.execDonate d a b sc s
  | .binit d a b sc => Sys2Proof.Machine.execBinit d a b sc s
  | .barrive a sc => Sys2Proof.Machine.execBarrive a sc s
  | .bexpect a b sc => Sys2Proof.Machine.execBexpect a b sc s
  | .bwait d a sc => Sys2Proof.Machine.execBwait d a sc s
  | .btest d a sc => Sys2Proof.Machine.execBtest d a sc s
  | .bfree a sc => Sys2Proof.Machine.execBfree a sc s
  | .sendi a b sc => Sys2Proof.Machine.execSendi a b sc s
  | .sendb d a b sc => Sys2Proof.Machine.execSendb d a b sc s
  | .rpost d a b sc => Sys2Proof.Machine.execRpost d a b sc s
  | .rcancel d a sc => Sys2Proof.Machine.execRcancel d a sc s
  | .qwake a b sc => Sys2Proof.Machine.execQwake a b sc s
  | .msgdone sc => Sys2Proof.Machine.execMsgdone sc s
  | .monset d a b sc => Sys2Proof.Machine.execMonset d a b sc s
  | .monarm a b sc => Sys2Proof.Machine.execMonarm a b sc s
  | .monref a b sc => Sys2Proof.Machine.execMonref a b sc s
  | .monread d a b sc => Sys2Proof.Machine.execMonread d a b sc s
  | .monclr a sc => Sys2Proof.Machine.execMonclr a sc s
  | .subs d a b sc => Sys2Proof.Machine.execSubs d a b sc s
  | .unsubs a sc => Sys2Proof.Machine.execUnsubs a sc s
  | .mset a m => Sys2Proof.Machine.execMset a m s
  | .mget m d => Sys2Proof.Machine.execMget m d s
  | .mma a b => Sys2Proof.Machine.execMma a b s
  | .mmaco a b => Sys2Proof.Machine.execMmaco a b s
  | .mwait d => Sys2Proof.Machine.execMwait d s
  | .mwaitT d => Sys2Proof.Machine.execMwaitT d s
  | .msave a => Sys2Proof.Machine.execMsave a s
  | .mload a => Sys2Proof.Machine.execMload a s
  | .mzero => Sys2Proof.Machine.execMzero s
  | .cput q a x => Sys2Proof.Machine.execCput q a x s
  | .cget q x d => Sys2Proof.Machine.execCget q x d s
  | .claunch q d => Sys2Proof.Machine.execClaunch q d s
  | .cwait a d => Sys2Proof.Machine.execCwait a d s
  | .cstatus a d => Sys2Proof.Machine.execCstatus a d s
  | .cabort a d => Sys2Proof.Machine.execCabort a d s
  | .shapeMk r a b sc => Sys2Proof.Machine.execShapeMk r a b sc s
  | .shapeGet d r n sc => Sys2Proof.Machine.execShapeGet d r n sc s
  | .vadd d a b g w sc => Sys2Proof.Machine.execVadd d a b g w sc s
  | .vsub d a b g w sc => Sys2Proof.Machine.execVsub d a b g w sc s
  | .vmul d a b g w sc => Sys2Proof.Machine.execVmul d a b g w sc s
  | .vmulh d a b g w sc => Sys2Proof.Machine.execVmulh d a b g w sc s
  | .vmin d a b g w sc => Sys2Proof.Machine.execVmin d a b g w sc s
  | .vmax d a b g w sc => Sys2Proof.Machine.execVmax d a b g w sc s
  | .vand d a b g w sc => Sys2Proof.Machine.execVand d a b g w sc s
  | .vor d a b g w sc => Sys2Proof.Machine.execVor d a b g w sc s
  | .vxor d a b g w sc => Sys2Proof.Machine.execVxor d a b g w sc s
  | .vsll d a b g w sc => Sys2Proof.Machine.execVsll d a b g w sc s
  | .vsrl d a b g w sc => Sys2Proof.Machine.execVsrl d a b g w sc s
  | .vsra d a b g w sc => Sys2Proof.Machine.execVsra d a b g w sc s
  | .vfadd d a b g w sc => Sys2Proof.Machine.execVfadd d a b g w sc s
  | .vfsub d a b g w sc => Sys2Proof.Machine.execVfsub d a b g w sc s
  | .vfmul d a b g w sc => Sys2Proof.Machine.execVfmul d a b g w sc s
  | .vfmin d a b g w sc => Sys2Proof.Machine.execVfmin d a b g w sc s
  | .vfmax d a b g w sc => Sys2Proof.Machine.execVfmax d a b g w sc s
  | .vfdiv d a b g w sc => Sys2Proof.Machine.execVfdiv d a b g w sc s
  | .vfsqrt d a g w sc => Sys2Proof.Machine.execVfsqrt d a g w sc s
  | .vfrcp d a g w sc => Sys2Proof.Machine.execVfrcp d a g w sc s
  | .vfrsq d a g w sc => Sys2Proof.Machine.execVfrsq d a g w sc s
  | .vfexp2 d a g w sc => Sys2Proof.Machine.execVfexp2 d a g w sc s
  | .vflog2 d a g w sc => Sys2Proof.Machine.execVflog2 d a g w sc s
  | .vfma d a b g w sc => Sys2Proof.Machine.execVfma d a b g w sc s
  | .vfms d a b g w sc => Sys2Proof.Machine.execVfms d a b g w sc s
  | .vfnma d a b g w sc => Sys2Proof.Machine.execVfnma d a b g w sc s
  | .vcvt d a p g e r sc => Sys2Proof.Machine.execVcvt d a p g e r sc s
  | .vqmx d a p e sc => Sys2Proof.Machine.execVqmx d a p e sc s
  | .vdqmx d a p e sc => Sys2Proof.Machine.execVdqmx d a p e sc s
  | .vxdec d a sc => Sys2Proof.Machine.execVxdec d a sc s
  | .vld d a g w sc => Sys2Proof.Machine.execVld d a g w sc s
  | .vst d a g w sc => Sys2Proof.Machine.execVst d a g w sc s
  | .vlds d a b g w sc => Sys2Proof.Machine.execVlds d a b g w sc s
  | .vsts d a b g w sc => Sys2Proof.Machine.execVsts d a b g w sc s
  | .vgather d a b g w sc => Sys2Proof.Machine.execVgather d a b g w sc s
  | .vscatter d a b g w sc => Sys2Proof.Machine.execVscatter d a b g w sc s
  | .vldb d a n g w sc => Sys2Proof.Machine.execVldb d a n g w sc s
  | .vstb d a n g w sc => Sys2Proof.Machine.execVstb d a n g w sc s
  | .vbcast d a g w sc => Sys2Proof.Machine.execVbcast d a g w sc s
  | .vmovg d a b g w sc => Sys2Proof.Machine.execVmovg d a b g w sc s
  | .vins d a b g w sc => Sys2Proof.Machine.execVins d a b g w sc s
  | .vperm d a b g w sc => Sys2Proof.Machine.execVperm d a b g w sc s
  | .vshuf d a b g w sc => Sys2Proof.Machine.execVshuf d a b g w sc s
  | .vred d a o g w sc => Sys2Proof.Machine.execVred d a o g w sc s
  | .vscan d a o g w sc => Sys2Proof.Machine.execVscan d a o g w sc s
  | .vcompress d a g w sc => Sys2Proof.Machine.execVcompress d a g w sc s
  | .vrbox d a b g sc => Sys2Proof.Machine.execVrbox d a b g sc s
  | .vrtri d a b g sc => Sys2Proof.Machine.execVrtri d a b g sc s
  | .vcmpEq d a b g w sc => Sys2Proof.Machine.execVcmpEq d a b g w sc s
  | .vcmpNe d a b g w sc => Sys2Proof.Machine.execVcmpNe d a b g w sc s
  | .vcmpLt d a b g w sc => Sys2Proof.Machine.execVcmpLt d a b g w sc s
  | .vcmpLe d a b g w sc => Sys2Proof.Machine.execVcmpLe d a b g w sc s
  | .vcmpLtz d a b g w sc => Sys2Proof.Machine.execVcmpLtz d a b g w sc s
  | .vcmpLez d a b g w sc => Sys2Proof.Machine.execVcmpLez d a b g w sc s
  | .vcmpFeq d a b g w sc => Sys2Proof.Machine.execVcmpFeq d a b g w sc s
  | .vcmpFlt d a b g w sc => Sys2Proof.Machine.execVcmpFlt d a b g w sc s
  | .vcmpFle d a b g w sc => Sys2Proof.Machine.execVcmpFle d a b g w sc s
  | .vcmpFun d a b g w sc => Sys2Proof.Machine.execVcmpFun d a b g w sc s
  | .fadd d a b z r sc => Sys2Proof.Machine.execFadd d a b z r sc s
  | .fsub d a b z r sc => Sys2Proof.Machine.execFsub d a b z r sc s
  | .fmul d a b z r sc => Sys2Proof.Machine.execFmul d a b z r sc s
  | .fma d a b z r sc => Sys2Proof.Machine.execFma d a b z r sc s
  | .fdiv d a b z r sc => Sys2Proof.Machine.execFdiv d a b z r sc s
  | .fsqrt d a z r sc => Sys2Proof.Machine.execFsqrt d a z r sc s
  | .fmin d a b z sc => Sys2Proof.Machine.execFmin d a b z sc s
  | .fmax d a b z sc => Sys2Proof.Machine.execFmax d a b z sc s
  | .fcmp d a b z c sc => Sys2Proof.Machine.execFcmp d a b z c sc s
  | .fcvt d a c r sc => Sys2Proof.Machine.execFcvt d a c r sc s
  | .fclass d a z sc => Sys2Proof.Machine.execFclass d a z sc s
  | .fdrop a => Sys2Proof.Machine.execFdrop a s
  | .fseal imm => Sys2Proof.Machine.execFseal imm s
  | .illegalWord word => Sys2Proof.Machine.execIllegalWord word s
  | .heldAsyncTrapDelivery core slot => Sys2Proof.Machine.execHeldAsyncTrapDelivery core slot s
  | .replyLanding core req data abort => Sys2Proof.Machine.execReplyLanding core req data s abort
  | .slotReady core slot => Sys2Proof.Machine.execSlotReady core slot s
  | .remoteAccessArrival core req => Sys2Proof.Machine.execRemoteAccessArrival core req s
  | .rd core evict => Sys2Proof.Machine.execRd core evict s
  | .rdx core evict => Sys2Proof.Machine.execRdx core evict s
  | .upg core => Sys2Proof.Machine.execUpg core s
  | .wb core => Sys2Proof.Machine.execWb core s
  | .wt core => Sys2Proof.Machine.execWt core s
  | .ureg core => Sys2Proof.Machine.execUreg core s
  | .umrg core => Sys2Proof.Machine.execUmrg core s
  | .frsp core toDir => Sys2Proof.Machine.execFrsp core toDir s
  | .iack core => Sys2Proof.Machine.execIack core s
  | .dataS core evict => Sys2Proof.Machine.execDataS core evict s
  | .dataE core evict => Sys2Proof.Machine.execDataE core evict s
  | .dataM core evict => Sys2Proof.Machine.execDataM core evict s
  | .grant core => Sys2Proof.Machine.execGrant core s
  | .inv core => Sys2Proof.Machine.execInv core s
  | .urcl core => Sys2Proof.Machine.execUrcl core s
  | .fwdS core => Sys2Proof.Machine.execFwdS core s
  | .fwdX core => Sys2Proof.Machine.execFwdX core s
  | .wback core => Sys2Proof.Machine.execWback core s
  | .subscriptionPush bent home => Sys2Proof.Machine.execSubscriptionPush bent s home
  | .leaseExpiry bent page => Sys2Proof.Machine.execLeaseExpiry bent page s
  | .ptInvalidation bent => Sys2Proof.Machine.execPtInvalidation bent s
  | .ptWritePerform die idx => Sys2Proof.Machine.execPtWritePerform die idx s
  | .tableWalkStart bent => Sys2Proof.Machine.execTableWalkStart bent s
  | .tableWalkComplete bent idx poisoned => Sys2Proof.Machine.execTableWalkComplete bent idx poisoned s
  | .missTableRetry bent => Sys2Proof.Machine.execMissTableRetry bent s
  | .rehomeCopyDone die idx => Sys2Proof.Machine.execRehomeCopyDone die idx s
  | .rehomeRecopyDone die idx => Sys2Proof.Machine.execRehomeRecopyDone die idx s
  | .pageRecall die idx bent => Sys2Proof.Machine.execPageRecall die idx bent s
  | .rehomeSwitch die idx => Sys2Proof.Machine.execRehomeSwitch die idx s
  | .featureCommit pkg => Sys2Proof.Machine.execFeatureCommit pkg s
  | .qtailWrite pkg queue value => Sys2Proof.Machine.execQtailWrite pkg queue value s
  | .launchRecordRead pkg queue record => Sys2Proof.Machine.execLaunchRecordRead pkg queue record s
  | .kernelPlacement pkg kern cores => Sys2Proof.Machine.execKernelPlacement pkg kern cores s
  | .contextLoadingDone core kern => Sys2Proof.Machine.execContextLoadingDone core kern s
  | .rootTaskStart pkg kern => Sys2Proof.Machine.execRootTaskStart pkg kern s
  | .preemptWrite pkg kern => Sys2Proof.Machine.execPreemptWrite pkg kern s
  | .resumeWrite pkg kern => Sys2Proof.Machine.execResumeWrite pkg kern s
  | .abortWrite pkg kern supervisor => Sys2Proof.Machine.execAbortWrite pkg kern s supervisor
  | .kernelResumePlacement pkg kern cores => Sys2Proof.Machine.execKernelResumePlacement pkg kern cores s
  | .completionRecordWrite pkg kern => Sys2Proof.Machine.execCompletionRecordWrite pkg kern s
  | .contextSaveComplete core kern => Sys2Proof.Machine.execContextSaveComplete core kern s
  | .saveAreaAccessFailure core kern cause addr => Sys2Proof.Machine.execSaveAreaAccessFailure core kern cause addr s
  | .forcedStop core kern => Sys2Proof.Machine.execForcedStop core kern s
  | .budgetWatchdogExpiry core kern => Sys2Proof.Machine.execBudgetWatchdogExpiry core kern s
  | .budgetArm core slot value => Sys2Proof.Machine.execBudgetArm core slot value s
  | .supervisorQueueDelivery core kern => Sys2Proof.Machine.execSupervisorQueueDelivery core kern s
  | .restoreState core kern => Sys2Proof.Machine.execRestoreState core kern s
  | .restoreLeases core kern => Sys2Proof.Machine.execRestoreLeases core kern s
  | .restoreTruss core kern => Sys2Proof.Machine.execRestoreTruss core kern s
  | .restoreEngq core kern => Sys2Proof.Machine.execRestoreEngq core kern s
  | .restoreTasks core kern => Sys2Proof.Machine.execRestoreTasks core kern s
  | .restctlErrClear core kern => Sys2Proof.Machine.execRestctlErrClear core kern s
  | .cseqWrite core kern chan value => Sys2Proof.Machine.execCseqWrite core kern chan value s
  | .ptrootWrite core kern value => Sys2Proof.Machine.execPtrootWrite core kern value s
  | .yardWrite core slot size => Sys2Proof.Machine.execYardWrite core slot size s
  | .tracectlEnable core kern value => Sys2Proof.Machine.execTracectlEnable core kern value s
  | .monitorCsrWrite core kern csr value => Sys2Proof.Machine.execMonitorCsrWrite core kern csr value s
  | .ecodeRestart core kern => Sys2Proof.Machine.execEcodeRestart core kern s
  | .ecodeDiscard core kern => Sys2Proof.Machine.execEcodeDiscard core kern s
  | .cwmResume core kern chan value => Sys2Proof.Machine.execCwmResume core kern chan value s
  | .cwmHold core kern chan value => Sys2Proof.Machine.execCwmHold core kern chan value s
  | .ltmoWrite die value => Sys2Proof.Machine.execLtmoWrite die value s
  | .logheadWrite die value => Sys2Proof.Machine.execLogheadWrite die value s
  | .registerWrite pkg offset value => Sys2Proof.Machine.execRegisterWrite pkg offset value s
  | .coreGate core => Sys2Proof.Machine.execCoreGate core s
  | .bentGate bent => Sys2Proof.Machine.execBentGate bent s
  | .bentWakeComplete bent => Sys2Proof.Machine.execBentWakeComplete bent s
  | .coreWakeComplete core => Sys2Proof.Machine.execCoreWakeComplete core s
  | .coreFailure core => Sys2Proof.Machine.execCoreFailure core s
  | .stealProbe core => Sys2Proof.Machine.execStealProbe core s
  | .stealBackoffExpiry core => Sys2Proof.Machine.execStealBackoffExpiry core s
  | .probeArrival core => Sys2Proof.Machine.execProbeArrival core s
  | .probeEmptyReply core => Sys2Proof.Machine.execProbeEmptyReply core s
  | .joinIncrement core => Sys2Proof.Machine.execJoinIncrement core s
  | .stealFrameSend core => Sys2Proof.Machine.execStealFrameSend core s
  | .stolenTaskStart core => Sys2Proof.Machine.execStolenTaskStart core s
  | .continuationResume core slot => Sys2Proof.Machine.execContinuationResume core slot s
  | .timeoutExamination bent => Sys2Proof.Machine.execTimeoutExamination bent s
  | .batchDispatch bent idx => Sys2Proof.Machine.execBatchDispatch bent idx s
  | .binLaunchOnBufferFree bent => Sys2Proof.Machine.execBinLaunchOnBufferFree bent s
  | .taskqReadyAppend bent idx => Sys2Proof.Machine.execTaskqReadyAppend bent idx s
  | .taskqAppendRetry bent idx => Sys2Proof.Machine.execTaskqAppendRetry bent idx s
  | .donationArrival core req => Sys2Proof.Machine.execDonationArrival core req s
  | .trussGrant quad => Sys2Proof.Machine.execTrussGrant quad s
  | .unitCommit core stop => Sys2Proof.Machine.execUnitCommit core stop s
  | .trussPortCommandComplete core => Sys2Proof.Machine.execTrussPortCommandComplete core s
  | .operandChunkSend core sideB => Sys2Proof.Machine.execOperandChunkSend core sideB s
  | .operandMessageArrival core => Sys2Proof.Machine.execOperandMessageArrival core s
  | .trussRuntimeFault core code addr => Sys2Proof.Machine.execTrussRuntimeFault core code addr s
  | .chainedOperationEntry core kern chan => Sys2Proof.Machine.execChainedOperationEntry core kern chan s
  | .copyStart core queue => Sys2Proof.Machine.execCopyStart core queue s
  | .copyLanding core kern chan first count => Sys2Proof.Machine.execCopyLanding core kern chan first count s
  | .copyTranslationFault core kern chan => Sys2Proof.Machine.execCopyTranslationFault core kern chan s
  | .copyFault core kern chan code addr => Sys2Proof.Machine.execCopyFault core kern chan code addr s
  | .barrierArrival bent => Sys2Proof.Machine.execBarrierArrival bent s
  | .barrierByteCount bent => Sys2Proof.Machine.execBarrierByteCount bent s
  | .barrierExpect bent => Sys2Proof.Machine.execBarrierExpect bent s
  | .barrierWake bent => Sys2Proof.Machine.execBarrierWake bent s
  | .monitorCollect bent index => Sys2Proof.Machine.execMonitorCollect bent index s
  | .plumbVerdict bent index => Sys2Proof.Machine.execPlumbVerdict bent index s
  | .packetDelivery core => Sys2Proof.Machine.execPacketDelivery core s
  | .packetRetry core => Sys2Proof.Machine.execPacketRetry core s
  | .sendErrorReply core => Sys2Proof.Machine.execSendErrorReply core s
  | .handlerStart core kern queue => Sys2Proof.Machine.execHandlerStart core kern queue s
  | .wakeTaskStart core kern queue => Sys2Proof.Machine.execWakeTaskStart core kern queue s
  | .receiveArrival core => Sys2Proof.Machine.execReceiveArrival core s
  | .clearToSend die idx => Sys2Proof.Machine.execClearToSend die idx s
  | .messageLanding die idx count => Sys2Proof.Machine.execMessageLanding die idx count s
  | .landingFault die idx => Sys2Proof.Machine.execLandingFault die idx s
  | .linkTrainingStart link => Sys2Proof.Machine.execLinkTrainingStart link s
  | .linkTrained link width => Sys2Proof.Machine.execLinkTrained link width s
  | .ltmoExpiry link => Sys2Proof.Machine.execLtmoExpiry link s
  | .laneFailure link lane far module => Sys2Proof.Machine.execLaneFailure link lane far s module
  | .flitCrcError link => Sys2Proof.Machine.execFlitCrcError link s
  | .quiesceCommand link => Sys2Proof.Machine.execQuiesceCommand link s
  | .quiesceDrained link => Sys2Proof.Machine.execQuiesceDrained link s
  | .quiesceRelease link => Sys2Proof.Machine.execQuiesceRelease link s
  | .linkFailedSettle link => Sys2Proof.Machine.execLinkFailedSettle link s
  | .linkReset link => Sys2Proof.Machine.execLinkReset link s
  | .planeMaskUpdate pkg mask => Sys2Proof.Machine.execPlaneMaskUpdate pkg mask s
  | .dieWarmReset die => Sys2Proof.Machine.execDieWarmReset die s
  | .resetWaitExpiry die => Sys2Proof.Machine.execResetWaitExpiry die s
  | .dieRecallComplete die => Sys2Proof.Machine.execDieRecallComplete die s
  | .dieResetComplete die spares => Sys2Proof.Machine.execDieResetComplete die spares s
  | .dieReturnToPlacement die => Sys2Proof.Machine.execDieReturnToPlacement die s
  | .coldReset pkg => Sys2Proof.Machine.execColdReset pkg s
  | .managementTakeover pkg => Sys2Proof.Machine.execManagementTakeover pkg s
  | .launchControllerTakeover pkg => Sys2Proof.Machine.execLaunchControllerTakeover pkg s
  | .thermalDutyStep die region restore => Sys2Proof.Machine.execThermalDutyStep die region restore s
  | .regionDegraded die region => Sys2Proof.Machine.execRegionDegraded die region s
  | .fluxWrite die region value => Sys2Proof.Machine.execFluxWrite die region value s
  | .patrolScrub core store word => Sys2Proof.Machine.execPatrolScrub core store word s
  | .correctedError core => Sys2Proof.Machine.execCorrectedError core s
  | .uncorrectableError core store word => Sys2Proof.Machine.execUncorrectableError core store word s
  | .getCertificate pkg doe => Sys2Proof.Machine.execGetCertificate pkg doe s
  | .challenge pkg doe nonce => Sys2Proof.Machine.execChallenge pkg doe nonce s
  | .getMeasurements pkg doe => Sys2Proof.Machine.execGetMeasurements pkg doe s
  | .coreResetComplete core => Sys2Proof.Machine.execCoreResetComplete core s
  | .homeAgentRequest die stack => Sys2Proof.Machine.execHomeAgentRequest die s stack
  | .trussOperandsPresent core => Sys2Proof.Machine.execTrussOperandsPresent core s

end Sys2Proof.Machine
end

