-- ==== Sys2Proof/Machine/Step.lean ====
section
/-!
DEFINITION. One step of the device: the turn at the head of the agenda, or with no agenda the next turn of the current
core (assumption log 1).

Readings of the manual and choices that this file codes: assumption log 1, 11, 12, 14.
-/
namespace Sys2Proof.Machine

open Sys2Proof

/-- Runs the word that the current slot fetched; a word that decodes to no instruction is an illegal word (02 R30). -/
def runWord (w : BitVec 32) (s : State) : Host.Outcome State Fault Refusal :=
  match decode w with
  | some i => exec i s
  | none => exec (.illegalWord w) s

/-- The issue of the current slot: fetch, decode, execute. -/
def issueStep (s : State) : Host.Outcome State Fault Refusal :=
  match s.fetch with
  | (s1, .word w) => runWord w s1
  | (s1, .trap cause tval tinfo) => .next (s1.trap cause tval tinfo)
  | (s1, .wait) => .next s1.waitFetch

/-- A second issue of the current core in the cycle of the first (05 R109): another slot that can issue then, its next instruction of
the two-pipe class; the slot that issued first stays the one that runs. -/
def pairStep (slot : Nat) (s : State) : Host.Outcome State Fault Refusal :=
  let c := s.core
  if s.canPair slot then
    match issueStep (s.besides slot) with
    | .next t =>
      if t.cycle = s.cycle then .next (t.modCore fun x => { x with curSlot := c.curSlot, yielded := c.yielded, switchAt := c.switchAt })
      else .next s
    | .fault f => .fault f
    | .refused r => .refused r
  else .next s

/-- The issue of a core: of the slot that is next (06 R142). -/
def slotStep (core slot : Nat) (s : State) : Host.Outcome State Fault Refusal :=
  if (s.coreAt core).nextSlot = some slot then issueStep (s.switchTo core slot) else .next s

/-- The issue of two slots in one cycle: where both pop or both push one queue, the lower slot alone issues and the other no earlier than in the
next cycle; where the first pops what the second pushes, the push comes first (13 R244). -/
def bothStep (core slot other : Nat) (s : State) : Host.Outcome State Fault Refusal :=
  let q := s.switchTo core slot
  if q.ringClash slot other && q.canPair other then
    if slot < other then slotStep core slot s
    else
      match pairStep other q with
      | .next t => .next (t.modSlotOf core slot fun sl => { sl with nextIssue := Nat.max sl.nextIssue (q.cycle + 1) })
      | .fault f => .fault f
      | .refused r => .refused r
  else if q.pushFirst slot other then
    match pairStep other q with
    | .next t => slotStep core slot t
    | .fault f => .fault f
    | .refused r => .refused r
  else
    match slotStep core slot s with
    | .next t => pairStep other t
    | .fault f => .fault f
    | .refused r => .refused r

/-- Runs a turn. -/
def runTurn (t : Turn) (s : State) : Host.Outcome State Fault Refusal :=
  match t with
  | .event i => if i.isEvent then exec i s else .refused .illFormedAgenda
  | .issue core slot => slotStep core slot s
  | .pair core slot other =>
    if (s.coreAt core).nextSlot = some slot && (s.switchTo core slot).issuesTwoPipe then bothStep core slot other s
    else slotStep core slot s
  | .tick n => .next { s with cycle := s.cycle + n }

/-- One step. -/
def step (s : State) : Host.Outcome State Fault Refusal := runTurn s.takeTurn.1 s.takeTurn.2

/-- The state with an instruction word stored where the next step fetches. -/
def State.withFetchWord (s : State) (nbits w : Nat) : State := s.placeWord (w % 2 ^ nbits)

end Sys2Proof.Machine
end

