-- ==== Sys2Proof/Safety.lean ====
section
/-!
DEFINITION. The terms in which the claims are stated: safe states, what it takes for an instruction to take effect, and what
an instruction that writes registers leaves alone.
-/
namespace Sys2Proof.Safety

open Sys2Proof Sys2Proof.Machine

/-- The memories of a core are in canonical form. -/
def coreWf (c : Core) : Bool := Memory.wf c.wstore && Memory.wf c.astore && Memory.wf c.cstore

/-- The keys of a map strictly rise. -/
def keysRise {α : Type} (m : AMap α) : Bool := decide ((m.map Prod.fst).Pairwise (· < ·))

/-- Every memory of the device is in canonical form, and the maps of L1 lines and of kernels list each key once, in order. -/
def stateWf (s : State) : Bool :=
  Memory.wf s.mem && s.cores.all (fun c => coreWf c.2 && keysRise c.2.l1) && s.bents.all (fun b => Memory.wf b.2.sram) &&
    s.pkgs.all fun p => keysRise p.2.kernels

/-- An instruction that reads and writes the named registers takes its own effect in a state: the mode and the accepted
features permit it (02 R30, R31), the checking scoreboard, if it is on, finds no register pending as the instruction issues first (02 R37), binding
its registers spills none to a task record in memory (19 R348), and it is no vector instruction that parked before any of its effect, whose
registers are read anew (05 R110). -/
def Issues (i : Instr) (reads writes : List Reg) (s : State) : Prop :=
  s.permitted i = true ∧
    (s.core.schk = true → s.slot.parked = false → (s.prepare reads writes).slot.pendingReg (reads ++ writes) = none) ∧
    Core.recorded s.core (s.prepare reads writes).core = [] ∧ (s.slot.parked = true → s.slot.half = none → vectorFormat i = false)

/-- The value of a general register once every result in flight has landed (02 R36, R39). -/
def landedG (s : State) (r : BitVec 5) : Word := s.slot.landAll.readG r

/-- The consume taint of a general register once every result in flight has landed. -/
def landedTaint (s : State) (r : BitVec 5) : Bool := s.slot.landAll.readTaint r

/-- The value of a vector register once every result in flight has landed. -/
def landedV (s : State) (r : BitVec 5) : Vec := s.slot.landAll.readV r

/-- From p to t only the issue and the listed registers have moved on: all memory, every bent, die and package, every other
core and every other slot is as it was; of the core only the counters, and of the slot neither mode, STATUS, trap banks,
context nor any queue has changed, and no register but the listed ones. -/
structure OnlyWrites (dst : List Reg) (p t : State) : Prop where
  device : t = { p with cycle := t.cycle, cores := t.cores }
  cores : ∀ k, k ≠ p.cur → t.coreAt k = p.coreAt k
  core : t.core = { p.core with slots := t.core.slots, perf := t.core.perf }
  slots : ∀ n : Fin 8, n ≠ p.core.curSlot → t.core.slots[n] = p.core.slots[n]
  slot : t.slot = { p.slot with
    g := t.slot.g, taint := t.slot.taint, v := t.slot.v, pend := t.slot.pend, pc := t.slot.pc, nextIssue := t.slot.nextIssue
    run := t.slot.run, fill := t.slot.fill, fillErr := t.slot.fillErr, mark := t.slot.mark, parked := t.slot.parked, half := t.slot.half
    bwait := t.slot.bwait, walkFault := t.slot.walkFault }
  general : ∀ r, Reg.g r ∉ dst → landedG t r = landedG p r ∧ landedTaint t r = landedTaint p r
  vector : ∀ r, Reg.v r ∉ dst → landedV t r = landedV p r

/-- A slot without what says where its registers are held (19 R347, R348). -/
def unbound (sl : Slot) : Slot := { sl with boundG := 0, boundV := 0, out := 0, inRecord := 0 }

/-- What the issue of an instruction that reads and writes the named registers does before the instruction takes effect at p:
time passes until the interlocked results of these registers have landed (02 R38), the results due land (02 R36), but for an instruction that parked,
which reads its registers as they stood, registers are bound and filled back (19 R347, R348), and a force-stopped task that issues again loses its
STOP word (19 R362); nothing else changes. -/
structure Prepared (reads writes : List Reg) (s p : State) : Prop where
  device : p = { s with cycle := p.cycle, cores := p.cores }
  cores : ∀ k, k ≠ s.cur → p.coreAt k = s.coreAt k
  core : p.core = { s.core with slots := p.core.slots, perf := p.core.perf }
  slots : ∀ n : Nat, n ≠ s.core.curSlot.val → unbound (p.core.slotAt n) = unbound (s.core.slotAt n)
  slot : unbound p.slot = { unbound (if s.slot.parked then s.slot else { s.slot.landUpTo p.cycle with lastIssue := p.cycle + 1 }) with stop := 0 }
  issue : s.cycle ≤ p.cycle ∧ s.slot.nextIssue ≤ p.cycle
  interlock : ∀ x ∈ s.slot.pend, x.fixed = false → x.reg ∈ reads ++ writes → x.land ≤ p.cycle

/-- The instruction completes and goes on at the next word: destination d receives x with a taint bit (nothing for g0), the
rest is as the issue left it (p, the state in which it reads its sources). -/
def WritesG (i : Instr) (s p : State) (d : BitVec 5) (x : Word) (taint : Bool) (next : Word) : Prop :=
  ∃ t, exec i s = .next t ∧ t.slot.pc = next ∧ t.slot.run = .ready ∧ OnlyWrites [.g d] p t ∧
    landedG t d = (if d = 0 then 0 else x) ∧ landedTaint t d = (decide (d ≠ 0) && taint && p.slot.te)

/-- The taint of a named register, if it is general. -/
def regTaint (s : State) : Reg → Bool
  | .g r => s.taintOf r
  | .v _ => false

/-- An aligned access of n bytes at an address passes its checks and goes to a place of one of the core's own local stores that
no copy of the context covers (04 table 4.5, 06 R134 to R138). -/
def LocalAccess (s : State) (a : Word) (n code off : Nat) : Prop :=
  s.copyStall a n = false ∧ descriptorOk s.hasFeature a = true ∧ a.toNat % n = 0 ∧ spaceOf a ≠ 0 ∧ s.spaceCheck a = .ok (.own code off)

/-- A byte of a local store of a core, by store code. -/
def storeByte (s : State) (core code off : Nat) : BitVec 8 := Memory.read ((s.coreAt core).store code) off

/-- The scalar state outside memory and stores: every register, slot and context of every core. -/
def SameRegisters (s t : State) : Prop :=
  t.cur = s.cur ∧ t.cycle = s.cycle ∧ t.pkgs = s.pkgs ∧
    ∀ k, (t.coreAt k).slots = (s.coreAt k).slots ∧ (t.coreAt k).curSlot = (s.coreAt k).curSlot ∧ (t.coreAt k).ctxs = (s.coreAt k).ctxs

/-- The descriptor at an address names a queue: the instruction goes on with queue n in state u (13 R248). -/
def NamesQueue (s : State) (a : Word) (bins : Bool) (u : State) (n : NamedQueue) : Prop := ∀ body, s.withQueue a bins body = body u n

/-! ### Vector instructions -/

/-- The state in which a vector instruction acts, and the values of its vector sources: the issue is over and queue registers
among the sources have given up their entries (02 R42). -/
def sourcesOf (s : State) (g : BitVec 2) (srcs dsts : List (BitVec 5)) (gr gw : List Reg) : State × List Vec :=
  (s.prepare (maskReads g ++ gr ++ vRegs srcs) (vRegs dsts ++ gw)).takeAll srcs

/-- A vector instruction takes its own effect in a state: it issues, its queue registers are bound as they must be and can all be
served (05 R110, R111), and no entry that it pops is poisoned. -/
def VIssues (i : Instr) (g : BitVec 2) (srcs dsts : List (BitVec 5)) (gr gw : List Reg) (s : State) : Prop :=
  Issues i (maskReads g ++ gr ++ vRegs srcs) (vRegs dsts ++ gw) s ∧
    let p := s.prepare (maskReads g ++ gr ++ vRegs srcs) (vRegs dsts ++ gw)
    p.queueLegal srcs dsts = true ∧ p.queueReady srcs dsts = true ∧
      ∀ r ∈ srcs, isQ r = true → p.popPoisoned (r.toNat - 24) = false

/-- A vector instruction completes from the state p of its sources: the lanes of width w that on selects receive f, in a register the
others keep their values and nothing else changes, and a queue register pushes an entry with zeros in the others (02 R40). -/
def WritesV (i : Instr) (s p : State) (d : BitVec 5) (w : Nat) (on : Nat → Bool) (f : Nat → Nat) (stall : Nat) : Prop :=
  if isQ d then
    ∃ v : Vec, (∀ k, k < 512 / w → lane v w k = if on k then f k % 2 ^ w else 0) ∧ exec i s = .next ((p.pushQ (d.toNat - 24) v).retire stall)
  else
    ∃ t, exec i s = .next t ∧ t.slot.pc = s.slot.pc + 4 ∧ t.slot.run = .ready ∧ OnlyWrites [.v d] p t ∧
      ∀ k, k < 512 / w → lane (landedV t d) w k = if on k then f k % 2 ^ w else lane (landedV p d) w k

end Sys2Proof.Safety
end

