-- ==== Sys2Proof/Certificates/Slice0/Obligations.lean ====
section
/-!
DEFINITION. The statements for the provers.
-/

open Sys2Proof Sys2Proof.Machine Sys2Proof.Safety

/-! ### Integer instructions (04) -/

/-- 04 R84, R87, R89, R90: every integer operation on one or two general registers, with or without an immediate, writes its table
value and goes on at PC + 4. -/
def Obligations.IntegerResults : Prop :=
  (∀ (d a b : BitVec 5) (sc : BitVec 3) (s : State) (i : Instr) (f : Word → Word → Word),
     (i, f) ∈ [
       (.add d a b sc, fun x y => x + y),
       (.sub d a b sc, fun x y => x - y),
       (.and d a b sc, fun x y => x &&& y),
       (.or d a b sc, fun x y => x ||| y),
       (.xor d a b sc, fun x y => x ^^^ y),
       (.andn d a b sc, fun x y => x &&& ~~~y),
       (.sll d a b sc, fun x y => x <<< (bits y 0 6).toNat),
       (.srl d a b sc, fun x y => x >>> (bits y 0 6).toNat),
       (.sra d a b sc, fun x y => x.sshiftRight (bits y 0 6).toNat),
       (.min d a b sc, fun x y => if x.toInt ≤ y.toInt then x else y),
       (.max d a b sc, fun x y => if x.toInt ≤ y.toInt then y else x),
       (.minz d a b sc, fun x y => if x.toNat ≤ y.toNat then x else y),
       (.maxz d a b sc, fun x y => if x.toNat ≤ y.toNat then y else x),
       (.slt d a b sc, fun x y => if x.toInt < y.toInt then 1 else 0),
       (.sltz d a b sc, fun x y => if x.toNat < y.toNat then 1 else 0),
       (.seq d a b sc, fun x y => if x = y then 1 else 0),
       (.psub d a b sc, fun x y => BitVec.ofInt 64 ((bits x 0 48).toNat - (bits y 0 48).toNat : Int)),
       (.pset d a b sc, fun x y => bits y 0 16 ++ bits x 0 48),
       (.mul d a b sc, fun x y => BitVec.ofNat 64 (x.toNat * y.toNat)),
       (.mulh d a b sc, fun x y => BitVec.ofInt 64 (x.toInt * y.toInt / 2 ^ 64)),
       (.mulhz d a b sc, fun x y => BitVec.ofNat 64 (x.toNat * y.toNat / 2 ^ 64)),
       (.div d a b sc, fun x y => if y = 0 then BitVec.allOnes 64 else BitVec.ofInt 64 (x.toInt.tdiv y.toInt)),
       (.divz d a b sc, fun x y => if y = 0 then BitVec.allOnes 64 else BitVec.ofNat 64 (x.toNat / y.toNat)),
       (.rem d a b sc, fun x y => if y = 0 then x else BitVec.ofInt 64 (x.toInt.tmod y.toInt)),
       (.remz d a b sc, fun x y => if y = 0 then x else BitVec.ofNat 64 (x.toNat % y.toNat))] →
     Issues i [.g a, .g b] [.g d] s →
       let p := s.prepare [.g a, .g b] [.g d]
       WritesG i s p d (f (p.readG a) (p.readG b)) (p.taintOf a || p.taintOf b) (s.slot.pc + 4)) ∧
  (∀ (d a : BitVec 5) (sc : BitVec 3) (imm : BitVec 16) (n : BitVec 6) (s : State) (i : Instr) (f : Word → Word),
     (i, f) ∈ [
       (.clz d a sc, fun x => x.clz),
       (.ctz d a sc, fun x => x.ctz),
       (.popc d a sc, fun x => BitVec.ofNat 64 ((List.finRange 64).countP fun k => x[k])),
       (.pdesc d a sc, fun x => (bits x 48 16).setWidth 64),
       (.addi d a imm, fun x => x + imm.signExtend 64),
       (.andi d a imm, fun x => x &&& imm.signExtend 64),
       (.ori d a imm, fun x => x ||| imm.signExtend 64),
       (.xori d a imm, fun x => x ^^^ imm.signExtend 64),
       (.slti d a imm, fun x => if x.toInt < imm.toInt then 1 else 0),
       (.sltiz d a imm, fun x => if x.toNat < (imm.signExtend 64).toNat then 1 else 0),
       (.slli d a n, fun x => x <<< n.toNat),
       (.srli d a n, fun x => x >>> n.toNat),
       (.srai d a n, fun x => x.sshiftRight n.toNat)] →
     Issues i [.g a] [.g d] s →
       let p := s.prepare [.g a] [.g d]
       WritesG i s p d (f (p.readG a)) (p.taintOf a) (s.slot.pc + 4))

/-- 04 R85, R88: a conditional select writes ga where its condition holds for gc, else gb; LUK and ADDPC write their constants with
a clear taint. -/
def Obligations.SelectAndConstantResults : Prop :=
  (∀ (d a b c : BitVec 5) (sc : BitVec 3) (s : State) (i : Instr) (k : Int → Bool),
     (i, k) ∈ [
       (.cselEqz d a b c sc, fun x => decide (x = 0)),
       (.cselNez d a b c sc, fun x => decide (x ≠ 0)),
       (.cselLtz d a b c sc, fun x => decide (x < 0)),
       (.cselGez d a b c sc, fun x => decide (0 ≤ x)),
       (.cselGtz d a b c sc, fun x => decide (0 < x)),
       (.cselLez d a b c sc, fun x => decide (x ≤ 0))] →
     Issues i [.g a, .g b, .g c] [.g d] s →
       let p := s.prepare [.g a, .g b, .g c] [.g d]
       WritesG i s p d (if k (p.readG c).toInt then p.readG a else p.readG b) (p.taintOf a || p.taintOf b || p.taintOf c) (s.slot.pc + 4)) ∧
  (∀ (d : BitVec 5) (imm : BitVec 21) (s : State),
     (Issues (.luk d imm) [] [.g d] s →
       WritesG (.luk d imm) s (s.prepare [] [.g d]) d (BitVec.ofInt 64 (imm.toInt * 2 ^ 11)) false (s.slot.pc + 4)) ∧
     (Issues (.addpc d imm) [] [.g d] s →
       WritesG (.addpc d imm) s (s.prepare [] [.g d]) d
         (bits s.slot.pc 48 16 ++ BitVec.ofInt 48 ((bits s.slot.pc 0 48).toNat + imm.toInt * 2 ^ 11)) false (s.slot.pc + 4)))

/-- 04 R89: PADD and PADDI move the 48-bit offset and keep the descriptor; an offset that leaves its 48 bits traps with the pointer
in TVAL and delta in TINFO. -/
def Obligations.PointerMoves : Prop :=
  ∀ (d a b : BitVec 5) (sc : BitVec 3) (imm : BitVec 16) (s : State) (i : Instr) (reads : List Reg) (delta : State → Word) (taint : State → Bool),
    (i, reads, delta, taint) ∈ [
      (.padd d a b sc, [.g a, .g b], fun p => p.readG b, fun p => p.taintOf a || p.taintOf b),
      (.paddi d a imm, [.g a], fun _ => imm.signExtend 64, fun p => p.taintOf a)] →
    Issues i reads [.g d] s →
      let p := s.prepare reads [.g d]
      let off : Int := (bits (p.readG a) 0 48).toNat + (delta p).toInt
      (0 ≤ off ∧ off < 2 ^ 48 →
        WritesG i s p d (bits (p.readG a) 48 16 ++ BitVec.ofInt 48 off) (taint p) (s.slot.pc + 4)) ∧
      (¬(0 ≤ off ∧ off < 2 ^ 48) → exec i s = .next (p.trap Cause.pointerOverflow (p.readG a) (delta p)))

/-! ### Branches (04) -/

/-- 04 R86, R91, R92: a compare and branch goes to PC + 4 * disp where its condition holds, a skip passes over n words, JAL and JALR
link PC + 4 and jump; JALR takes IMISALIGN for a misaligned target, then DESCRIPTOR for one with bits above 47. -/
def Obligations.BranchesAndJumps : Prop :=
  (∀ (a b : BitVec 5) (disp : BitVec 13) (n : BitVec 3) (s : State),
     (∀ (i : Instr) (k : Word → Word → Bool),
       (i, k) ∈ [
         (.beq a b disp, fun x y => decide (x = y)),
         (.bne a b disp, fun x y => decide (x ≠ y)),
         (.blt a b disp, fun x y => decide (x.toInt < y.toInt)),
         (.bge a b disp, fun x y => decide (y.toInt ≤ x.toInt)),
         (.bltz a b disp, fun x y => decide (x.toNat < y.toNat)),
         (.bgez a b disp, fun x y => decide (y.toNat ≤ x.toNat))] →
       Issues i [.g a, .g b] [] s →
         let p := s.prepare [.g a, .g b] []
         ∃ t, exec i s = .next t ∧ OnlyWrites [] p t ∧ t.slot.run = .ready ∧
           t.slot.pc = if k (p.readG a) (p.readG b) then s.slot.pc + BitVec.ofInt 64 (disp.toInt * 4) else s.slot.pc + 4) ∧
     (∀ (i : Instr) (k : Int → Bool),
       (i, k) ∈ [
         (.skipEqz a n, fun x => decide (x = 0)),
         (.skipNez a n, fun x => decide (x ≠ 0)),
         (.skipLtz a n, fun x => decide (x < 0)),
         (.skipGez a n, fun x => decide (0 ≤ x)),
         (.skipGtz a n, fun x => decide (0 < x)),
         (.skipLez a n, fun x => decide (x ≤ 0))] →
       Issues i [.g a] [] s →
         let p := s.prepare [.g a] []
         ∃ t, exec i s = .next t ∧ OnlyWrites [] p t ∧ t.slot.run = .ready ∧
           t.slot.pc = if k (p.readG a).toInt then s.slot.pc + BitVec.ofNat 64 (4 * (n.toNat + 1)) else s.slot.pc + 4)) ∧
  (∀ (d a : BitVec 5) (disp : BitVec 21) (imm : BitVec 16) (s : State),
     (Issues (.jal d disp) [] [.g d] s →
       WritesG (.jal d disp) s (s.prepare [] [.g d]) d (s.slot.pc + 4) false (s.slot.pc + BitVec.ofInt 64 (disp.toInt * 4))) ∧
     (Issues (.jalr d a imm) [.g a] [.g d] s →
       let p := s.prepare [.g a] [.g d]
       let target := p.readG a + imm.signExtend 64
       (bits target 0 2 = 0 ∧ bits target 48 16 = 0 → WritesG (.jalr d a imm) s p d (s.slot.pc + 4) false target) ∧
       (bits target 0 2 ≠ 0 → exec (.jalr d a imm) s = .next (p.trap Cause.imisalign target)) ∧
       (bits target 0 2 = 0 ∧ bits target 48 16 ≠ 0 → exec (.jalr d a imm) s = .next (p.trap Cause.descriptor target))))

/-! ### Scalar floating point (04) -/

/-- 04 R103, R104: the scalar floating instructions write the value of their operation in the format of z, an FP32 result with zeros
above. -/
def Obligations.ScalarFloatResults : Prop :=
  ∀ (d a b c : BitVec 5) (z : BitVec 1) (r cc sc : BitVec 3) (s : State) (i : Instr) (reads : List Reg) (v : Fmt → Rnd → (Word → Nat) → State → Word),
    (i, reads, v) ∈ [
      (.fadd d a b z r sc, [.g a, .g b], fun m k x p => BitVec.ofNat 64 (roundF m k (addF k (decodeF m (x (p.readG a))) (decodeF m (x (p.readG b)))))),
      (.fsub d a b z r sc, [.g a, .g b], fun m k x p => BitVec.ofNat 64 (roundF m k (addF k (decodeF m (x (p.readG a))) (negF (decodeF m (x (p.readG b))))))),
      (.fmul d a b z r sc, [.g a, .g b], fun m k x p => BitVec.ofNat 64 (roundF m k (mulF (decodeF m (x (p.readG a))) (decodeF m (x (p.readG b)))))),
      (.fma d a b z r sc, [.g a, .g b, .g d], fun m k x p =>
        BitVec.ofNat 64 (roundF m k (addF k (mulF (decodeF m (x (p.readG a))) (decodeF m (x (p.readG b)))) (decodeF m (x (p.readG d)))))),
      (.fdiv d a b z r sc, [.g a, .g b], fun m k x p => BitVec.ofNat 64 (divF m k (decodeF m (x (p.readG a))) (decodeF m (x (p.readG b))))),
      (.fsqrt d a z r sc, [.g a], fun m k x p => BitVec.ofNat 64 (sqrtF m k (decodeF m (x (p.readG a))))),
      (.fmin d a b z sc, [.g a, .g b], fun m _ x p => BitVec.ofNat 64 (minmaxF m false (x (p.readG a)) (x (p.readG b)))),
      (.fmax d a b z sc, [.g a, .g b], fun m _ x p => BitVec.ofNat 64 (minmaxF m true (x (p.readG a)) (x (p.readG b)))),
      (.fcmp d a b z cc sc, [.g a, .g b], fun m _ x p => if fcond m cc.toNat (x (p.readG a)) (x (p.readG b)) then 1 else 0),
      (.fcvt d a c r sc, [.g a], fun _ k _ p => fcvtWord c.toNat k (p.readG a)),
      (.fclass d a z sc, [.g a], fun m _ x p => 1#64 <<< fclassBit m (x (p.readG a)))] →
    Issues i reads [.g d] s →
      let p := s.prepare reads [.g d]
      let m := if z = 0 then Fmt.fp32 else Fmt.fp64
      let k := if r = 0 then Rnd.rne else if r = 1 then .rz else if r = 2 then .rup else .rdn
      WritesG i s p d (v m k (fun w => w.toNat % (if z = 0 then 2 ^ 32 else 2 ^ 64)) p) (reads.any (regTaint p)) (s.slot.pc + 4)

/-! ### Loads and stores (04, 06) -/

/-- 04 R95, R96: a load from a local store of the core writes the extended bytes; a consume load sets the taint, or with taint
disabled acquires at system scope. -/
def Obligations.LoadsFromLocalStores : Prop :=
  ∀ (t a : BitVec 5) (o : BitVec 13) (s : State) (i : Instr) (n : Nat) (signed consume : Bool),
    (i, n, signed, consume) ∈ [
      (.ldB t a o, 1, true, false), (.ldH t a o, 2, true, false), (.ldW t a o, 4, true, false), (.ldD t a o, 8, true, false),
      (.ldzB t a o, 1, false, false), (.ldzH t a o, 2, false, false), (.ldzW t a o, 4, false, false),
      (.ldcW t a o, 4, true, true), (.ldcD t a o, 8, true, true)] →
    Issues i [.g a] [.g t] s →
      let p := s.prepare [.g a] [.g t]
      ∀ addr code off, addOffset (p.readG a) (o.toInt * n) = some addr → LocalAccess p addr n code off →
        p.core.storePoisoned code off n = false →
        let v := p.storeRead p.cur code off n
        let x := if signed then BitVec.ofInt 64 (toSigned (8 * n) v) else BitVec.ofNat 64 v
        ((consume = true → p.slot.te = true) → WritesG i s p t x (consume || p.taintOf a) (s.slot.pc + 4)) ∧
        (consume = true → p.slot.te = false → exec i s = .next (((p.putG t x 4 false true).acquire p.cur 6).retire))

/-- 08 table 8.3: a load of space 0 whose sector the L1D holds in S, E, O or M writes the sector's bytes. 07 R159: where an acquire has aged the line
of an E, O or M sector in the bent L2, the load sends the sector back and parks. That the sector is sent back before the access misses is the model's
reading (assumption log 138). -/
def Obligations.LoadsFromCachedMemory : Prop :=
  ∀ (t a : BitVec 5) (o : BitVec 13) (s : State) (i : Instr) (n : Nat) (signed : Bool),
    (i, n, signed) ∈ [
      (.ldB t a o, 1, true), (.ldH t a o, 2, true), (.ldW t a o, 4, true), (.ldD t a o, 8, true),
      (.ldzB t a o, 1, false), (.ldzH t a o, 2, false), (.ldzW t a o, 4, false)] →
    Issues i [.g a] [.g t] s →
      let p := s.prepare [.g a] [.g t]
      ∀ addr q pa table, addOffset (p.readG a) (o.toInt * n) = some addr → p.copyStall addr n = false →
        p.checkAccess .load n addr = (q, .ok (.mem pa table)) → q.homePending q.cur pa n = false →
        AMap.find? q.slot.fillErr (pa / 64) = none → AMap.find? q.slot.fill (pa / 64) = none → q.poisoned pa n = false →
        (q.core.sector (pa / 64)).st ∈ [.s, .e, .o, .m] →
          ((q.core.sector (pa / 64)).st = .s ∨ q.aged (bentOf q.cur) (pa / 256) = false →
            let v := vecBytes (q.core.sector (pa / 64)).data (pa % 64) n
            exec i s = .next (((q.modCore fun c => c.touch (pa / 256)).putG t
              (if signed then BitVec.ofInt 64 (toSigned (8 * n) v) else BitVec.ofNat 64 v) 4 false (p.taintOf a)).retire)) ∧
          ((q.core.sector (pa / 64)).st ≠ .s → q.aged (bentOf q.cur) (pa / 256) = true →
            exec i s = .next (q.modCore fun c => c.sendBack q.cycle (pa / 64) []).wait)

/-- 04 R95, 00 R4: a store to a local store of the core writes the low bytes of gt there and goes on; a masked write changes the
selected bytes of that store and no other byte of any local store, of memory or of a bent SRAM, and no register. 07 R171: a write that names the
store by a space-4 address is logged in the trace of the window it falls in, and waits while the trace does. -/
def Obligations.StoresToLocalStoresOnly : Prop :=
  (∀ (t a : BitVec 5) (o : BitVec 13) (s : State) (i : Instr) (n : Nat),
     (i, n) ∈ [(.stB t a o, 1), (.stH t a o, 2), (.stW t a o, 4), (.stD t a o, 8)] →
     Issues i [.g a, .g t] [] s →
       let p := s.prepare [.g a, .g t] []
       ∀ addr code off, addOffset (p.readG a) (o.toInt * n) = some addr → LocalAccess p addr n code off →
         let u := p.storeWrite p.cur code off n (p.readG t).toNat (2 ^ n - 1)
         (spaceOf addr ≠ 4 → exec i s = .next u.retire) ∧
         (spaceOf addr = 4 → p.traceReady p.cur = true → exec i s = .next (u.tracePort p.cur p.cur code off n 0).retire) ∧
         (spaceOf addr = 4 → p.traceReady p.cur = false → exec i s = .next p.wait)) ∧
  (∀ (s : State) (core code off n v mask : Nat), 1 ≤ code → code ≤ 3 → coreWf (s.coreAt core) = true →
     let t := s.storeWrite core code off n v mask
     SameRegisters s t ∧ t.mem = s.mem ∧ (∀ b, (t.bentAt b).sram = (s.bentAt b).sram) ∧
       ∀ k c b, 1 ≤ c → c ≤ 3 → storeByte t k c b =
         if k = core ∧ c = code ∧ off ≤ b ∧ b < off + n ∧ mask.testBit (b - off) then BitVec.ofNat 8 (v / 2 ^ (8 * (b - off)))
         else storeByte s k c b)

/-- 08 table 8.3: a store of space 0 whose sector the L1D holds in M or E merges its bytes into the sector, which is then in M with
these bytes dirty. 07 R153: it parks while an earlier store of its task to space 0 has not been performed. -/
def Obligations.StoresToCachedMemory : Prop :=
  ∀ (t a : BitVec 5) (o : BitVec 13) (s : State) (i : Instr) (n : Nat),
    (i, n) ∈ [(.stB t a o, 1), (.stH t a o, 2), (.stW t a o, 4), (.stD t a o, 8)] →
    Issues i [.g a, .g t] [] s →
      let p := s.prepare [.g a, .g t] []
      ∀ addr q pa table, addOffset (p.readG a) (o.toInt * n) = some addr → p.copyStall addr n = false →
        p.checkAccess .store n addr = (q, .ok (.mem pa table)) → q.homePending q.cur pa n = false → q.writesThrough pa table = false →
        let x := q.core.sector (pa / 64)
        (q.storesDone q.cur q.core.curSlot.val = false → exec i s = .next q.wait) ∧
        (x.st = .m ∨ x.st = .e → q.storesDone q.cur q.core.curSlot.val = true →
          let mask : BitVec 64 := BitVec.ofNat 64 ((2 ^ n - 1) * 2 ^ (pa % 64))
          let data : Vec := BitVec.ofNat 512 ((p.readG t).toNat % 2 ^ (8 * n) * 2 ^ (8 * (pa % 64)))
          let y : Sector := { x with st := .m, data := mergeVec x.data data mask, dirty := if x.st = .m then x.dirty ||| mask else mask }
          exec i s = .next ((q.modCore fun c => (c.setSector (pa / 64) y).touch (pa / 256)).retire))

/-- 04 R97: LDBIT and LDBIT.S read the n bits of the A-store from bit gb after the pointer, with their traps in order; STBIT
replaces those bits by the low bits of gd and leaves every other bit of the store alone. An element that straddles two words takes two accesses: the
bits of the lower word first, and those of the upper one when the instruction goes on. -/
def Obligations.BitFieldAccesses : Prop :=
  (∀ (d a b : BitVec 5) (n : BitVec 6) (sc : BitVec 3) (s : State) (i : Instr) (signed : Bool),
     (i, signed) ∈ [(.ldbit d a b n sc, false), (.ldbitS d a b n sc, true)] →
     Issues i [.g a, .g b] [.g d] s →
       let p := s.prepare [.g a, .g b] [.g d]
       let ptr := p.readG a
       let bit := offsetOf ptr * 8 + (p.readG b).toNat
       let task := p.slot.mode = .task
       let limit := if task then p.ctx.awin.size * 8 else 131072 * 8
       (spaceOf ptr ≠ 1 → exec i s = .next (p.trap Cause.spacePermission ptr 0)) ∧
       (spaceOf ptr = 1 ∧ descriptorOk p.hasFeature ptr = false → exec i s = .next (p.trap Cause.descriptor ptr 0)) ∧
       (spaceOf ptr = 1 ∧ descriptorOk p.hasFeature ptr = true ∧ limit < bit + (n.toNat + 1) →
         exec i s = .next (p.trap Cause.spacePermission ptr (p.readG b))) ∧
       (spaceOf ptr = 1 ∧ descriptorOk p.hasFeature ptr = true ∧ bit + (n.toNat + 1) ≤ limit →
         let k := n.toNat + 1
         let at0 := if task then p.ctx.awin.base * 8 + bit else bit
         let word (w : Nat) := p.storeRead p.cur 1 (w * 8) 8
         let writes (v : Nat) :=
           WritesG i s p d (if signed then BitVec.ofInt 64 (toSigned k v) else BitVec.ofNat 64 v) (p.taintOf a || p.taintOf b) (s.slot.pc + 4)
         (p.slot.half = none → p.copyStall (BitVec.ofNat 64 (ptr.toNat + (p.readG b).toNat / 8)) 9 = false →
           let poisoned := p.core.storePoisoned 1 (at0 / 64 * 8) (if at0 % 64 + k ≤ 64 then 8 else 16)
           (poisoned = true → exec i s = .next (p.trap Cause.mce ptr 0)) ∧
           (poisoned = false → at0 % 64 + k ≤ 64 → writes (word (at0 / 64) / 2 ^ (at0 % 64) % 2 ^ k)) ∧
           (poisoned = false → 64 < at0 % 64 + k → exec i s = .next (p.betweenWords (word (at0 / 64) / 2 ^ (at0 % 64))))) ∧
         (∀ lo, p.slot.half = some lo → writes ((lo + word (at0 / 64 + 1) * 2 ^ (64 - at0 % 64)) % 2 ^ k)))) ∧
  (∀ (d a b : BitVec 5) (n : BitVec 6) (sc : BitVec 3) (s : State),
     Issues (.stbit d a b n sc) [.g a, .g b, .g d] [] s →
       let p := s.prepare [.g a, .g b, .g d] []
       let ptr := p.readG a
       let bit := offsetOf ptr * 8 + (p.readG b).toNat
       let task := p.slot.mode = .task
       let limit := if task then p.ctx.awin.size * 8 else 131072 * 8
       spaceOf ptr = 1 → descriptorOk p.hasFeature ptr = true → bit + (n.toNat + 1) ≤ limit → coreWf p.core = true →
         let k := n.toNat + 1
         let at0 := if task then p.ctx.awin.base * 8 + bit else bit
         let next := (at0 / 64 + 1) * 64
         let writes (lo hi : Nat) (last : Bool) := ∃ t, exec (.stbit d a b n sc) s = .next t ∧ t.mem = s.mem ∧
           t.slot.pc = (if last then s.slot.pc + 4 else s.slot.pc) ∧ t.slot.half = (if last then none else some 0) ∧
           ∀ j, (storeByte t p.cur 1 (j / 8)).getLsbD (j % 8) =
             if lo ≤ j ∧ j < hi then (p.readG d).getLsbD (j - at0) else (storeByte p p.cur 1 (j / 8)).getLsbD (j % 8)
         (p.slot.half = none → p.copyStall (BitVec.ofNat 64 (ptr.toNat + (p.readG b).toNat / 8)) 9 = false →
           let poisoned := p.core.storePoisoned 1 (at0 / 64 * 8) (if at0 % 64 + k ≤ 64 then 8 else 16)
           (poisoned = true →
             exec (.stbit d a b n sc) s = .next ((p.postedError p.cur p.core.curSlot.val Cause.mce ptr).retire sc.toNat)) ∧
           (poisoned = false → at0 + k ≤ next → writes at0 (at0 + k) true) ∧
           (poisoned = false → next < at0 + k → writes at0 next false)) ∧
         (∀ h, p.slot.half = some h → next < at0 + k → writes next (at0 + k) true))

/-- 04 R94, table 4.5: the first check of a load or store that fails raises its trap; the instruction has no other effect. -/
def Obligations.AccessChecksInOrder : Prop :=
  ∀ (t a : BitVec 5) (o : BitVec 13) (s : State) (i : Instr) (n : Nat) (load : Bool),
    (i, n, load) ∈ [
      (.ldB t a o, 1, true), (.ldH t a o, 2, true), (.ldW t a o, 4, true), (.ldD t a o, 8, true),
      (.ldzB t a o, 1, true), (.ldzH t a o, 2, true), (.ldzW t a o, 4, true), (.ldcW t a o, 4, true), (.ldcD t a o, 8, true),
      (.stB t a o, 1, false), (.stH t a o, 2, false), (.stW t a o, 4, false), (.stD t a o, 8, false)] →
    let reads : List Reg := if load then [.g a] else [.g a, .g t]
    let writes : List Reg := if load then [.g t] else []
    Issues i reads writes s →
      let p := s.prepare reads writes
      let off : Int := (offsetOf (p.readG a) : Int) + o.toInt * n
      let addr : Word := BitVec.ofNat 64 ((p.readG a).toNat / 2 ^ 48 * 2 ^ 48 + off.toNat)
      (off < 0 ∨ 2 ^ 48 ≤ off → exec i s = .next (p.trap Cause.pointerOverflow (p.readG a) (BitVec.ofInt 64 (o.toInt * n)))) ∧
      (0 ≤ off → off < 2 ^ 48 → p.copyStall addr n = false →
        (descriptorOk p.hasFeature addr = false → exec i s = .next (p.trap Cause.descriptor addr 0)) ∧
        (descriptorOk p.hasFeature addr = true → addr.toNat % n ≠ 0 → exec i s = .next (p.trap Cause.dmisalign addr 0)) ∧
        (descriptorOk p.hasFeature addr = true → addr.toNat % n = 0 →
          (∀ code, spaceOf addr ≠ 0 → p.spaceCheck addr = .error code →
            exec i s = .next (p.trap Cause.spacePermission addr (BitVec.ofNat 64 code))) ∧
          (∀ q k, spaceOf addr = 0 → p.translate (if load then .load else .store) (offsetOf addr) = (q, .fault k) →
            exec i s = .next (q.trap (if load then 0x04 else 0x05) addr (BitVec.ofNat 64 k)))))

/-- 06 R138 to R141: a load that goes beyond the core sends a request and parks until its reply; a store sends a posted request and
goes on. The request carries the address and the operation, and nothing else of the device changes. -/
def Obligations.RemoteAccessesSendRequests : Prop :=
  ∀ (t a : BitVec 5) (o : BitVec 13) (s : State) (i : Instr) (n : Nat) (load signed : Bool),
    (i, n, load, signed) ∈ [
      (.ldB t a o, 1, true, true), (.ldH t a o, 2, true, true), (.ldW t a o, 4, true, true), (.ldD t a o, 8, true, true),
      (.ldzB t a o, 1, true, false), (.ldzH t a o, 2, true, false), (.ldzW t a o, 4, true, false),
      (.stB t a o, 1, false, false), (.stH t a o, 2, false, false), (.stW t a o, 4, false, false), (.stD t a o, 8, false, false)] →
    let reads : List Reg := if load then [.g a] else [.g a, .g t]
    let writes : List Reg := if load then [.g t] else []
    Issues i reads writes s →
      let p := s.prepare reads writes
      ∀ addr, addOffset (p.readG a) (o.toInt * n) = some addr → p.copyStall addr n = false →
        descriptorOk p.hasFeature addr = true → addr.toNat % n = 0 → spaceOf addr ≠ 0 → p.spaceCheck addr = .ok .away →
        p.core.roomFor 1 = true →
          ∃ u r, exec i s = .next u ∧ u.core.requests = p.core.requests ++ [r] ∧
            r.id = p.core.nextReq ∧ r.slot = p.core.curSlot.val ∧ r.kern = p.slot.ctx ∧ r.sup = decide (p.slot.mode ≠ .task) ∧
            r.addr = addr ∧ r.done = false ∧
            r.op = (if load then .load n else .store n (p.readG t).toNat (2 ^ n - 1)) ∧
            r.dest = (if load then .g t n signed (p.taintOf a) 0 else .posted) ∧
            u.slot.run = (if load then .awaiting p.core.nextReq else .ready) ∧
            u.slot.pc = (if load then s.slot.pc else s.slot.pc + 4) ∧
            u.mem = s.mem ∧ u.bents = s.bents ∧ u.dies = s.dies ∧ u.pkgs = s.pkgs ∧ (∀ k, k ≠ s.cur → u.coreAt k = s.coreAt k)

/-! ### Atomics and updates (04) -/

/-- 04 R98, R99: an atomic on a local store of the core replaces the value by that of its operation, after a release and before an
acquire where its order asks for them, and returns the old value sign-extended; a failing CAS writes nothing. 04 R100, R101: an
update of a local store of the core is one read-modify-write there and writes no register; R102: where its data is poisoned it leaves a posted
error and nothing else. Poisoned data of an atomic takes MCE. -/
def Obligations.LocalAtomicsAndUpdates : Prop :=
  (∀ (d a b : BitVec 5) (z : BitVec 1) (c o : BitVec 3) (s : State) (i : Instr) (wide : Bool) (f : Nat → Nat → Nat → Nat → Nat),
     (i, wide, f) ∈ [
       (.amoAdd d a b z c o, decide (z = 1), fun w old x _ => (old + x) % 2 ^ w),
       (.amoAnd d a b z c o, decide (z = 1), fun _ old x _ => Nat.land old x),
       (.amoOr d a b z c o, decide (z = 1), fun _ old x _ => Nat.lor old x),
       (.amoXor d a b z c o, decide (z = 1), fun _ old x _ => Nat.xor old x),
       (.amoMin d a b z c o, decide (z = 1), fun w old x _ => if toSigned w old ≤ toSigned w x then old else x),
       (.amoMax d a b z c o, decide (z = 1), fun w old x _ => if toSigned w old ≤ toSigned w x then x else old),
       (.amoMinz d a b z c o, decide (z = 1), fun _ old x _ => if old ≤ x then old else x),
       (.amoMaxz d a b z c o, decide (z = 1), fun _ old x _ => if old ≤ x then x else old),
       (.amoSwap d a b z c o, decide (z = 1), fun _ _ x _ => x),
       (.amoCas d a b z c o, decide (z = 1), fun _ old x y => if old = y then x else old),
       (.amoFaddF32 d a b c o, false, fun _ old x _ => roundF .fp32 .rne (addF .rne (decodeF .fp32 old) (decodeF .fp32 x))),
       (.amoFaddBf16 d a b c o, false, fun _ old x _ =>
         roundF .bf16 .rne (addF .rne (decodeF .bf16 (old % 2 ^ 16)) (decodeF .bf16 (x % 2 ^ 16))) +
         2 ^ 16 * roundF .bf16 .rne (addF .rne (decodeF .bf16 (old / 2 ^ 16 % 2 ^ 16)) (decodeF .bf16 (x / 2 ^ 16 % 2 ^ 16))))] →
     let cas : Bool := match i with
       | .amoCas _ _ _ _ _ _ => true
       | _ => false
     let reads : List Reg := [.g a, .g b] ++ (if cas then [.g d] else [])
     Issues i reads [.g d] s →
       let p := s.prepare reads [.g d]
       let n := if wide then 8 else 4
       let w := 8 * n
       ∀ code off, LocalAccess p (p.readG a) n code off →
         (o = 2 ∨ o = 3 → p.releaseReady p.cur p.core.curSlot.val c.toNat = true) →
         let q := if o = 2 ∨ o = 3 then p.release p.cur c.toNat else p
         (q.core.storePoisoned code off n = true → exec i s = .next (q.trap Cause.mce (p.readG a) 0)) ∧
         (q.core.storePoisoned code off n = false →
           let old := q.storeRead q.cur code off n
           let fails := cas ∧ old ≠ (q.readG d).toNat % 2 ^ w
           ∀ r, (if fails then some q
               else q.ownWrite (p.readG a) code off n (f w old ((q.readG b).toNat % 2 ^ w) ((q.readG d).toNat % 2 ^ w)) (2 ^ n - 1) 1) = some r →
             let u := r.putG d (BitVec.ofInt 64 (toSigned w old)) 4 false
             exec i s = .next ((if o = 1 ∨ o = 3 then u.acquire u.cur c.toNat else u).retire))) ∧
  (∀ (a b : BitVec 5) (z : BitVec 2) (c : BitVec 3) (s : State) (i : Instr) (f : Nat → Fmt → Nat → Nat → Nat),
     (i, f) ∈ [
       (.updAdd a b z c, fun w _ old x => (old + x) % 2 ^ w),
       (.updFadd a b z c, fun _ m old x => roundF m .rne (addF .rne (decodeF m old) (decodeF m x))),
       (.updMin a b z c, fun w _ old x => if toSigned w old ≤ toSigned w x then old else x),
       (.updMax a b z c, fun w _ old x => if toSigned w old ≤ toSigned w x then x else old),
       (.updOr a b z c, fun _ _ old x => Nat.lor old x),
       (.updAnd a b z c, fun _ _ old x => Nat.land old x)] →
     Issues i [.g a, .g b] [] s →
       let p := s.prepare [.g a, .g b] []
       let n := if z = 1 then 8 else 4
       let m := if z = 1 then Fmt.fp64 else .fp32
       ∀ code off, LocalAccess p (p.readG a) n code off →
         let v := f (8 * n) m (p.storeRead p.cur code off n) ((p.readG b).toNat % 2 ^ (8 * n))
         (p.core.storePoisoned code off n = true →
           exec i s = .next (p.postedError p.cur p.core.curSlot.val Cause.mce (p.readG a)).retire) ∧
         (p.core.storePoisoned code off n = false → ∀ u, p.ownWrite (p.readG a) code off n v (2 ^ n - 1) 2 = some u → exec i s = .next u.retire)) ∧
  (∀ (s : State) (a : Word) (code off n v mask kind : Nat),
     let u := s.storeWrite s.cur code off n v mask
     (spaceOf a ≠ 4 → s.ownWrite a code off n v mask kind = some u) ∧
     (spaceOf a = 4 → s.ownWrite a code off n v mask kind = if s.traceReady s.cur then some (u.tracePort s.cur s.cur code off n kind) else none))

/-- 04 table 4.6, R101: an atomic or update of memory at die scope or wider goes to the home agent of the line's stack: the line leaves the bent and
a request for the home stands at the end of the agent's queue; an atomic parks on its answer, an update goes on. An atomic at a narrower scope, of a
line that its home does not keep, goes to the bent L2 of its core as a request. -/
def Obligations.MemoryAtomicsSendRequests : Prop :=
  (∀ (d a b : BitVec 5) (z : BitVec 1) (c o : BitVec 3) (s : State) (i : Instr) (code : Nat) (dbl : Bool),
     (i, code, dbl) ∈ [
       (.amoAdd d a b z c o, 0, decide (z = 1)), (.amoAnd d a b z c o, 1, decide (z = 1)), (.amoOr d a b z c o, 2, decide (z = 1)),
       (.amoXor d a b z c o, 3, decide (z = 1)), (.amoMin d a b z c o, 4, decide (z = 1)), (.amoMax d a b z c o, 5, decide (z = 1)),
       (.amoMinz d a b z c o, 6, decide (z = 1)), (.amoMaxz d a b z c o, 7, decide (z = 1)), (.amoSwap d a b z c o, 8, decide (z = 1)),
       (.amoCas d a b z c o, 9, decide (z = 1)), (.amoFaddF32 d a b c o, 10, false), (.amoFaddBf16 d a b c o, 11, false)] →
     let reads : List Reg := [.g a, .g b] ++ (if code = 9 then [.g d] else [])
     Issues i reads [.g d] s →
       let p := s.prepare reads [.g d]
       let n := if dbl then 8 else 4
       ∀ q pa table, spaceOf (p.readG a) = 0 → p.copyStall (p.readG a) n = false → p.checkAccess .store n (p.readG a) = (q, .ok (.mem pa table)) →
         (o = 2 ∨ o = 3 → q.releaseReady q.cur q.core.curSlot.val c.toNat = true) →
         let r := if o = 2 ∨ o = 3 then q.release q.cur c.toNat else q
         let op : ReqOp := .atomic code dbl (r.readG b) (r.readG d)
         let dest : ReqDest := .g d n true false (if o = 1 ∨ o = 3 then c.toNat + 1 else 0)
         r.homePending r.cur pa n = false → r.lineFree pa = true → r.core.roomFor 1 = true →
           (3 ≤ c.toNat →
             exec i s = .next (((r.dropLine (bentOf r.cur) (pa / 256)).sendAndPark (p.readG a) pa op dest).queueHome pa r.core.nextReq)) ∧
           (r.atHome c.toNat pa table = false → exec i s = .next ((r.addRequest (p.readG a) pa op dest true).awaitReply r.core.nextReq))) ∧
  (∀ (a b : BitVec 5) (z : BitVec 2) (c : BitVec 3) (s : State) (i : Instr) (op : UpdOp),
     (i, op) ∈ [
       (.updAdd a b z c, .add), (.updFadd a b z c, .fadd), (.updMin a b z c, .min), (.updMax a b z c, .max), (.updOr a b z c, .or),
       (.updAnd a b z c, .and)] →
     Issues i [.g a, .g b] [] s →
       let p := s.prepare [.g a, .g b] []
       let n := if z = 1 then 8 else 4
       ∀ q pa table, spaceOf (p.readG a) = 0 → p.copyStall (p.readG a) n = false → p.checkAccess .store n (p.readG a) = (q, .ok (.mem pa table)) →
         q.homePending q.cur pa n = false → q.storesDone q.cur q.core.curSlot.val = true → 3 ≤ c.toNat → q.lineFree pa = true →
         q.core.roomFor 1 = true →
           exec i s = .next ((((q.dropLine (bentOf q.cur) (pa / 256)).addRequest (p.readG a) pa (.upd op (decide (z = 1)) (p.readG b)) .posted).queueHome
             pa q.core.nextReq).retire))

/-! ### Fences and cache maintenance (07) -/

/-- 07 R160 to R162: a fence whose release can complete does its maintenance, returns the status word of the posted-error record and
of the lines it lost, clears what it reported, and goes on at PC + 4; FENCE.full.core discards the words fetched ahead (02 R49). 07 table 7.3: the status of a fence at package or wider scope
has PERR for a recorded error with its cause, LFAIL with the count of lost writes and the link, and bit 63 where either is set; a
record of no error gives 0. 07 R167: QFENCE puts the commands that the slot has issued to the named queues, and that are not
complete, before the later ones of these queues, and goes on at PC + 4. -/
def Obligations.FencesAndQueueFences : Prop :=
  (∀ (d : BitVec 5) (c : BitVec 3) (s : State) (i : Instr) (kind : Nat),
     (i, kind) ∈ [(.fenceAcq d c, 0), (.fenceRel d c, 1), (.fenceFull d c, 2)] →
     Issues i [] [.g d] s →
       let p := s.prepare [] [.g d]
       (kind ≠ 0 → p.releaseReady p.cur p.core.curSlot.val c.toNat = true) → (kind = 0 ∨ c.toNat < 3 ∨ p.lostLines p.cur = []) →
         let q := if kind = 0 then p else p.release p.cur c.toNat
         let r := if kind = 1 then q else q.acquire q.cur c.toNat
         let e := r.slot.perr
         let status := fenceStatus c.toNat e e.lost (if e.lost ≠ 0 then e.link else 0)
         r.core.fencetrap = false →
           exec i s = .next (((r.modSlot fun sl =>
             { sl with perr := e.reported c.toNat, ahead := if kind = 2 ∧ c = 0 then none else sl.ahead }).putG d status 2 false).retire)) ∧
  (∀ (scope : Nat) (e : PostedError) (n : Nat) (link : BitVec 8), 4 ≤ scope →
     let w := fenceStatus scope e n link
     w.getLsbD 0 = decide (e.count ≠ 0) ∧ w.getLsbD 1 = decide (n ≠ 0) ∧ bits w 16 8 = link ∧
       bits w 24 8 = (if e.count ≠ 0 then e.cause else 0) ∧ bits w 32 16 = BitVec.ofNat 16 (min n 0xFFFF) ∧
       w.getLsbD 63 = decide (e.count ≠ 0 ∨ n ≠ 0)) ∧
  (∀ (q : BitVec 4) (s : State), Issues (.qfence q) [] [] s →
     let p := s.prepare [] []
     ∃ t, exec (.qfence q) s = .next t ∧ t.slot.pc = s.slot.pc + 4 ∧ t.slot.run = .ready ∧ t.mem = s.mem ∧ t.bents = s.bents ∧
       (∀ r, t.readG r = p.readG r) ∧
       ∀ b, b < 4 → AMap.getD t.slot.fenced b [] =
         if q.getLsbD b then
           (AMap.getD s.slot.fenced b []).filter p.core.openCommands.contains ++
             ((List.range 4).filter fun k => q.getLsbD k).flatMap fun k =>
               ((p.core.commands k).filter fun x => x.2 == p.core.curSlot.val).map Prod.fst
         else AMap.getD s.slot.fenced b [])

/-- 07 R165: a cache operation on an address of spaces 1 to 6 does nothing; on a settled line of memory it cleans the core's L1D to the bent L2 or
the bent to the line's home, or invalidates the line, as its scope says. -/
def Obligations.CacheOperationsComplete : Prop :=
  ∀ (a : BitVec 5) (c : BitVec 3) (s : State) (i : Instr) (use : PageUse) (act : State → Nat → State),
    (i, use, act) ∈ [
      (.cclean a c, .load, fun q line => if c.toNat < 3 then q.cleanFrom (bentOf q.cur) q.cur line
        else ((coresOfBent (bentOf q.cur)).foldl (fun q k => q.cleanFrom (bentOf q.cur) k line) q).writeBack (bentOf q.cur) line),
      (.cinv a c, .store, fun q line => q.invalidateLine line c.toNat),
      (.cflush a c, .store, fun q line => q.invalidateLine line c.toNat)] →
    Issues i [.g a] [] s →
      let p := s.prepare [.g a] []
      (1 ≤ spaceOf (p.readG a) ∧ spaceOf (p.readG a) ≤ 6 → ∃ t, exec i s = .next t ∧ OnlyWrites [] p t ∧ t.slot.pc = s.slot.pc + 4) ∧
      (∀ q pa table, spaceOf (p.readG a) = 0 → p.checkAccess use 1 (p.readG a) = (q, .ok (.mem pa table)) → q.lineFree pa = true →
        (3 ≤ c.toNat → q.homeRoute (bentOf q.cur) pa ≠ .wait) → exec i s = .next ((act q (pa / 256)).retire))

/-! ### System instructions and traps (04, 19, 26) -/

/-- 04 R106: NOP goes on at PC + 4 and changes nothing else; WFE with the event flag set clears it; HALT of a settled core stops its
fetching; FSEAL sets seal bits. 19 R353, 04 R106: TRAP takes SOFTWARE with its immediate in TVAL, BREAK takes BREAK with zero; both
traps are at the instruction itself. -/
def Obligations.SystemAndSoftwareTraps : Prop :=
  (∀ (imm : BitVec 6) (s : State),
     (Issues .nop [] [] s → ∃ t, exec .nop s = .next t ∧ OnlyWrites [] (s.prepare [] []) t ∧ t.slot.pc = s.slot.pc + 4 ∧ t.slot.run = .ready) ∧
     (Issues .wfe [] [] s → s.slot.evt = true →
       ∃ t, exec .wfe s = .next t ∧ t.slot.evt = false ∧ t.slot.pc = s.slot.pc + 4 ∧ t.slot.run = .ready ∧ t.mem = s.mem ∧
         (∀ r, landedG t r = landedG (s.prepare [] []) r)) ∧
     (Issues .wfe [] [] s → s.slot.evt = false →
       ∃ t, exec .wfe s = .next t ∧ t.slot.run = .waiting ∧ t.slot.pc = s.slot.pc ∧ t.mem = s.mem) ∧
     (Issues .halt [] [] s → (s.prepare [] []).coreSettled s.cur = true →
       ∃ t, exec .halt s = .next t ∧ t.core.halted = true ∧ t.slot.pc = s.slot.pc + 4 ∧ t.mem = s.mem) ∧
     (Issues (.fseal imm) [] [] s →
       ∃ t, exec (.fseal imm) s = .next t ∧ t.core.sealBits = s.core.sealBits ||| imm.setWidth 8 ∧ t.slot.pc = s.slot.pc + 4 ∧ t.mem = s.mem)) ∧
  (∀ (imm : BitVec 6) (s : State),
     (Issues (.trap imm) [] [] s → exec (.trap imm) s = .next ((s.prepare [] []).trap 0x16 (imm.setWidth 64) 0)) ∧
     (Issues .break [] [] s → exec .break s = .next ((s.prepare [] []).trap 0x17 0 0)))

/-- 19 R351: a trap at depth b below 2 records the trap in bank b, leaves the other bank, enters supervisor mode (firmware stays in
firmware mode), raises the depth, and goes to the vector plus 0x100 b; TE and EVT are unchanged, the results in flight have landed,
and memory and the other slots are unchanged (a handler task that gives its mailbox entry back apart, 17 R324). 19 R351, R354, 26
R412: a trap at depth 2 of firmware, whose core holds no context, is the third level: every slot of the core stops, the crash record
stands in the health record only, and the core waits for its reset. -/
def Obligations.TrapEntryAndThirdLevel : Prop :=
  (∀ (s : State) (core slot : Nat) (cause : BitVec 8) (tval tinfo tepc : Word) (async : Bool), slot < 8 → (s.slotOf core slot).td ≠ 2 →
     (∀ h, (s.slotOf core slot).handler = some h → h.aborted = true ∨ h.released = true ∨ (s.slotOf core slot).ctx = none) →
     let o := s.slotOf core slot
     let t := s.takeTrapAt core slot cause tval tinfo tepc async
     let u := t.slotOf core slot
     let b := o.td.val
     (u.bank b).tepc = tepc &&& ~~~3#64 ∧
     (u.bank b).tcause = BitVec.ofNat 64 (cause.toNat + 256 * o.num.toNat + (if async then 2 ^ 63 else 0)) ∧
     (u.bank b).tval = tval ∧ (u.bank b).tinfo = tinfo ∧
     (u.bank b).tstat = o.status ∧
     (u.bank (1 - b)) = o.bank (1 - b) ∧
     u.mode = (if o.mode = .firmware then .firmware else .supervisor) ∧ u.td.val = b + 1 ∧ u.te = o.te ∧ u.evt = o.evt ∧
     u.pc = (if o.mode = .firmware then (s.coreAt core).fwvec + 0x200 else (s.ctxOf core (o.ctx.getD 65536)).tvec) + BitVec.ofNat 64 (0x100 * b) ∧
     u.run = .ready ∧ u.pend = [] ∧ (∀ r, u.readG r = o.landAll.readG r) ∧ (∀ r, u.readV r = o.landAll.readV r) ∧
     t.mem = s.mem ∧ t.bents = s.bents ∧ t.dies = s.dies ∧ t.pkgs = s.pkgs ∧ (∀ k, k ≠ core → t.coreAt k = s.coreAt k) ∧
       ∀ k, k ≠ slot → t.slotOf core k = s.slotOf core k) ∧
  (∀ (s : State) (core slot : Nat) (cause : BitVec 8) (tval tinfo tepc : Word) (async : Bool),
     slot < 8 → (s.slotOf core slot).td = 2 → (s.coreAt core).ctxs = [] → (s.slotOf core slot).ctx = none →
       let t := s.takeTrapAt core slot cause tval tinfo tepc async
       (∀ n, n < 8 → (t.slotOf core n).run = .free) ∧ (t.coreAt core).resetting = true ∧
         (t.coreAt core).health.crash.length = 8 ∧ (t.coreAt core).health.crash.head? = some (BitVec.ofNat 64 (cause.toNat + 256 * (s.slotOf core slot).num.toNat)) ∧
         t.mem = s.mem)

/-- 19 R353: TRET at depth 0 takes ILLEGAL, with a bad saved status BADRET, and otherwise restores mode, depth, TE and PC from its
bank with EVT set; memory and the registers are unchanged. -/
def Obligations.TrapReturn : Prop :=
  ∀ (s : State), Issues .tret [] [] s →
    let p := s.prepare [] []
    let b := p.slot.td.val - 1
    let x := (p.slot.bank b).tstat
    (p.slot.td = 0 → exec .tret s = .next (p.trap 0x01 0x60020000 0)) ∧
    (p.slot.td ≠ 0 → (bits x 7 57 ≠ 0 ∨ bits x 0 2 = 3 ∨ p.slot.mode.code < (bits x 0 2).toNat ∨ (bits x 2 2).toNat ≠ b) →
      exec .tret s = .next (p.trap 0x0B x (p.slot.bank b).tepc)) ∧
    (p.slot.td ≠ 0 → bits x 7 57 = 0 → bits x 0 2 ≠ 3 → (bits x 0 2).toNat ≤ p.slot.mode.code → (bits x 2 2).toNat = b → x.getLsbD 6 = false →
      (b = 0 → ∀ h, p.slot.handler = some h → h.aborted = false) →
        ∃ t, exec .tret s = .next t ∧ t.slot.mode.code = (bits x 0 2).toNat ∧ t.slot.td.val = b ∧ t.slot.te = x.getLsbD 5 ∧ t.slot.evt = true ∧
          t.slot.pc = (p.slot.bank b).tepc &&& ~~~3#64 ∧ t.slot.bank0 = s.slot.bank0 ∧ t.slot.bank1 = s.slot.bank1 ∧
          (∀ r, landedG t r = landedG p r) ∧ t.mem = s.mem)

/-- 26 R411: FDROP checks its target like JALR and then runs there in supervisor mode at depth 0 with TE and EVT clear. -/
def Obligations.FirmwareDrop : Prop :=
  ∀ (a : BitVec 5) (s : State), Issues (.fdrop a) [.g a] [] s →
    let p := s.prepare [.g a] []
    let target := p.readG a
    (bits target 0 2 ≠ 0 → exec (.fdrop a) s = .next (p.trap 0x02 target 0)) ∧
    (bits target 0 2 = 0 → bits target 48 16 ≠ 0 → exec (.fdrop a) s = .next (p.trap 0x07 target 0)) ∧
    (bits target 0 2 = 0 → bits target 48 16 = 0 →
      ∃ t, exec (.fdrop a) s = .next t ∧ t.slot.mode = .supervisor ∧ t.slot.td = 0 ∧ t.slot.te = false ∧ t.slot.evt = false ∧
        t.slot.pc = target ∧ t.mem = s.mem ∧ (∀ r, landedG t r = landedG p r))

/-- 02 R30, R31: an instruction that the accepted features or the mode exclude takes ILLEGAL with its word in TVAL and has no other
effect. 02 R30: a word that decodes to no instruction takes ILLEGAL with the word in TVAL; a held asynchronous trap is delivered to
a slot below depth 2 that waits for no reply or fill (06 R142), with the next instruction in TEPC. -/
def Obligations.ExcludedAndIllegalWordsTrap : Prop :=
  (∀ (i : Instr) (s : State), i.isEvent = false → s.permitted i = false → exec i s = .next (s.trap 0x01 ((encode i).setWidth 64) 0)) ∧
  ((∀ (w : BitVec 32) (s : State), decode w = none → s.core.canIssue s.core.curSlot.val = true →
     exec (.illegalWord w) s = .next (s.trap 0x01 (w.setWidth 64) 0)) ∧
   (∀ (core slot : Nat) (s : State) (h : HeldTrap) (rest : List HeldTrap), (s.slotOf core slot).held = h :: rest → (s.slotOf core slot).td ≠ 2 →
     (s.slotOf core slot).run = .ready → (s.coreAt core).awaits slot = false →
       exec (.heldAsyncTrapDelivery core slot) s =
         .next ((s.modSlotOf core slot fun sl => { sl with held := rest }).takeTrapAt core slot h.cause h.tval h.tinfo (s.slotOf core slot).pc true)))

/-! ### Control and status registers (02, 04) -/

/-- 04 R105: CSRR returns the register; CSRW, CSRS and CSRC return the old value and write the new one, CSRS setting and CSRC
clearing the bits that are one in ga; with ga = g0 CSRS and CSRC write nothing. -/
def Obligations.CsrInstructionsComplete : Prop :=
  ∀ (h l : BitVec 6) (a d : BitVec 5) (s : State),
    let n := csrNumber h l
    (Issues (.csrr h d l) [] [.g d] s →
      let p := s.prepare [] [.g d]
      WritesG (.csrr h d l) s (if p.slot.readsFree n then p.bump else p) d (p.csrRead p.cur p.core.curSlot.val n) false (s.slot.pc + 4)) ∧
    (∀ (i : Instr) (f : Word → Word → Word),
      (i, f) ∈ [
        (.csrw h a d l, fun _ x => x),
        (.csrs h a d l, fun old x => (old &&& ~~~actionBits n) ||| x),
        (.csrc h a d l, fun old x => (old &&& ~~~actionBits n) &&& ~~~x)] →
      Issues i [.g a] [.g d] s → (a ≠ 0 ∨ i = .csrw h a d l) →
        let p := s.prepare [.g a] [.g d]
        let old := p.csrRead p.cur p.core.curSlot.val n
        ∀ q, p.csrWrite p.cur p.core.curSlot.val n (f old (p.readG a)) = some q → p.reloaded q p.cur p.core.curSlot.val n = false →
          exec i s = .next (((if p.slot.readsFree n then q.bump else q).putG d old 2 false).retire)) ∧
    (∀ (i : Instr), i ∈ [.csrs h 0 d l, .csrc h 0 d l] → Issues i [.g 0] [.g d] s →
      let p := s.prepare [.g 0] [.g d]
      WritesG i s (if p.slot.readsFree n then p.bump else p) d (p.csrRead p.cur p.core.curSlot.val n) false (s.slot.pc + 4))

/-- 19 tables 19.4 to 19.6, 01 table 1.4: COREID, STATUS, CORECFG and the trap banks read with their fields in their places. 19
tables 19.4 to 19.6, R351: a write of STATUS moves TE and EVT alone, of TEPC keeps bits 1:0 zero, of TCAUSE its fields alone, of
TVEC bits 7:0 zero; each leaves the rest of the slot and all memory alone. -/
def Obligations.CsrFields : Prop :=
  (∀ (s : State) (core slot : Nat),
     let sl := s.slotOf core slot
     let c := s.coreAt core
     bits (s.csrRead core slot 0x000) 0 11 = BitVec.ofNat 11 core ∧
     bits (s.csrRead core slot 0x000) 11 8 = (s.pkgAt (pkgOf core)).corePkg ∧
     bits (s.csrRead core slot 0x000) 22 5 = c.phys ∧
     s.csrRead core slot 0x002 = BitVec.ofNat 64 (s.cycle - (s.dieAt (dieOf core)).cycle0) ∧
     bits (s.csrRead core slot 0x004) 0 2 = BitVec.ofNat 2 sl.mode.code ∧
     bits (s.csrRead core slot 0x004) 2 2 = BitVec.ofNat 2 sl.td.val ∧
     (s.csrRead core slot 0x004).getLsbD 4 = sl.evt ∧ (s.csrRead core slot 0x004).getLsbD 5 = sl.te ∧ bits (s.csrRead core slot 0x004) 6 58 = 0 ∧
     (s.csrRead core slot 0x005).getLsbD 0 = c.schk ∧ (s.csrRead core slot 0x005).getLsbD 1 = c.fencetrap ∧
     bits (s.csrRead core slot 0x005) 2 2 = c.yard ∧ bits (s.csrRead core slot 0x005) 4 60 = 0 ∧
     s.csrRead core slot 0x100 = sl.bank0.tepc ∧ s.csrRead core slot 0x101 = sl.bank0.tcause ∧ s.csrRead core slot 0x102 = sl.bank0.tval ∧
     s.csrRead core slot 0x103 = sl.bank0.tstat ∧ s.csrRead core slot 0x104 = sl.bank0.tinfo ∧
     s.csrRead core slot 0x108 = sl.bank1.tepc ∧ s.csrRead core slot 0x109 = sl.bank1.tcause ∧ s.csrRead core slot 0x10A = sl.bank1.tval ∧
     s.csrRead core slot 0x10B = sl.bank1.tstat ∧ s.csrRead core slot 0x10C = sl.bank1.tinfo) ∧
  (∀ (s : State) (core slot : Nat) (v : Word), slot < 8 →
     let sl := s.slotOf core slot
     (∃ t, s.csrWrite core slot 0x004 v = some t ∧ t.slotOf core slot = { sl with te := v.getLsbD 5, evt := v.getLsbD 4 } ∧ t.mem = s.mem) ∧
     (∃ t, s.csrWrite core slot 0x100 v = some t ∧
       t.slotOf core slot = { sl with bank0 := { sl.bank0 with tepc := v &&& ~~~3#64 } } ∧ t.mem = s.mem) ∧
     (∃ t, s.csrWrite core slot 0x109 v = some t ∧ (t.slotOf core slot).bank0 = sl.bank0 ∧
       (∀ k, k < 64 → (t.slotOf core slot).bank1.tcause.getLsbD k = (v.getLsbD k && decide (k = 63 ∨ k ≤ 10))) ∧ t.mem = s.mem) ∧
     (∃ t, s.csrWrite core slot 0x103 v = some t ∧
       t.slotOf core slot = { sl with bank0 := { sl.bank0 with tstat := v } } ∧ t.mem = s.mem) ∧
     (∀ k, sl.ctx = some k → s.hasCtx core k = true →
       ∃ t, s.csrWrite core slot 0x110 v = some t ∧ (t.ctxOf core k).tvec = v &&& ~~~0xFF#64 ∧ t.slotOf core slot = sl ∧ t.mem = s.mem))

/-! ### Vector instructions (05) -/

/-- 05 R113, tables 5.1, 5.2: the lane operations write their value in each enabled lane. -/
def Obligations.VectorLaneResults : Prop :=
  ∀ (d a b : BitVec 5) (g e : BitVec 2) (sc : BitVec 3) (s : State) (i : Instr) (srcs : List (BitVec 5)) (w : Nat) (f : Nat → Nat → Nat → Nat),
    let n := 8 * 2 ^ e.toNat
    let m := fmtOf e
    let at0 (x : Nat → Nat → Nat) : Nat → Nat → Nat → Nat := fun p q _ => x p q
    (i, srcs, w, f) ∈ [
      (.vadd d a b g e sc, [a, b], n, at0 fun x y => x + y),
      (.vsub d a b g e sc, [a, b], n, at0 fun x y => x + (2 ^ n - y)),
      (.vmul d a b g e sc, [a, b], n, at0 fun x y => x * y),
      (.vmulh d a b g e sc, [a, b], n, at0 fun x y => ofSigned n (toSigned n x * toSigned n y / (2 ^ n : Nat))),
      (.vmin d a b g e sc, [a, b], n, at0 fun x y => if toSigned n x ≤ toSigned n y then x else y),
      (.vmax d a b g e sc, [a, b], n, at0 fun x y => if toSigned n x ≤ toSigned n y then y else x),
      (.vand d a b g e sc, [a, b], n, at0 Nat.land),
      (.vor d a b g e sc, [a, b], n, at0 Nat.lor),
      (.vxor d a b g e sc, [a, b], n, at0 Nat.xor),
      (.vsll d a b g e sc, [a, b], n, at0 fun x y => x * 2 ^ (y % n)),
      (.vsrl d a b g e sc, [a, b], n, at0 fun x y => x / 2 ^ (y % n)),
      (.vsra d a b g e sc, [a, b], n, at0 fun x y => ofSigned n (toSigned n x / (2 ^ (y % n) : Nat))),
      (.vfadd d a b g e sc, [a, b], m.width, at0 fun x y => roundF m .rne (addF .rne (decodeF m x) (decodeF m y))),
      (.vfsub d a b g e sc, [a, b], m.width, at0 fun x y => roundF m .rne (addF .rne (decodeF m x) (negF (decodeF m y)))),
      (.vfmul d a b g e sc, [a, b], m.width, at0 fun x y => roundF m .rne (mulF (decodeF m x) (decodeF m y))),
      (.vfmin d a b g e sc, [a, b], m.width, at0 (minmaxF m false)),
      (.vfmax d a b g e sc, [a, b], m.width, at0 (minmaxF m true)),
      (.vfdiv d a b g e sc, [a, b], m.width, at0 fun x y => divF m .rne (decodeF m x) (decodeF m y)),
      (.vfsqrt d a g e sc, [a], m.width, at0 fun x _ => sqrtF m .rne (decodeF m x)),
      (.vfrcp d a g e sc, [a], m.width, at0 fun x _ => approx m .rcp x),
      (.vfrsq d a g e sc, [a], m.width, at0 fun x _ => approx m .rsq x),
      (.vfexp2 d a g e sc, [a], m.width, at0 fun x _ => approx m .exp2 x),
      (.vflog2 d a g e sc, [a], m.width, at0 fun x _ => approx m .log2 x),
      (.vfma d a b g e sc, [a, b, d], m.width, fun x y z => roundF m .rne (addF .rne (mulF (decodeF m x) (decodeF m y)) (decodeF m z))),
      (.vfms d a b g e sc, [a, b, d], m.width, fun x y z => roundF m .rne (addF .rne (mulF (decodeF m x) (decodeF m y)) (negF (decodeF m z)))),
      (.vfnma d a b g e sc, [a, b, d], m.width, fun x y z => roundF m .rne (addF .rne (negF (mulF (decodeF m x) (decodeF m y))) (decodeF m z)))] →
    VIssues i g srcs [d] [] [] s →
      let p := sourcesOf s g srcs [d] [] []
      WritesV i s p.1 d w (p.1.enabled g) (fun k => f (lane (p.2.getD 0 0) w k) (lane (p.2.getD 1 0) w k) (lane (p.2.getD 2 0) w k)) sc.toNat

/-- 05 R118, R128 to R131, tables 5.6, 5.7: a compare writes the mask of the enabled lanes where its condition holds; permutes,
reductions, scans and the box test write their lanes. -/
def Obligations.VectorCompareAndPermuteResults : Prop :=
  (∀ (d a b : BitVec 5) (g e : BitVec 2) (sc : BitVec 3) (s : State) (i : Instr) (w : Nat) (cond : Nat → Nat → Bool),
     let n := 8 * 2 ^ e.toNat
     let m := fmtOf e
     (i, w, cond) ∈ [
       (.vcmpEq d a b g e sc, n, fun x y => decide (x = y)),
       (.vcmpNe d a b g e sc, n, fun x y => decide (x ≠ y)),
       (.vcmpLt d a b g e sc, n, fun x y => decide (toSigned n x < toSigned n y)),
       (.vcmpLe d a b g e sc, n, fun x y => decide (toSigned n x ≤ toSigned n y)),
       (.vcmpLtz d a b g e sc, n, fun x y => decide (x < y)),
       (.vcmpLez d a b g e sc, n, fun x y => decide (x ≤ y)),
       (.vcmpFeq d a b g e sc, m.width, fcond m 0),
       (.vcmpFlt d a b g e sc, m.width, fcond m 1),
       (.vcmpFle d a b g e sc, m.width, fcond m 2),
       (.vcmpFun d a b g e sc, m.width, fcond m 3)] →
     VIssues i g [a, b] [] [] [.g d] s →
       let p := sourcesOf s g [a, b] [] [] [.g d]
       ∃ x : Word, WritesG i s p.1 d x false (s.slot.pc + 4) ∧
         ∀ k, k < 64 → x.getLsbD k = (decide (k < 512 / w) && p.1.enabled g k && cond (lane (p.2.getD 0 0) w k) (lane (p.2.getD 1 0) w k))) ∧
  (∀ (d a b : BitVec 5) (g e : BitVec 2) (sc : BitVec 3) (s : State),
     let n := 8 * 2 ^ e.toNat
     let c := 512 / n
     (∀ (i : Instr) (srcs : List (BitVec 5)) (gr : List Reg) (w : Nat) (on : State → List Vec → Nat → Bool) (f : State → List Vec → Nat → Nat),
       (i, srcs, gr, w, on, f) ∈ [
         (.vbcast d a g e sc, [], [.g a], n, fun p _ => p.enabled g, fun p _ _ => (p.readG a).toNat % 2 ^ n),
         (.vins d a b g e sc, [b], [.g a], n, fun p xs k => k == (xs.getD 0 0).toNat % 64 % c && p.enabled g k, fun p _ _ => (p.readG a).toNat % 2 ^ n),
         (.vperm d a b g e sc, [a, b], [], n, fun p _ => p.enabled g, fun _ xs k => lane (xs.getD 0 0) n (lane (xs.getD 1 0) n k % c)),
         (.vshuf d a b g e sc, [a, b], [], n, fun p _ => p.enabled g, fun _ xs k => lane (xs.getD (k % 2) 0) n (k / 2)),
         (.vcompress d a g e sc, [a], [], n, fun _ _ _ => true, fun p xs k => (((List.range c).filter (p.enabled g)).map (lane (xs.getD 0 0) n)).getD k 0),
         (.vred d a b g e sc, [a], [], n, fun _ _ k => k == 0, fun p xs _ =>
           (treeReduce (combineLane b e) (Nat.log2 c) (p.presentLanes g n (xs.getD 0 0))).getD (reductionIdentity b e)),
         (.vscan d a b g e sc, [a], [], n, fun p _ => p.enabled g, fun p xs k =>
           ((scanFrom (combineLane b e) (Nat.log2 c) 1 (p.presentLanes g n (xs.getD 0 0))).getD k none).getD 0),
         (.vrbox d a b g sc, raySources a b, [], 32, fun p _ => p.enabled g, fun _ xs => boxTest xs)] →
       VIssues i g srcs [d] gr [] s →
         let p := sourcesOf s g srcs [d] gr []
         WritesV i s p.1 d w (on p.1 p.2) (f p.1 p.2) sc.toNat) ∧
     (VIssues (.vmovg d a b g e sc) 0 [a, b] [] [] [.g d] s →
       let p := sourcesOf s 0 [a, b] [] [] [.g d]
       WritesG (.vmovg d a b g e sc) s p.1 d (BitVec.ofInt 64 (toSigned n (lane (p.2.getD 0 0) n ((p.2.getD 1 0).toNat % 64 % c)))) false (s.slot.pc + 4)))

/-- 05 R119 to R123, R132: conversions write the converted elements in the lanes of their part, blocks are quantized and decoded, a
stochastic conversion advances the generator of the context, and results in several registers are delivered in order. -/
def Obligations.VectorConversionResults : Prop :=
  (∀ (d a q : BitVec 5) (g e : BitVec 2) (r sc : BitVec 3) (s : State),
     (VIssues (.vcvt d a q g e r sc) g [a] [d] [] [] s → r ≠ 4 →
       let p := sourcesOf s g [a] [d] [] []
       let k := cvtPair (e ++ q).toNat
       let ws := k.1.lane
       let wd := k.2.1.lane
       let c := 512 / max ws wd
       let from0 := if ws ≥ wd then 0 else k.2.2 * c
       let to0 := if ws ≤ wd then 0 else k.2.2 * c
       WritesV (.vcvt d a q g e r sc) s p.1 d wd (fun m => decide (to0 ≤ m) && decide (m < to0 + c) && p.1.enabled g (m - to0))
         (fun m => k.2.1.convert (cvtMode r) (k.1.value (lane (p.2.getD 0 0) ws (from0 + (m - to0))))) sc.toNat) ∧
     (VIssues (.vqmx d a q e sc) 0 (if e = 0 then [a] else pairRegs a) [d] [] [] s →
       let p := sourcesOf s 0 (if e = 0 then [a] else pairRegs a) [d] [] []
       let v (i : Nat) : FVal :=
         if e = 0 then decodeF .bf16 (lane (p.2.getD 0 0) 16 i) else decodeF .fp32 (lane (p.2.getD (i / 16) 0) 32 (i % 16))
       let code := q.toNat % 4
       let x := mxQuantize (q.toNat / 4) (code = 2) (if code = 0 then .rne else if code = 1 then .rz else .nsat) ((List.range 32).map v) p.1.ctx.gen
       WritesV (.vqmx d a q e sc) s (if code = 2 then p.1.modCtx fun c => { c with gen := x.2.2 } else p.1) d 512 (fun _ => true)
         (fun _ => (blockImage x.2.1 x.1).toNat) sc.toNat) ∧
     (VIssues (.vdqmx d a q e sc) 0 [a] [d] [] [] s → e = 0 →
       let p := sourcesOf s 0 [a] [d] [] []
       WritesV (.vdqmx d a q e sc) s p.1 d 16 (fun _ => true)
         (fun i => roundF .bf16 (roundMode (BitVec.ofNat 3 (q.toNat % 4))) (mxValue (q.toNat / 4) (lane (p.2.getD 0 0) 8 32) (lane (p.2.getD 0 0) 8 i))) sc.toNat) ∧
     (VIssues (.vxdec d a sc) 0 [a] [d] [] [] s →
       let p := sourcesOf s 0 [a] [d] [] []
       WritesV (.vxdec d a sc) s p.1 d 512 (fun _ => true)
         (fun _ => (match xe8Block 32 (p.2.getD 0 0).toNat with
           | some x => blockImage x.1 x.2
           | none => blockImage (List.replicate 32 0x7F) 0).toNat) sc.toNat)) ∧
  (∀ (d a b q : BitVec 5) (g e : BitVec 2) (sc : BitVec 3) (s : State),
     (e ≠ 0 → VIssues (.vdqmx d a q e sc) 0 [a] (pairRegs d) [] [] s →
       let p := sourcesOf s 0 [a] (pairRegs d) [] []
       let v (i : Nat) : Nat := roundF .fp32 (roundMode (BitVec.ofNat 3 (q.toNat % 4))) (mxValue (q.toNat / 4) (lane (p.2.getD 0 0) 8 32) (lane (p.2.getD 0 0) 8 i))
       let d2 := if isQ d then d else d + 1
       exec (.vdqmx d a q e sc) s =
         .next (((p.1.giveV d (vecOf 32 v) allBits 6).giveV d2 (vecOf 32 fun i => v (16 + i)) allBits 6).retire sc.toNat)) ∧
     (VIssues (.vrtri d a b g sc) g (raySources a b) [d, d + 1, d + 2, d + 3] [] [] s →
       let p := sourcesOf s g (raySources a b) [d, d + 1, d + 2, d + 3] [] []
       let m := laneBits 32 (p.1.enabled g)
       let hits := packLanes 1 ((List.range 16).map fun i => (p.1.enabled g i && (triTest p.2 i).isSome).toNat)
       exec (.vrtri d a b g sc) s = .next (((((p.1.giveV d (vecOf 32 fun i => ((triTest p.2 i).map fun h => h.1).getD 0x7F800000) m 10).giveV (d + 1)
         (vecOf 32 fun i => ((triTest p.2 i).map fun h => h.2.1).getD 0) m 10).giveV (d + 2)
         (vecOf 32 fun i => ((triTest p.2 i).map fun h => h.2.2).getD 0) m 10).giveV (d + 3) (vecOf 32 fun _ => hits) m 10).retire sc.toNat)) ∧
     (VIssues (.vcvt d a q g e 4 sc) g [a] [d] [] [] s →
       let p := sourcesOf s g [a] [d] [] []
       let k := cvtPair (e ++ q).toNat
       let ws := k.1.lane
       let wd := k.2.1.lane
       let c := 512 / max ws wd
       let js := (List.range c).filter (p.1.enabled g)
       let x := convertAll k.2.1 true (cvtMode 4) (js.map fun j => k.1.value (lane (p.2.getD 0 0) ws (if ws ≥ wd then j else k.2.2 * c + j))) p.1.ctx.gen
       let out := scatterLanes wd ((js.map fun j => if ws ≤ wd then j else k.2.2 * c + j).zip x.1)
       exec (.vcvt d a q g e 4 sc) s = .next (((p.1.modCtx fun c => { c with gen := x.2 }).giveV d out.1 out.2 4).retire sc.toNat)))

/-- 05 R124 to R127: a vector load whose lanes pass their checks and whose bytes can be read writes them to the enabled lanes; a bit
stream gives n-bit elements. -/
def Obligations.VectorLoadResults : Prop :=
  ∀ (d a b k : BitVec 5) (g e : BitVec 2) (sc : BitVec 3) (s : State) (i : Instr) (srcs : List (BitVec 5)) (gr : List Reg) (n : Nat)
    (pieces : State → List Vec → Nat → List Piece) (shift : Nat → Nat),
    let w := 8 * 2 ^ e.toNat
    (i, srcs, gr, n, pieces, shift) ∈ [
      (.vld d a g e sc, [], [.g a], w, fun p _ j => [elementPiece (p.readG a) (j * (w / 8) : Nat) (w / 8) j], fun _ => 0),
      (.vlds d a b g e sc, [], [.g a, .g b], w, fun p _ j => [elementPiece (p.readG a) ((j : Int) * (p.readG b).toInt) (w / 8) j], fun _ => 0),
      (.vgather d a b g e sc, [b], [.g a], w,
        fun p xs j => [elementPiece (p.readG a) (toSigned w (lane (xs.getD 0 0) w j) * (w / 8 : Nat)) (w / 8) j], fun _ => 0),
      (.vldb d a k g e sc, [], [.g a], k.toNat + 1, fun p _ => streamPieces (p.readG a) (k.toNat + 1), fun j => (k.toNat + 1) * j % 8)] →
    VIssues i g srcs [d] gr [] s → isQ d = false →
      let p := sourcesOf s g srcs [d] gr []
      ∀ q ps r vs,
        p.1.checkPieces .load n (p.1.readG a) ((p.1.lanesOn g w).flatMap (pieces p.1 p.2)) = (q, .ok ps) →
        ps.any (fun x => q.copyStall x.addr x.bytes) = false → q.readPieces ps = (r, .ok vs) → ps.any (fun x => x.target = .away) = false →
          ∃ lat, exec i s = .next ((r.putV d (vecOf w fun j => laneValue j ps vs / 2 ^ shift j % 2 ^ n) (laneBits w (p.1.enabled g)) lat false).retire sc.toNat)

/-- 02 R36, R40: a delivered vector result changes the enabled lanes of its register, once it has landed, and nothing else but the
slot's issue. -/
def Obligations.VectorDeliveryFrame : Prop :=
  ∀ (p : State) (d : BitVec 5) (w : Nat) (f : Nat → Nat) (on : Nat → Bool) (lat stall : Nat) (fixed : Bool),
    d.toNat < 24 → w ∈ [8, 16, 32, 64] →
      let t := (p.putV d (vecOf w f) (laneBits w on) lat fixed).retire stall
      OnlyWrites [.v d] p t ∧ t.slot.pc = p.slot.pc + 4 ∧
        ∀ k, k < 512 / w → lane (landedV t d) w k = if on k then f k % 2 ^ w else lane (landedV p d) w k

/-- 05 R126, table 5.5: a vector store whose enabled lanes pass their checks and lie in local stores of the core writes them there in lane order. A
vector or bit-stream store to space 0 stores sector by sector once its task's earlier stores are performed (07 R153); 64 whole aligned bytes of a
remote store are one request (07 table 7.8); bits that share a byte with kept ones of a local store are read in one access and written in a later one,
and all other pieces are stored in lane order. The split into accesses is the model's reading (assumption log 39). -/
def Obligations.VectorStores : Prop :=
  (∀ (d a b : BitVec 5) (g e : BitVec 2) (sc : BitVec 3) (s : State) (i : Instr) (srcs : List (BitVec 5)) (gr : List Reg)
     (delta : State → List Vec → Nat → Int) (data : List Vec → Vec),
     let w := 8 * 2 ^ e.toNat
     (i, srcs, gr, delta, data) ∈ [
       (.vst d a g e sc, [d], [.g a], fun _ _ j => ((j * (w / 8) : Nat) : Int), fun xs => xs.getD 0 0),
       (.vsts d a b g e sc, [d], [.g a, .g b], fun p _ j => (j : Int) * (p.readG b).toInt, fun xs => xs.getD 0 0),
       (.vscatter d a b g e sc, [b, d], [.g a], fun _ xs j => toSigned w (lane (xs.getD 0 0) w j) * (w / 8 : Nat), fun xs => xs.getD 1 0)] →
     VIssues i g srcs [] gr [] s →
       let p := sourcesOf s g srcs [] gr []
       ∀ (addr : Nat → Word) (code off : Nat → Nat),
         (∀ j ∈ p.1.lanesOn g w, addOffset (p.1.readG a) (delta p.1 p.2 j) = some (addr j) ∧ formatAgrees (addr j) w = true ∧
           spaceOf (addr j) < 5 ∧ LocalAccess p.1 (addr j) (w / 8) (code j) (off j)) →
           ∀ u, (p.1.lanesOn g w).foldlM (fun q j => q.ownWrite (addr j) (code j) (off j) (w / 8) (lane (data p.2) w j) (2 ^ (w / 8) - 1) 0) p.1 = some u →
             exec i s = .next (u.retire sc.toNat)) ∧
  (∀ (d a b k : BitVec 5) (g e : BitVec 2) (sc : BitVec 3) (s : State) (i : Instr) (srcs : List (BitVec 5)) (gr : List Reg) (n : Nat)
     (data : List Vec → Vec) (pieces : State → List Vec → Nat → List Piece) (shift : Nat → Nat),
     let w := 8 * 2 ^ e.toNat
     (i, srcs, gr, n, data, pieces, shift) ∈ [
       (.vst d a g e sc, [d], [.g a], w, fun xs => xs.getD 0 0, fun p _ j => [elementPiece (p.readG a) (j * (w / 8) : Nat) (w / 8) j], fun _ => 0),
       (.vsts d a b g e sc, [d], [.g a, .g b], w, fun xs => xs.getD 0 0,
         fun p _ j => [elementPiece (p.readG a) ((j : Int) * (p.readG b).toInt) (w / 8) j], fun _ => 0),
       (.vscatter d a b g e sc, [b, d], [.g a], w, fun xs => xs.getD 1 0,
         fun p xs j => [elementPiece (p.readG a) (toSigned w (lane (xs.getD 0 0) w j) * (w / 8 : Nat)) (w / 8) j], fun _ => 0),
       (.vstb d a k g e sc, [d], [.g a], k.toNat + 1, fun xs => xs.getD 0 0, fun p _ => streamPieces (p.readG a) (k.toNat + 1),
         fun j => (k.toNat + 1) * j % 8)] →
     VIssues i g srcs [] gr [] s →
       let p := sourcesOf s g srcs [] gr []
       ∀ q ps, p.1.checkPieces .store n (p.1.readG a) ((p.1.lanesOn g w).flatMap (pieces p.1 p.2)) = (q, .ok ps) →
         ps.any (fun x => q.copyStall x.addr x.bytes) = false →
         let l := (p.1.lanesOn g w).flatMap fun j =>
           (splitPieces (lane (data p.2) w j % 2 ^ n) (shift j) n (ps.filter fun x => x.lane == j)).foldr joinPiece []
         (∀ x ∈ l, q.spoiled x = false) →
           let atMem := spaceOf (p.1.readG a) = 0
           let whole := wholeRemote w n ps
           let split := l.any fun x => x.partly && x.own
           let room := q.core.roomFor (l.countP fun x => x.at_.target = .away)
           (atMem → q.slot.half = none → q.storesDone q.cur q.core.curSlot.val = true → ∀ u, q.putSectors 0 (q.sectorsOf l) = (u, none) →
             exec i s = .next (u.retire sc.toNat)) ∧
           (¬atMem → whole = true → q.core.roomFor 1 = true →
             exec i s = .next ((q.addRequest (ps.headD ⟨0, 0, 0, .away⟩).addr 0 (.store 64 (data p.2).toNat (2 ^ 64 - 1)) .posted).retire sc.toNat)) ∧
           (¬atMem → whole = false → room = true → split = true → q.slot.half = none → exec i s = .next (q.betweenWords (q.readKept l))) ∧
           (¬atMem → whole = false → room = true → (split = true → q.slot.half ≠ none) →
             ∀ u, q.putPieces (q.slot.half.getD (q.readKept l)) [] l = some u → exec i s = .next (u.retire sc.toNat)))

/-! ### Fork and join (11) -/

/-- 11 R219, R220 to R224: PUBLISH stages a tile, TSELF writes its value, and SPAWN, RETS, SYNC and TEND complete: a spawn is pushed
and runs the child, a return into the slot's own frame goes on inline, a sync without a join handle passes, and the end of a task
frees its slot. -/
def Obligations.ForkAndJoinComplete : Prop :=
  ∀ (d a b : BitVec 5) (n : BitVec 2) (sc : BitVec 3) (s : State),
    (Issues (.publish a b n sc) [.g a, .g b] [] s →
      let p := s.prepare [.g a, .g b] []
      let x := p.readG a
      let len := (p.readG b).toNat
      let staged (v : Nat) := exec (.publish a b n sc) s =
        .next ((p.modSlot fun sl => { sl with stage := sl.stage.set n.toNat (BitVec.ofNat 64 v) n.isLt }).retire sc.toNat)
      (len = 0 → staged 0) ∧
      (1 ≤ spaceOf x → spaceOf x ≤ 3 → descriptorOk p.hasFeature x = true → x.toNat % 64 = 0 → len % 64 = 0 → 0 < len →
        offsetOf x + len ≤ (p.ctx.window (spaceOf x)).size →
          staged (spaceOf x * 2 ^ 62 + len / 64 % 2 ^ 12 * 2 ^ 11 + offsetOf x / 64 % 2 ^ 11))) ∧
    (Issues (.tself d sc) [] [.g d] s →
      let p := s.prepare [] [.g d]
      WritesG (.tself d sc) s p d (BitVec.ofNat 64 (p.slot.kind.toNat * 2 ^ 56 + p.slot.origin.toNat)) false (s.slot.pc + 4)) ∧
    (Issues (.spawn d a b sc) ([.g a, .g b] ++ savedRegs.map .g) [.g d, .g 1] s →
      let p := s.prepare ([.g a, .g b] ++ savedRegs.map .g) [.g d, .g 1]
      ∀ q pa table r f, p.frameCheck .store (p.readG a) = (q, .ok pa table) → q.storeReady pa = true →
        (p.readG b).toNat % 4 = 0 → (p.readG b).toNat < 2 ^ 48 → q.frameWords (p.readG a) pa table [(3, 1)] 0 = (r, .ok f) →
          let st := r.core.deque.spawnStatus r.core.curSlot.val
          ∃ t, exec (.spawn d a b sc) s = .next t ∧ t.slot.pc = p.readG b ∧ t.slot.run = .ready ∧
            t.slot.stage = Vector.replicate 4 0 ∧
            t.core.deque = (if st = 0 then r.core.deque.push r.core.curSlot.val (p.readG a) else r.core.deque) ∧
            landedG t 1 = (if st = 0 then p.readG a else p.readG a + 1) ∧ (d ≠ 0 → d ≠ 1 → landedG t d = BitVec.ofNat 64 st)) ∧
    (Issues (.rets d sc) [.g 1] ([.g d, .g 1] ++ savedRegs.map .g) s →
      let p := s.prepare [.g 1] ([.g d, .g 1] ++ savedRegs.map .g)
      let own := p.readG 1
      own.getLsbD 0 = false →
      ∀ q pa table u0 f0 r f1, p.frameCheck .load own = (q, .ok pa table) → q.storeReady pa = true →
        q.core.deque.owner = some q.core.curSlot.val → q.core.deque.top < q.core.deque.bot →
        AMap.getD q.core.deque.entries (q.core.deque.bot - 1) 0 = own →
        q.frameWords own pa table [(0, 1)] 0 = (u0, .ok f0) → frameWord f0 0 % 4 = 0 → frameWord f0 0 < 2 ^ 48 →
        u0.frameWords own pa table [(3, 1), (8, 8)] 0 = (r, .ok f1) →
          ∃ t, exec (.rets d sc) s = .next t ∧ t.slot.pc = BitVec.ofNat 64 (frameWord f0 0) ∧ t.slot.run = .ready ∧
            t.core.deque.bot = r.core.deque.bot - 1 ∧ landedG t d = 0 ∧
            (d ≠ 1 → landedG t 1 = own) ∧
            (∀ k, k < 8 → savedRegs.getD k 0 ≠ d → landedG t (savedRegs.getD k 0) = BitVec.ofNat 64 (frameWord f1 (8 + k)))) ∧
    (Issues (.sync a sc) ([.g a] ++ savedRegs.map .g) [] s →
      let p := s.prepare ([.g a] ++ savedRegs.map .g) []
      let at0 := p.readG a
      ∀ q pa table u0 f r h, p.frameCheck .store at0 = (q, .ok pa table) → q.storeReady pa = true → q.frameWords at0 pa table [(3, 1)] 0 = (u0, .ok f) →
        frameWord f 3 % 8 ≠ 1 → frameWord f 3 % 8 ≠ 3 → frameWord f 3 % 8 ≠ 5 → u0.frameWords at0 pa table [(2, 1)] 0 = (r, .ok h) →
        frameWord h 2 / 2 ^ 63 = 0 →
          ∃ t, exec (.sync a sc) s = .next t ∧ t.slot.pc = s.slot.pc + 4 ∧ t.slot.run = .ready ∧ t.slot.stage = Vector.replicate 4 0 ∧
            ∀ k, landedG t k = landedG p k) ∧
    (Issues (.tend sc) [] [] s →
      let p := s.prepare [] []
      (p.core.deque.owner ≠ some p.core.curSlot.val ∨ p.core.deque.bot = 0) → p.endReady p.cur p.core.curSlot.val = true →
        ∃ t, exec (.tend sc) s = .next t ∧ t.slot.run = .free ∧ t.slot.kind = 0 ∧ ∀ k, landedG t k = 0)

/-- 11 R226 to R228, R230: a steal goes from the probe of a victim over the taking of the frame at TOP, its count at the join table,
and the frame's transfer to the start of the continuation on the thief; a suspended frame resumes in its slot. -/
def Obligations.StealsComplete : Prop :=
  ∀ (core slot : Nat) (s : State),
    let c := s.coreAt core
    let e := c.steal
    (e.phase = .idle → e.blocked = 0 → c.active = true → s.seekers core ≠ [] →
      (∀ v k rest, (s.sweep core).drop e.pos = (v, k) :: rest →
        ∃ t, exec (.stealProbe core) s = .next t ∧ (t.coreAt core).steal = { e with phase := .probing v k } ∧ t.mem = s.mem) ∧
      ((s.sweep core).length ≤ e.pos →
        ∃ t, exec (.stealProbe core) s = .next t ∧ t.mem = s.mem ∧
          (t.coreAt core).steal = { e with pos := 0, phase := .idle, blocked := s.cycle + e.wait, wait := min (2 * e.wait) 4096 })) ∧
    (0 < e.blocked → e.blocked ≤ s.cycle →
      ∃ t, exec (.stealBackoffExpiry core) s = .next t ∧ (t.coreAt core).steal = { e with blocked := 0 } ∧ t.mem = s.mem) ∧
    (∀ victim kern, e.phase = .probing victim kern → victim ≠ core →
      ((s.coreAt victim).deque.bot ≤ (s.coreAt victim).deque.top →
        ∃ t, exec (.probeArrival core) s = .next t ∧ (t.coreAt core).steal.phase = .empty ∧ t.mem = s.mem) ∧
      (∀ n u pa, (s.coreAt victim).deque.owner = some n → ((s.coreAt victim).slotAt n).ctx = some kern →
        (s.coreAt victim).deque.top < (s.coreAt victim).deque.bot → s.hasCtx victim kern = true → (s.ctxOf victim kern).state = .running →
        s.recordReady victim kern = true →
        let a := AMap.getD (s.coreAt victim).deque.entries (s.coreAt victim).deque.top 0
        s.frameXlat victim kern a = (u, .ok pa) → u.quietRange (bentOf victim) pa 128 = true →
          let f := (u.frameImage victim pa).2
          (u.frameImage victim pa).1.sameUnit kern victim core (frameWord f 3 / 16 % 8) = true →
          malformedTiles ((u.frameImage victim pa).1.ctxOf victim kern) f = 0 → ∀ bent i, joinHandle (pkgOf victim) (frameWord f 2) = some (bent, i) →
            ∃ t, exec (.probeArrival core) s = .next t ∧ (t.coreAt core).steal.phase = .taken victim kern a false bent i ∧
              (t.coreAt victim).deque.top = (s.coreAt victim).deque.top + 1)) ∧
    (e.phase = .empty →
      ∃ t, exec (.probeEmptyReply core) s = .next t ∧ t.mem = s.mem ∧ (t.coreAt core).steal.phase = .idle ∧
        (t.coreAt core).steal.pos = (if (s.sweep core).length ≤ e.pos + 1 then 0 else e.pos + 1)) ∧
    (∀ victim kern a fresh bent i u pa, e.phase = .taken victim kern a fresh bent i → s.frameXlat victim kern a = (u, .ok pa) →
      u.quietRange (bentOf victim) pa 128 = true → u.homeRoute (bentOf victim) pa ≠ .wait → u.route (dieOf victim) (dieOfBent bent) ≠ .wait →
        ∃ t, exec (.joinIncrement core) s = .next t ∧ (t.coreAt core).steal.phase = .counted victim kern a) ∧
    (∀ victim kern a u pa, e.phase = .counted victim kern a → s.frameXlat victim kern a = (u, .ok pa) →
      u.quietRange (bentOf victim) pa 128 = true → u.homeRoute (bentOf victim) pa ≠ .wait →
      let f := u.frameImage victim pa
      let scope := Nat.max (u.levelScope (pkgOf victim) kern (frameWord f.2 3 / 16 % 8)) (if bentOf core ≠ bentOf victim then 3 else 2)
      (∀ n, n < 8 → f.1.releaseReady victim n scope = true) → (f.1.coreAt victim).dirtyL1.all (f.1.quiet (bentOf victim)) = true →
        ∃ t image remote, exec (.stealFrameSend core) s = .next t ∧ (t.coreAt core).steal.phase = .landed kern a image scope remote) ∧
    (∀ kern a image scope remote n, e.phase = .landed kern a image scope remote → c.freeSlot kern = some n →
      let resume := frameWord image.toNat 0
      resume % 4 = 0 → resume < 2 ^ 48 →
        ∃ t, exec (.stolenTaskStart core) s = .next t ∧ (t.coreAt core).steal.phase = .idle ∧
          let u := t.slotOf core n
          u.run = .ready ∧ u.kind = 1 ∧ u.pc = BitVec.ofNat 64 resume ∧ u.mode = .task ∧ u.readG 1 = a ∧
            ∀ k, k < 8 → u.readG (savedRegs.getD k 0) = BitVec.ofNat 64 (frameWord image.toNat (8 + k))) ∧
    (∀ a pa kern, slot < 8 → (s.slotOf core slot).run = .resuming a pa → (s.slotOf core slot).ctx = some kern →
      s.quietRange (bentOf core) pa 128 = true → s.homeRoute (bentOf core) pa ≠ .wait →
      let q := s.frameImage core pa
      let p := (q.1.acquire core (q.1.levelScope (pkgOf core) kern (frameWord q.2 3 / 16 % 8))).frameImage core pa
      malformedTiles (p.1.ctxOf core kern) p.2 = 0 → frameWord p.2 0 % 4 = 0 → frameWord p.2 0 < 2 ^ 48 →
        ∃ t, exec (.continuationResume core slot) s = .next t ∧
          let u := t.slotOf core slot
          u.run = .ready ∧ u.kind = 2 ∧ u.pc = BitVec.ofNat 64 (frameWord p.2 0) ∧ u.mode = .task ∧ u.readG 1 = a)

/-! ### Queue registers and counters (13) -/

/-- 13 R240 to R242, R256: QBIND binds a queue register, QPUSH and QPOP move 8 bytes through a ring or hand out and take back its
stages, SQINC adds to a counter up to 2^64 - 1 and returns the sum, SQREAD reads it. 13 R248, R249, R253, R254, R257, R258: ENQ
opens a queue or appends a record and returns the number it took; SPAWNB puts a record into the bin of its key and returns the bin's
count; BINFLUSH makes every bin of its set due; TASKQ takes a place in the wait list; DONATE sends its record and waits for the
code. -/
def Obligations.QueueRegistersAndQueues : Prop :=
  (∀ (d a b : BitVec 5) (q : BitVec 3) (sc : BitVec 3) (s : State),
     (Issues (.qbind q a sc) [.g a] [] s →
       let p := s.prepare [.g a] []
       let w : Binding := { word := p.readG a }
       bindReserved (p.readG a) = false → (w.kind = 1 → w.base + w.slots * 2 ^ w.sz ≤ (p.ctx.window w.store).size) →
       ((p.binding q.toNat).bound = false ∨ p.ringBusy p.cur p.kern (p.binding q.toNat) = false) →
         exec (.qbind q a sc) s = .next ((p.setBinding q.toNat
           { word := p.readG a, slot := p.slot.num, bound := decide (w.kind ≠ 0), free := if w.kind = 1 then w.slots else 0 }).retire sc.toNat)) ∧
     (Issues (.qpush q a sc) [.g a] [] s →
       let p := s.prepare [.g a] []
       let r := p.binding q.toNat
       r.bound = true → r.kind = 1 →
         (r.stage = false → r.sz = 3 → r.closing = false → r.free ≠ 0 →
           exec (.qpush q a sc) s = .next ((p.pushQ q.toNat ((p.readG a).setWidth 512)).retire sc.toNat)) ∧
         (r.stage = true → r.held ≠ 0 → r.pointer ((r.head + r.slots - r.held) % r.slots) = p.readG a →
           ∃ t, exec (.qpush q a sc) s = .next t ∧ t.slot.pc = s.slot.pc + 4 ∧ t.slot.run = .ready ∧ t.mem = p.mem ∧
             ∀ k, landedG t k = landedG p k)) ∧
     (Issues (.qpop d q sc) [] [.g d] s →
       let p := s.prepare [] [.g d]
       let r := p.binding q.toNat
       r.bound = true → r.kind = 1 → r.closing = false → r.fill ≠ 0 →
         (r.stage = false → r.sz = 3 → p.popPoisoned q.toNat = false →
           WritesG (.qpop d q sc) s (p.popQ q.toNat).1 d ((p.popQ q.toNat).2.setWidth 64) false (s.slot.pc + 4)) ∧
         (r.stage = true →
           WritesG (.qpop d q sc) s
             ((p.setBinding q.toNat { r with fill := r.fill - 1, held := r.held + 1, head := (r.head + 1) % r.slots }).notify p.cur p.kern r) d
             (r.pointer r.head) false (s.slot.pc + 4))) ∧
     (Issues (.sqinc d a b sc) [.g a, .g b] [.g d] s →
       let p := s.prepare [.g a, .g b] [.g d]
       let h := p.readG a
       let pkg := pkgOf p.cur
       p.seqRefused pkg p.kern h = false → p.route (dieOf p.cur) (dieOfBent (seqBent pkg h)) = .go → (p.seqAddress pkg p.kern h).isSome = true →
       p.releaseReady p.cur p.core.curSlot.val (seqScope h) = true →
         let r := p.release p.cur (seqScope h)
         let v := r.seqValue pkg r.kern h
         (r.seqAddress pkg r.kern h).isSome = true → Memory.wf (r.bentAt (seqBent pkg h)).sram = true →
         ∃ t, exec (.sqinc d a b sc) s = .next t ∧ t.slot.pc = s.slot.pc + 4 ∧ t.slot.run = .ready ∧
           t.seqValue pkg t.kern h = min (v + (p.readG b).toNat) (2 ^ 64 - 1) ∧
           (d ≠ 0 → landedG t d = BitVec.ofNat 64 (min (v + (p.readG b).toNat) (2 ^ 64 - 1)))) ∧
     (Issues (.sqread d a sc) [.g a] [.g d] s →
       let p := s.prepare [.g a] [.g d]
       let h := p.readG a
       let pkg := pkgOf p.cur
       p.seqRefused pkg p.kern h = false → p.route (dieOf p.cur) (dieOfBent (seqBent pkg h)) = .go → (p.seqAddress pkg p.kern h).isSome = true →
         exec (.sqread d a sc) s =
           .next (((p.putG d (BitVec.ofNat 64 (p.seqValue pkg p.kern h)) 12 false).acquire p.cur (seqScope h)).retire sc.toNat))) ∧
  (∀ (d a b : BitVec 5) (sc : BitVec 3) (s : State),
     let ends (t : State) (x : Nat) : Prop := t.slot.pc = s.slot.pc + 4 ∧ t.slot.run = .ready ∧ (d ≠ 0 → landedG t d = BitVec.ofNat 64 x)
     (Issues (.enq d a b sc) [.g a, .g b] [.g d] s →
       let p := s.prepare [.g a, .g b] [.g d]
       ∀ u n, NamesQueue p (p.readG a) false u n →
         (b = 0 → ∃ t, exec (.enq d a b sc) s = .next t ∧ ends t (queueHandle n.bent n.entryno n.q.cfg.toNat)) ∧
         (∀ r v q ps, b ≠ 0 → u.readBlock (u.readG b) n.q.size 16 true = (r, .ok v) → r.releaseReady r.cur r.core.curSlot.val n.q.scope = true →
           n.q.full = false →
           (r.release r.cur n.q.scope).engineRange n.bent ((r.release r.cur n.q.scope).queueSpace n.bent n.q) .store
             (n.q.slotAddress n.q.enqcnt) n.q.size 2 = (q, .ok ps) →
             ∃ t, exec (.enq d a b sc) s = .next t ∧ ends t n.q.enqcnt ∧
               (AMap.find? (t.bentAt n.bent).queues n.entryno).map OpenQueue.enqcnt = some (n.q.enqcnt + 1))) ∧
     (Issues (.spawnb d a b sc) [.g a, .g b] [.g d] s →
       let p := s.prepare [.g a, .g b] [.g d]
       ∀ u n r v, NamesQueue p (p.readG a) true u n → u.readBlock (u.readG b) n.q.size 16 true = (r, .ok v) →
         ((r.bentAt n.bent).binsOf n.q.kern).isEmpty = false → r.releaseReady r.cur r.core.curSlot.val n.q.scope = true →
         let w := r.release r.cur n.q.scope
         let mine (i : Nat) : Bool := match AMap.find? (w.bentAt n.bent).bins i with
           | some x => x.set = n.entryno && x.key = v % 2 ^ 16
           | none => false
         (∀ i x, ((w.bentAt n.bent).binsOf n.q.kern).find? mine = some i → AMap.find? (w.bentAt n.bent).bins i = some x → x.recs.length < 16 →
           ∃ t, exec (.spawnb d a b sc) s = .next t ∧ ends t (x.recs.length + 1)) ∧
         (∀ i, ((w.bentAt n.bent).binsOf n.q.kern).find? mine = none →
           ((w.bentAt n.bent).binsOf n.q.kern).find? (fun j => !AMap.has (w.bentAt n.bent).bins j) = some i →
             ∃ t, exec (.spawnb d a b sc) s = .next t ∧ ends t 1)) ∧
     (Issues (.binflush a sc) [.g a] [] s →
       let p := s.prepare [.g a] []
       ∀ u n, NamesQueue p (p.readG a) true u n →
         ∃ t, exec (.binflush a sc) s = .next t ∧ t.slot.pc = s.slot.pc + 4 ∧ t.slot.run = .ready ∧
           ∀ k x, AMap.find? (t.bentAt n.bent).bins k = some x → x.set = n.entryno → x.kern = n.q.kern → x.due = true) ∧
     (Issues (.taskq d a b sc) [.g a, .g b] [.g d] s →
       let p := s.prepare [.g a, .g b] [.g d]
       ∀ u0 u v y w n r x, p.readBlock (p.readG a) 64 64 false = (u0, .ok v) → u0.readBlock (p.readG b) 64 64 false = (u, .ok y) →
         (∀ c ∈ taskPairs v, u.seqRefused (pkgOf p.cur) u.kern c.1 = false ∧ (u.seqAddress (pkgOf p.cur) u.kern c.1).isSome = true) →
         NamesQueue u (p.readG b) false w n →
         w.readBlock (BitVec.ofNat 64 ((p.readG a).toNat + 64)) n.q.size 16 false = (r, .ok x) →
         r.releaseReady r.cur r.core.curSlot.val n.q.scope = true → (r.release r.cur n.q.scope).bent.waits.length < 256 →
           ∃ t, exec (.taskq d a b sc) s = .next t ∧ ends t 0 ∧
             t.bent.waits.length = (r.release r.cur n.q.scope).bent.waits.length + 1) ∧
     (Issues (.donate d a b sc) [.g a, .g b] [.g d] s →
       let p := s.prepare [.g a, .g b] [.g d]
       let n := (p.readG a).toNat
       let rsz := n / 2 ^ 32 % 32
       n / 2 ^ 63 = 1 → n / 2 ^ 48 % 2 ^ 15 = 0 → n / 2 ^ 37 % 8 = 0 → n / 2 ^ 19 % 2 ^ 13 = 0 → n / 2 ^ 8 % 16 = 2 → 1 ≤ rsz → rsz ≤ 16 →
       (n / 2 ^ 40 % 256 = pkgOf p.cur ∨ p.hasFeature 9 = true) →
         ∀ r v, p.readBlock (p.readG b) (rsz * 16) 16 true = (r, .ok v) → r.releaseReady r.cur r.core.curSlot.val 5 = true →
           let id := (r.release r.cur 5).core.nextReq
           ∃ t, exec (.donate d a b sc) s = .next t ∧ t.slot.run = .awaiting id ∧ t.slot.pc = s.slot.pc ∧
             t.core.donations = (r.release r.cur 5).core.donations ++
               [{ id := id, slot := t.core.curSlot.val, d := d, handle := p.readG a, record := recordBytes (rsz * 16) v }]))

/-! ### Node queues (13) -/

/-- 13 R250, R251, R253, R257, R258: a queue whose oldest record has waited its timeout is cut into a batch; a batch becomes a task
on the core chosen; due bins launch; a ready wait is appended, those of one queue that became ready on one increment, or when they
were added, in the order of their TASKQs; a donated record is queued or refused with its code. -/
def Obligations.QueueEventsComplete : Prop :=
  ∀ (s : State) (bent idx core req : Nat),
    (∀ q, (s.bentAt bent).bins = [] → AMap.find? (s.bentAt bent).queues idx = some q → s.queueSaved q = false → q.kind ≠ 1 →
      q.arrivals ≠ [] → q.outstanding < 64 → q.arrivals.length < q.batch → q.arrivals.length < q.slots - q.cut % q.slots →
      q.arrivals.headD 0 + q.timeout ≤ s.cycle / 64 * 64 →
        ∃ t q1, exec (.timeoutExamination bent) s = .next t ∧ AMap.find? (t.bentAt bent).queues idx = some q1 ∧ q1.arrivals = [] ∧
          q1.cut = q.cut + q.arrivals.length ∧ q1.batches = q.batches ++ [{ first := q.cut, count := q.arrivals.length }]) ∧
    (∀ q x c n, AMap.find? (s.bentAt bent).queues idx = some q → s.nextDispatch bent q = some x →
      s.dispatchCore bent q = some (c, n) → q.entry.toNat % 4 = 0 → q.entry.toNat < 2 ^ 48 →
        ∃ t, exec (.batchDispatch bent idx) s = .next t ∧
          let u := t.slotOf c n
          u.run = .ready ∧ u.mode = .task ∧ u.pc = q.entry ∧ u.kind = (if q.kind = 1 then 4 else 3) ∧ u.batch = some (bent, idx) ∧
            u.readG 5 = BitVec.ofNat 64 x.count ∧ u.readG 6 = (if q.kind = 1 then BitVec.ofNat 64 x.key else q.desc)) ∧
    (∀ k t, (s.bentAt bent).binsOldestFirst (fun y => y.due) = [k] → s.launchBin bent k = some t →
      exec (.binLaunchOnBufferFree bent) s = .next t ∧ (t.bentAt bent).bins = AMap.erase (s.bentAt bent).bins k) ∧
    (∀ w home e q ps r, (s.bentAt bent).waits[idx]? = some w → w.failed = none → s.waitReady w = true → s.waitTurn bent idx w = true →
      s.findQueue w.queue = some (home, e, q) → q.full = false →
      s.queueSaved q = false → s.route (dieOfBent bent) (dieOfBent home) = .go →
      (s.waitAcquire home w).engineRange home ((s.waitAcquire home w).queueSpace home q) .store (q.slotAddress q.enqcnt) q.size 2 = (r, .ok ps) →
        ∃ t, exec (.taskqReadyAppend bent idx) s = .next t ∧ (t.bentAt bent).waits = (s.bentAt bent).waits.eraseIdx idx ∧
          (AMap.find? (t.bentAt home).queues e).map OpenQueue.enqcnt = some (q.enqcnt + 1)) ∧
    (∀ w x j, (s.bentAt bent).waits[idx]? = some w → (s.bentAt bent).waits[j]? = some x → j < idx → x.group = w.group → s.waitReady x = true →
      x.kern = w.kern → x.failed = none → x.queue = w.queue → exec (.taskqReadyAppend bent idx) s = .next s) ∧
    (∀ w i, (s.bentAt bent).waits[idx]? = some w → w.failed = some i → s.recordReady w.core w.kern = true →
      s.recordOutstanding w.core w.kern i = false →
        exec (.taskqAppendRetry bent idx) s = .next (s.appendWait bent idx { w with failed := none })) ∧
    (∀ x, (s.coreAt core).donations.find? (fun y => y.id == req) = some x → x.slot < 8 →
      s.route (dieOf core) (dieOfBent (handleBent x.handle.toNat)) = .go →
      let queue := AMap.find? (s.bentAt (handleBent x.handle.toNat)).queues (x.handle.toNat % 256)
      (queue = none →
        ∃ t, exec (.donationArrival core req) s = .next t ∧ (t.slotOf core x.slot).run = .ready ∧
          (x.d ≠ 0 → (t.slotOf core x.slot).readG x.d = 2 ^ 63 + 2)) ∧
      (∀ q r ps, queue = some q → s.queueSaved q = false → q.kind = 2 → q.size = x.record.length → q.full = false →
        s.engineRange (handleBent x.handle.toNat) (s.queueSpace (handleBent x.handle.toNat) q) .store (q.slotAddress q.enqcnt) q.size 2 = (r, .ok ps) →
          ∃ t, exec (.donationArrival core req) s = .next t ∧ (t.slotOf core x.slot).run = .ready ∧
            (x.d ≠ 0 → (t.slotOf core x.slot).readG x.d = 0)))

/-! ### Barriers (16) -/

/-- 16 R309 to R313: the barrier instructions on a handle that names a barrier within reach: BINIT creates, BARRIVE and BEXPECT send their events,
BWAIT and BTEST return the status word of table 16.6, BFREE empties the map entry. 16 R304, R307: an arrival, byte count or expectation change that
reaches an open barrier is counted; when the arrivals and the bytes are complete the phase ends, the counts restart and the waiters are woken; one
arrival or byte too many faults the barrier. The merging of arrivals and the order within one cycle are the model's reading (assumption log 145). -/
def Obligations.BarriersComplete : Prop :=
  (∀ (d a b : BitVec 5) (sc : BitVec 3) (s : State),
     (Issues (.binit d a b sc) [.g a, .g b] [.g d] s →
       let p := s.prepare [.g a, .g b] [.g d]
       let x := (p.readG a).toNat
       x < 2 ^ 4 → x < p.ctx.barriers →
         (AMap.getD p.ctx.bmap x 0 ≠ 0 → WritesG (.binit d a b sc) s p d 2 false (s.slot.pc + 4)) ∧
         (∀ bent i, AMap.getD p.ctx.bmap x 0 = 0 →
           let c := (p.readG b).toNat
           let scope := if c / 2 ^ 61 < 2 then 2 else c / 2 ^ 61
           c / 2 ^ 61 ≠ 7 → c / 2 ^ 32 % 4096 ≠ 0 → c / 2 ^ 44 % 512 = 0 → c % 2 ^ 32 = 0 → c / 2 ^ 53 % 256 = 0 →
           p.reservedBar p.cur p.kern x = some (bent, i) → (p.barInfo bent i).freed = false → p.route (dieOf p.cur) (dieOfBent bent) = .go →
           p.releaseReady p.cur p.core.curSlot.val scope = true →
             let e : BarEntry := ⟨0, c / 2 ^ 32 % 4096, 0, 0, 0, 0, scope, 1, false, 0⟩
             exec (.binit d a b sc) s = .next (((((p.release p.cur scope).putBar bent i e).modCtx fun y =>
               { y with bmap := AMap.set y.bmap x (barName bent i) }).putG d (barName bent i) 14 false).retire sc.toNat))) ∧
     (∀ h : BitVec 4, ∀ name : Word, name ≠ 0 →
       (Issues (.barrive a sc) [.g a] [] s →
         let p := s.prepare [.g a] []
         let scope := ((p.bentAt (nameBent name)).barEntry (nameIndex name)).scope
         p.readG a = h.setWidth 64 → AMap.getD p.ctx.bmap h.toNat 0 = name → p.releaseReady p.cur p.core.curSlot.val scope = true →
           exec (.barrive a sc) s =
             .next (((p.release p.cur scope).barSend name ((p.release p.cur scope).taskEvent 2 1)).retire sc.toNat)) ∧
       (Issues (.bexpect a b sc) [.g a, .g b] [] s →
         let p := s.prepare [.g a, .g b] []
         p.readG a = h.setWidth 64 → AMap.getD p.ctx.bmap h.toNat 0 = name →
           ∃ t, exec (.bexpect a b sc) s = .next t ∧ OnlyWrites [] { p with bents := t.bents } t ∧ t.slot.pc = s.slot.pc + 4 ∧ t.slot.run = .ready ∧
             (t.bentAt (nameBent name)).barIn = (p.bentAt (nameBent name)).barIn ++
               [{ kind := 0, index := nameIndex name, n := (p.readG b).toInt, source := p.cur, kern := p.kern, sent := p.cycle,
                  task := some (p.cur, p.core.curSlot.val) }]) ∧
       (Issues (.bfree a sc) [.g a] [] s →
         let p := s.prepare [.g a] []
         ∀ q, p.readG a = h.setWidth 64 → AMap.getD p.ctx.bmap h.toNat 0 = name → p.barFlush name = some q → q.slot.ctx.isSome = true →
           ∃ t, exec (.bfree a sc) s = .next t ∧ t.slot.pc = q.slot.pc + 4 ∧ t.slot.run = .ready ∧
             t.ctx.bmap = AMap.erase q.ctx.bmap h.toNat) ∧
       (∀ phase : BitVec 32,
         (Issues (.bwait d a sc) [.g a] [.g d] s →
           let p := s.prepare [.g a] [.g d]
           ∀ q, p.barFlush name = some q →
           let e := (q.bentAt (nameBent name)).barEntry (nameIndex name)
           p.readG a = phase ++ h.setWidth 32 → AMap.getD p.ctx.bmap h.toNat 0 = name → p.route (dieOf p.cur) (dieOfBent (nameBent name)) = .go →
           (q.barInfo (nameBent name) (nameIndex name)).freed = false → p.slot.bwait = none →
             (e.state = 3 → exec (.bwait d a sc) s = .next (q.trap Cause.barrierOvercount name (BitVec.ofNat 64 (e.fkind * 2 ^ 32 + e.phase)))) ∧
             (e.state ≠ 0 → e.state ≠ 3 → phaseDone e.phase phase.toNat = false → exec (.bwait d a sc) s = .next (q.modSlot fun sl => { sl with bwait := some { arg := p.readG a, name := name } }).wait) ∧
             (e.state ≠ 0 → e.state ≠ 3 → phaseDone e.phase phase.toNat = true → e.failedPhase phase.toNat = false →
               ∃ t, exec (.bwait d a sc) s = .next t ∧ t.slot.pc = q.slot.pc + 4 ∧ t.slot.run = .ready ∧
                 (d ≠ 0 → landedG t d = BitVec.ofNat 64 (2 ^ 63 + e.arrived * 2 ^ 32 + e.phase)))) ∧
         (Issues (.btest d a sc) [.g a] [.g d] s →
           let p := s.prepare [.g a] [.g d]
           ∀ q, p.barFlush name = some q →
           let e := (q.bentAt (nameBent name)).barEntry (nameIndex name)
           p.readG a = phase ++ h.setWidth 32 → AMap.getD p.ctx.bmap h.toNat 0 = name → p.route (dieOf p.cur) (dieOfBent (nameBent name)) = .go →
             ∃ t, exec (.btest d a sc) s = .next t ∧ t.slot.pc = q.slot.pc + 4 ∧ t.slot.run = .ready ∧
               (d ≠ 0 → landedG t d = e.status (q.barInfo (nameBent name) (nameIndex name)).freed phase.toNat))))) ∧
  (∀ (bent : Nat) (s : State),
     (∀ (i : Instr) (kind : Nat) (m : BarMsg) (rest : List BarMsg),
       (i, kind) ∈ [(.barrierExpect bent, 0), (.barrierByteCount bent, 1), (.barrierArrival bent, 2)] →
       (s.bentAt bent).barIn = m :: rest → m.kind = kind → (s.barInfo bent m.index).check = none →
       s.route (dieOf m.source) (dieOfBent bent) = .go → (s.barInfo bent m.index).freed = false →
       s.barInTurn bent m.index kind m.source = true → s.barMerged bent 0 m = [(0, m)] → m.next = [] →
       (kind = 1 → m.n ≠ 0) → (kind = 2 → m.n = 1) →
       let e := (s.bentAt bent).barEntry m.index
       e.state = 1 ∨ e.state = 2 → Memory.wf (s.bentAt bent).sram = true →
         let expb : Int := if kind = 0 then e.expb + m.n else e.expb
         let cntb := if kind = 1 then e.cntb + m.n.toNat else e.cntb
         let arrived := if kind = 2 then e.arrived + 1 else e.arrived
         ((kind ≠ 2 ∨ e.arrived ≠ e.arrivals) → 0 ≤ expb → expb < 2 ^ 28 → cntb < 2 ^ 28 →
           (arrived ≠ e.arrivals ∨ (cntb : Int) < expb →
             ∃ t, exec i s = .next t ∧ (t.bentAt bent).barIn = rest ∧
               (t.bentAt bent).barEntry m.index = { e with state := 2, expb := expb.toNat, cntb := cntb, arrived := arrived % 4096 }) ∧
           (arrived = e.arrivals → (cntb : Int) = expb → e.mon = 0 →
             ∃ t, exec i s = .next t ∧ (t.bentAt bent).barIn = rest ∧
               (t.bentAt bent).barEntry m.index =
                 { e with state := 2, oop := false, phase := (e.phase + 1) % 2 ^ 32, arrived := 0, expb := 0, cntb := 0 }) ∧
           (arrived = e.arrivals → expb < (cntb : Int) →
             ∃ t, exec i s = .next t ∧ (t.bentAt bent).barIn = rest ∧
               (t.bentAt bent).barEntry m.index =
                 { e with state := 3, fkind := 2, expb := expb.toNat, cntb := cntb, arrived := arrived })) ∧
         (kind = 2 → e.arrived = e.arrivals →
           ∃ t, exec i s = .next t ∧ (t.bentAt bent).barEntry m.index = { e with state := 3, fkind := if e.expb < e.cntb then 2 else 1 })) ∧
     (∀ (k n : Nat) (m : BarMsg) (l : List BarMsg), s.barFind bent (fun x => x.kind = 2) = some (k, m) →
       s.route (dieOf m.source) (dieOfBent bent) = .go → s.barMerged bent k m = l.mapIdx (fun i x => (i, x)) → (s.bentAt bent).barIn = l →
       (∀ x ∈ l, x.kind = 2 ∧ x.n = 1 ∧ x.next = []) → (s.barInfo bent m.index).freed = false → (s.barInfo bent m.index).check = none →
       n = l.length →
       let e := (s.bentAt bent).barEntry m.index
       e.state = 1 ∨ e.state = 2 → Memory.wf (s.bentAt bent).sram = true → e.arrived + n < e.arrivals →
         ∃ t, exec (.barrierArrival bent) s = .next t ∧ (t.bentAt bent).barIn = [] ∧
           (t.bentAt bent).barEntry m.index = { e with state := 2, arrived := e.arrived + n }) ∧
     (∀ name done rest, (s.bentAt bent).wakes = (name, done) :: rest →
       ∃ t, exec (.barrierWake bent) s = .next t ∧ (t.bentAt bent).wakes = rest ∧ t.mem = s.mem ∧
         ∀ core kern slot, bentOf core = bent → slot < 8 → (s.slotOf core slot).ctx = some kern →
           (∃ x, (kern, x) ∈ (s.coreAt core).ctxs ∧ ∃ h, (h, name) ∈ x.bmap) → (s.slotOf core slot).run = .waiting →
             (t.slotOf core slot).run = .ready ∧ (t.slotOf core slot).evt = ((s.slotOf core slot).evt || done)))

/-! ### Plumb monitors (18) -/

/-- 18 R338 to R344: MONSET claims and sets a monitor, MONARM arms it over its window, MONREF loads reference and bound, MONREAD
reads its words, MONCLR frees it; a collect moves the drift to the check, the verdict ends the phase with the drift against the
bound, and a supervisor's register write replaces a field. -/
def Obligations.MonitorsComplete : Prop :=
  ∀ (d a b : BitVec 5) (sc : BitVec 3) (m : BitVec 3) (s : State),
    let ends (t : State) : Prop := t.slot.pc = s.slot.pc + 4 ∧ t.slot.run = .ready
    (Issues (.monset d a b sc) [.g a, .g b] [.g d] s →
      let p := s.prepare [.g a, .g b] [.g d]
      let home := bentOf p.cur
      p.readG a = m.setWidth 64 →
        (b = 0 → (p.monitor home m.toNat).st = .free → WritesG (.monset d a b sc) s p d (BitVec.ofNat 64 (2 ^ 63 + 3)) false (s.slot.pc + 4)) ∧
        (∀ r v, b ≠ 0 → p.readBlock (p.readG b) 64 64 true = (r, .ok v) → (r.monitor home m.toNat).st = .free → v / 2 ^ (8 * 0x1A) = 0 →
          (monitorOf r.kern v).inRange r.hasFeature r.ctx = true →
            ∃ t, exec (.monset d a b sc) s = .next t ∧ ends t ∧ t.monitor home m.toNat = monitorOf r.kern v ∧
              (d ≠ 0 → landedG t d = 0))) ∧
    (∀ home y, (Issues (.monarm a b sc) [.g a, .g b] [] s →
        let p := s.prepare [.g a, .g b] []
        ∀ (h : BitVec 4) (name : Word), p.readG a = m.setWidth 64 → p.ctx.monBent m.toNat = some home → p.monitor home m.toNat = y →
          p.route (dieOf p.cur) (dieOfBent home) = .go → y.claimedBy p.kern = true → p.readG b = h.setWidth 64 →
          name ≠ 0 → AMap.getD p.ctx.bmap h.toNat 0 = name → p.route (dieOf p.cur) (dieOfBent (nameBent name)) = .go →
          let e := (p.bentAt (nameBent name)).barEntry (nameIndex name)
          y.st = .set → e.mon / 2 ^ m.toNat % 2 = 1 → inScope (home * 16) (nameBent name) e.scope = true → spaceOf y.win ≠ 0 →
            ∃ t, exec (.monarm a b sc) s = .next t ∧ ends t ∧
              t.monitor home m.toNat = { y with st := .armed, acc := 0, nan := false, ovf := false, barrier := name, ranges :=
                [⟨spaceOf y.win, p.cur, (p.ctx.window (spaceOf y.win)).base + offsetOf y.win, y.len.toNat, 0⟩] }) ∧
      (Issues (.monref a b sc) [.g a, .g b] [] s →
        let p := s.prepare [.g a, .g b] []
        ∀ r v, p.readG a = m.setWidth 64 → p.ctx.monBent m.toNat = some home → p.monitor home m.toNat = y →
          p.route (dieOf p.cur) (dieOfBent home) = .go → y.claimedBy p.kern = true →
          p.readBlock (p.readG b) 80 16 true = (r, .ok v) → 0 ≤ toSigned 320 (v / 2 ^ 320) →
            ∃ t, exec (.monref a b sc) s = .next t ∧ ends t ∧
              t.monitor home m.toNat = { r.monitor home m.toNat with ref := toSigned 320 (v % 2 ^ 320), bound := toSigned 320 (v / 2 ^ 320) }) ∧
      (Issues (.monread d a b sc) [.g a, .g b] [.g d] s →
        let p := s.prepare [.g a, .g b] [.g d]
        p.readG a = m.setWidth 64 → p.ctx.monBent m.toNat = some home → p.monitor home m.toNat = y →
          p.route (dieOf p.cur) (dieOfBent home) = .go → y.claimedBy p.kern = true → (p.readG b).toNat ≤ 12 →
            WritesG (.monread d a b sc) s p d (y.word home (p.readG b).toNat) false (s.slot.pc + 4)) ∧
      (Issues (.monclr a sc) [.g a] [] s →
        let p := s.prepare [.g a] []
        p.readG a = m.setWidth 64 → p.ctx.monBent m.toNat = some home → p.monitor home m.toNat = y →
          p.route (dieOf p.cur) (dieOfBent home) = .go → y.claimedBy p.kern = true →
            ∃ t, exec (.monclr a sc) s = .next t ∧ ends t ∧
              (t.bentAt home).monitors = AMap.erase (p.bentAt home).monitors m.toNat)) ∧
    (∀ bent index c, let x := s.monitor bent index
      (s.barInfo (nameBent x.barrier) (nameIndex x.barrier)).check = some c → x.st = .armed → (bent, index) ∈ c.waiting →
      s.route (dieOfBent (nameBent x.barrier)) (dieOfBent bent) = .go →
        ∃ t c1, exec (.monitorCollect bent index) s = .next t ∧
          t.monitor bent index = { x with acc := 0, nan := false, ovf := false } ∧
          (t.barInfo (nameBent x.barrier) (nameIndex x.barrier)).check = some c1 ∧ (bent, index) ∉ c1.waiting ∧
          c1.drift = c.drift + x.acc ∧ c1.ref = c.ref + x.ref ∧ c1.bound = c.bound + x.bound ∧ c1.bad = (c.bad || x.nan || x.ovf)) ∧
    (∀ bent index c, (s.barInfo bent index).check = some c → c.waiting = [] → Memory.wf (s.bentAt bent).sram = true →
      let e := (s.bentAt bent).barEntry index
      ∃ t, exec (.plumbVerdict bent index) s = .next t ∧ (t.barInfo bent index).check = none ∧
        (t.bentAt bent).barEntry index =
          { e with oop := c.bad || decide (c.bound < (c.drift - c.ref).natAbs), phase := (e.phase + 1) % 2 ^ 32, arrived := 0, expb := 0, cntb := 0 }) ∧
    (∀ core kern home (k : BitVec 3) (v : Word), (s.ctxOf core kern).monBent m.toNat = some home →
      let x := s.monitor home m.toNat
      x.st = .set → (x.withCsr k.toNat v).inRange (s.accepted core) (s.ctxOf core kern) = true →
        ∃ t, exec (.monitorCsrWrite core kern (BitVec.ofNat 12 (0x300 + 8 * m.toNat + k.toNat)) v) s = .next t ∧
          t.monitor home m.toNat = x.withCsr k.toNat v)

/-! ### Copies (15) -/

/-- 15 R285 to R289, R297, R298: shadow registers and shape records read back what was written, a launch that a check refuses
returns its code and one that passes takes the next sequence number of its channel and the end of its queue, CSTATUS, CWAIT and
CABORT return the status word of table 15.7. -/
def Obligations.CopyInstructionsComplete : Prop :=
  ∀ (d a b n x : BitVec 5) (q : BitVec 3) (sc : BitVec 3) (s : State),
    (Issues (.cput q a x) [.g a] [] s →
      let p := s.prepare [.g a] []
      ∃ t, exec (.cput q a x) s = .next t ∧ t.slot.pc = s.slot.pc + 4 ∧ t.slot.run = .ready ∧ t.mem = s.mem ∧ (∀ k, landedG t k = landedG p k) ∧
        t.slot.cx = AMap.set p.slot.cx (q.toNat * 16 + x.toNat) (p.readG a)) ∧
    (Issues (.cget q x d) [] [.g d] s →
      let p := s.prepare [] [.g d]
      WritesG (.cget q x d) s p d (AMap.getD p.slot.cx (q.toNat * 16 + x.toNat) 0) false (s.slot.pc + 4)) ∧
    (Issues (.shapeMk q a b sc) [.g a, .g b] [] s →
      let p := s.prepare [.g a, .g b] []
      ∀ r v, p.readBlock (p.readG a) 64 64 true = (r, .ok v) → r.slot.ctx.isSome = true →
        let y : ShapeRec := { image := BitVec.ofNat 512 v, base := p.readG b }
        (∀ o, shapeDescriptor p.hasFeature y = some o → exec (.shapeMk q a b sc) s = .next (r.trap 0x07 (p.readG a) (BitVec.ofNat 64 o))) ∧
        (∀ o, shapeDescriptor p.hasFeature y = none → shapeMisaligned y = some o →
          exec (.shapeMk q a b sc) s = .next (r.trap Cause.shapeMisalign (p.readG a) (BitVec.ofNat 64 o))) ∧
        (shapeDescriptor p.hasFeature y = none → shapeMisaligned y = none →
          ∃ t, exec (.shapeMk q a b sc) s = .next t ∧ t.slot.pc = s.slot.pc + 4 ∧ t.slot.run = .ready ∧ AMap.getD t.ctx.shapes q.toNat {} = y)) ∧
    (Issues (.shapeGet d q n sc) [] [.g d] s →
      let p := s.prepare [] [.g d]
      let y := AMap.getD p.ctx.shapes q.toNat {}
      WritesG (.shapeGet d q n sc) s p d (if n.toNat < 8 then bits y.image (64 * n.toNat) 64 else y.base) false (s.slot.pc + 4)) ∧
    (Issues (.claunch q d) [] [.g d] s →
      let p := s.prepare [] [.g d]
      let y := p.draft q.toNat
      (∀ code, p.launchError q.toNat y = some code → WritesG (.claunch q d) s p d (BitVec.ofNat 64 (2 ^ 63 + code)) false (s.slot.pc + 4)) ∧
      (p.launchError q.toNat y = none → (AMap.getD p.core.copyq q.toNat []).length < 16 →
        p.releaseReady p.cur p.core.curSlot.val 1 = true → p.slot.ctx.isSome = true →
          let seq := nextSeq (AMap.getD p.ctx.chans y.chan {}).seq
          ∃ t z, exec (.claunch q d) s = .next t ∧ t.slot.pc = s.slot.pc + 4 ∧ t.slot.run = .ready ∧
            (d ≠ 0 → landedG t d = xferId y.chan seq) ∧ (AMap.getD t.ctx.chans y.chan {}).seq = seq ∧
            AMap.getD t.core.copyq q.toNat [] = AMap.getD p.core.copyq q.toNat [] ++ [(p.kern, z)] ∧ z.seq = seq ∧ z.cx = y.cx)) ∧
    (Issues (.cstatus a d) [.g a] [.g d] s →
      let p := s.prepare [.g a] [.g d]
      WritesG (.cstatus a d) s p d (p.core.findCopy p.kern (p.readG a)).status false (s.slot.pc + 4)) ∧
    (Issues (.cwait a d) [.g a] [.g d] s →
      let p := s.prepare [.g a] [.g d]
      let id := (p.readG a).toNat
      (p.core.findCopy p.kern (p.readG a) = .none → WritesG (.cwait a d) s p d (2 ^ 61) false (s.slot.pc + 4)) ∧
      (p.core.findCopy p.kern (p.readG a) = .old → p.core.copySettled p.kern (id / 2 ^ 39 % 64) (id % 2 ^ 32) = true →
        WritesG (.cwait a d) s p d (2 ^ 59) false (s.slot.pc + 4)) ∧
      ∀ t, p.core.findCopy p.kern (p.readG a) = .named t →
        (p.core.copySettled p.kern t.chan t.seq.toNat = false → exec (.cwait a d) s = .next p.wait) ∧
        (p.core.copySettled p.kern t.chan t.seq.toNat = true →
          (t.st = .held → t.code ≠ 7 → t.code ≠ 8 → exec (.cwait a d) s = .next (p.trap 0x0E (t.code.setWidth 64) t.fault)) ∧
          (t.st ≠ .held → WritesG (.cwait a d) s p d t.status false (s.slot.pc + 4)))) ∧
    (Issues (.cabort a d) [.g a] [.g d] s →
      let p := s.prepare [.g a] [.g d]
      ∀ t, p.core.findCopy p.kern (p.readG a) = .named t →
        (t.open = false → WritesG (.cabort a d) s p d t.status false (s.slot.pc + 4)) ∧
        (t.open = true → ∃ u, exec (.cabort a d) s = .next u ∧ u.slot.pc = s.slot.pc + 4 ∧ u.slot.run = .ready ∧
          (d ≠ 0 → landedG u d = { t with st := .aborted }.status) ∧
          ∀ y ∈ u.core.channelCopies p.kern t.chan, y.seq ≠ t.seq))

/-- 15 R284, R290, R291, R296, R299, 19 R363: a command starts on its idle channel, a landing advances the watermark or completes
the copy, a fault stops it, and a supervisor's write of CWM or CSEQ resumes it, holds it or sets the last sequence number. -/
def Obligations.CopyEventsComplete : Prop :=
  ∀ (s : State) (core kern chan queue first count : Nat) (value : Word) (code : BitVec 8), s.hasCtx core kern = true →
    (∀ t rest, AMap.getD (s.coreAt core).copyq queue [] = (kern, t) :: rest → (s.chanOf core kern t.chan).cur = none →
      (s.chanOf core kern t.chan).held = false → (s.ctxOf core kern).state ≠ .saving → (s.coreAt core).mayBegin t.after = true →
      t.resumed = false → t.xe8 = false → t.nextByte 0 < t.elemBytes + t.scaleBytes → t.wmNext = none →
        ∃ u y, exec (.copyStart core queue) s = .next u ∧ AMap.getD (u.coreAt core).copyq queue [] = rest ∧
          (u.chanOf core kern t.chan).cur = some y ∧ y.st = .running ∧ y.seq = t.seq ∧ y.covered = t.nextByte 0 ∧
          (u.chanOf core kern t.chan).wm = BitVec.ofNat 48 t.lo ∧ (u.chanOf core kern t.chan).flt = false) ∧
    (∀ t, (s.chanOf core kern chan).cur = some t → t.st = .running → (s.ctxOf core kern).state ≠ .saving →
      (∀ u x g, t.isNew first count = true → s.landCopy core kern t (s.chanOf core kern chan).gen first count = some (u, .ok (x, g)) →
        x.covered = first → x.landed = [] → x.xe8 = false → x.chained = false → 0 < count → u.hasCtx core kern = true →
          ∃ v, exec (.copyLanding core kern chan first count) s = .next v ∧
            (x.nextByte (first + count) < x.elemBytes + x.scaleBytes →
              (v.chanOf core kern chan).cur =
                some { x with covered := x.nextByte (first + count), counted := max x.counted (x.nextByte (first + count)), landed := [] }) ∧
            (x.elemBytes + x.scaleBytes ≤ x.nextByte (first + count) → (v.chanOf core kern chan).cur = none)) ∧
      (∀ va k u, s.copyStop core kern t (s.chanOf core kern chan).gen = some (.fault va k) → s.recordReady core kern = true →
        s.appendRecord core kern [1, t.id, va, { s.chanOf core kern chan with flt := true }.cwm, 1, 0, 0, 0] = some u → u.hasCtx core kern = true →
          ∃ v, exec (.copyTranslationFault core kern chan) s = .next v ∧ (v.chanOf core kern chan).flt = true ∧
            (v.chanOf core kern chan).cur = some { t with st := .faulted, fault := va }) ∧
      (s.copyStop core kern t (s.chanOf core kern chan).gen = some (.error code.toNat value) →
        ∃ v, exec (.copyFault core kern chan code value) s = .next v ∧ (v.chanOf core kern chan).held = true ∧
          (v.chanOf core kern chan).code = code ∧ (v.chanOf core kern chan).cur = some { t with st := .held, code := code, fault := value } ∧
          v.mem = s.mem)) ∧
    (chan < (s.ctxOf core kern).chan →
      let waits := (AMap.getD (s.coreAt core).copyq (chan % 8) []).filter fun p => p.1 == kern && p.2.chan == chan
      let acts : Prop := waits = [] ∨ ∃ t, (s.chanOf core kern chan).cur = some t ∧ t.st = .faulted
      (acts → (s.chanOf core kern chan).flt = true → value.getLsbD 62 = false → value.getLsbD 61 = false →
        ∃ v, exec (.cwmResume core kern chan value) s = .next v ∧ (v.chanOf core kern chan).flt = false ∧
          (v.chanOf core kern chan).wm = value.setWidth 48 ∧
          ∀ t, (s.chanOf core kern chan).cur = some t → t.st = .faulted → ((v.chanOf core kern chan).cur.map Transfer.st) = some .running) ∧
      (acts → value.getLsbD 61 = true →
        ∃ v, exec (.cwmHold core kern chan value) s = .next v ∧ (v.chanOf core kern chan).held = true ∧
          ∀ t, (s.chanOf core kern chan).cur = some t → t.st = .faulted → ((v.chanOf core kern chan).cur.map Transfer.st) = some .held) ∧
      (∀ pre t, value.getLsbD 61 = true → AMap.getD (s.coreAt core).copyq (chan % 8) [] = pre ++ [(kern, t)] → t.chan = chan →
        (∀ x, (s.chanOf core kern chan).cur = some x → x.st ≠ .faulted) →
          ∃ v, exec (.cwmHold core kern chan value) s = .next v ∧ v.chanOf core kern chan = s.chanOf core kern chan ∧
            AMap.getD (v.coreAt core).copyq (chan % 8) [] = pre ++ [(kern, { t with wmNext := some value })]) ∧
      (∃ v, exec (.cseqWrite core kern chan value) s = .next v ∧ v.chanOf core kern chan = { s.chanOf core kern chan with seq := value.setWidth 32 }))

/-! ### Messages (17) -/

/-- 17 R319, R320, R323, R325 to R327, R330: SENDI and SENDB buffer a send of the task, QWAKE arms a wake, MSGDONE injects the
buffered sends of a handler, RPOST posts a receive, and RCANCEL withdraws one, each with its result. -/
def Obligations.MessageInstructionsComplete : Prop :=
  ∀ (d a b : BitVec 5) (sc : BitVec 3) (s : State),
    let ends (t : State) : Prop := t.slot.pc = s.slot.pc + 4 ∧ t.slot.run = .ready
    (Issues (.sendi a b sc) [.g a, .g b] [] s →
      let p := s.prepare [.g a, .g b] []
      let w := p.readG a
      ∀ r v, p.destRefused w false = false → p.destFeature w = false → b ≠ 0 →
        p.readBlock (p.readG b) (w.toNat / 2 ^ 56 % 64 + 1) 8 true = (r, .ok v) → r.slot.sends.length < 32 →
          ∃ t x, exec (.sendi a b sc) s = .next t ∧ ends t ∧ t.slot.sends = r.slot.sends ++ [x] ∧
            x.block = false ∧ x.dest = w ∧ x.payload = BitVec.ofNat 512 v) ∧
    (Issues (.sendb d a b sc) [.g a, .g b] [.g d] s →
      let p := s.prepare [.g a, .g b] [.g d]
      ∀ r v, p.readBlock (p.readG b) 32 32 true = (r, .ok v) →
        (∀ code, r.sendbError (p.readG a) v = some code →
          ∃ t, exec (.sendb d a b sc) s = .next t ∧ ends t ∧ t.slot.sends = r.slot.sends ∧ (d ≠ 0 → landedG t d = BitVec.ofNat 64 (2 ^ 63 + code))) ∧
        (r.sendbError (p.readG a) v = none → r.slot.sends.length < 32 →
          ∃ t x, exec (.sendb d a b sc) s = .next t ∧ ends t ∧ t.slot.sends = r.slot.sends ++ [x] ∧ x.block = true ∧ x.dest = p.readG a ∧
            x.sendId = nextSeq r.core.sendCtr ∧ t.core.sendCtr = nextSeq r.core.sendCtr ∧
            (d ≠ 0 → landedG t d = (nextSeq r.core.sendCtr).setWidth 64))) ∧
    (Issues (.qwake a b sc) [.g a, .g b] [] s →
      let p := s.prepare [.g a, .g b] []
      let n := (p.readG a).toNat
      n < 8 → p.slot.ctx.isSome = true → (p.binding n).bound = true → (p.binding n).kind = 2 ∨ (p.binding n).kind = 3 →
        ∃ t, exec (.qwake a b sc) s = .next t ∧ ends t ∧ t.binding n = { p.binding n with wake := p.readG b }) ∧
    (Issues (.msgdone sc) [] [] s →
      let p := s.prepare [] []
      (p.slot.handler = none → ∃ t, exec (.msgdone sc) s = .next t ∧ OnlyWrites [] p t ∧ ends t) ∧
      (∀ h, p.slot.handler = some h → h.released = false → h.aborted = false →
        exec (.msgdone sc) s =
          .next (((p.injectSends p.cur p.core.curSlot.val).modSlot fun sl => { sl with handler := some { h with released := true } }).retire sc.toNat) ∧
        (p.slot.ctx.isSome = true → (∀ x ∈ p.core.inject, x.injected = true) → (∀ x ∈ p.slot.sends, x.block = false) →
          ∃ t, exec (.msgdone sc) s = .next t ∧ ends t ∧ t.slot.sends = [] ∧ t.core.inject.length = p.core.inject.length + p.slot.sends.length ∧
            t.slot.handler = some { h with released := true }))) ∧
    (Issues (.rpost d a b sc) [.g a, .g b] [.g d] s →
      let p := s.prepare [.g a, .g b] [.g d]
      ∀ r v, p.readBlock (p.readG a) 64 64 true = (r, .ok v) → r.slot.ctx.isSome = true → r.core.mayBegin (r.fencedFor 3) = true →
        r.releaseReady r.cur r.core.curSlot.val 1 = true →
        let id := nextSeq r.ctx.postCtr
        let y : Post := { id := id, core := r.cur, kern := r.kern, asid := r.ctx.asid, words := (List.range 8).map fun i => BitVec.ofNat 64 (descWord v i)
                          cookie := p.readG b, sup := decide (r.slot.mode ≠ .task)
                          shape := if descWord v 3 / 2 ^ 62 = 2 then AMap.getD r.ctx.shapes (descWord v 3 % 8) {} else {}
                          bar := r.barResolved (descWord v 5) }
        r.rpostError y = none → (r.dieAt (dieOf r.cur)).umq.findIdx? y.matches_ = none →
          ∃ t, exec (.rpost d a b sc) s = .next t ∧ ends t ∧ (t.dieAt (dieOf r.cur)).posts = (r.dieAt (dieOf r.cur)).posts ++ [y] ∧
            (d ≠ 0 → landedG t d = id.setWidth 64)) ∧
    (Issues (.rcancel d a sc) [.g a] [.g d] s →
      let p := s.prepare [.g a] [.g d]
      let id : BitVec 32 := (p.readG a).setWidth 32
      let mine (y : Post) : Bool := y.core = p.cur && y.kern = p.kern && y.id = id
      (p.readG a).toNat < 2 ^ 32 →
        (∀ n y, p.dies.findSome? (fun e => (e.2.posts.find? mine).map fun z => (e.1, z)) = some (n, y) →
          ∃ t, exec (.rcancel d a sc) s = .next t ∧ ends t ∧ landedG t d = 0 ∧ ∀ z ∈ (t.dieAt n).posts, mine z = false) ∧
        (p.dies.findSome? (fun e => (e.2.posts.find? mine).map fun z => (e.1, z)) = none →
          ∃ x : Word, x ∈ [1, 2, 3] ∧ WritesG (.rcancel d a sc) s p d x false (s.slot.pc + 4)))

/-- 17 R322, R323, R327 to R331: a packet reaches the mailbox or channel of its rank or is refused, a mailbox starts its handler and a channel its
wake task, a two-sided message meets its post, lands, and ends with its status. When a packet is injected is the model's reading (assumption log 133).
-/
def Obligations.MessageEventsComplete : Prop :=
  ∀ (s : State) (core kern queue die idx count : Nat),
    (∀ i p target, s.injectAll core = s → (s.coreAt core).nextPacket (fun p => p.kind != 2 && !p.refused) = some (i, p) →
      p.toCore = some target → s.rankCore (pkgOf core) p.kern (p.send.dest.toNat / 2 ^ 40 % 2 ^ 11) = some target → s.route (dieOf core) (dieOf target) = .go →
      s.hasCtx target p.kern = true → (s.ctxOf target p.kern).state = .running → p.kind = 0 →
        ((s.ctxOf target p.kern).mailbox.length < 64 →
          ∃ t, exec (.packetDelivery core) s = .next t ∧ (t.coreAt core).inject = (s.coreAt core).inject.eraseIdx i ∧
            (t.ctxOf target p.kern).mailbox = (s.ctxOf target p.kern).mailbox ++ [mailEntry 3 (pkgOf core) p ((s.ctxOf target p.kern).msgCtr + 1)]) ∧
        (64 ≤ (s.ctxOf target p.kern).mailbox.length →
          ∃ t, exec (.packetDelivery core) s = .next t ∧ (t.ctxOf target p.kern).mailbox = (s.ctxOf target p.kern).mailbox ∧
            ∃ x, (t.coreAt core).inject = (s.coreAt core).inject.set i x ∧ x.refused = true ∧
              x.due = s.cycle + (if p.backoff = 0 then 256 else min 16384 (2 * p.backoff)))) ∧
    (∀ i p, (s.coreAt core).nextPacket (fun p => p.refused && decide (p.due ≤ s.cycle)) = some (i, p) →
      exec (.packetRetry core) s = .next (if p.kind = 2 then s.sendTwoSided core i p
        else s.deliverPacket core i { p with toCore := s.rankCore (pkgOf core) p.kern (p.send.dest.toNat / 2 ^ 40 % 2 ^ 11) })) ∧
    (∀ k rank cause addr rest target, (s.coreAt core).sendErrors = (k, rank, cause, addr) :: rest → s.rankCore (pkgOf core) k rank = some target →
      s.saveAreaQuiet target k 0x600 64 = true →
        exec (.sendErrorReply core) s = .next ((s.modCoreAt core fun c => { c with sendErrors := rest }).recordErrors target k cause addr 1)) ∧
    (let b := AMap.getD (s.ctxOf core kern).bindings queue {}
     b.bound = true → b.wake ≠ 0 → b.wake.toNat % 4 = 0 → b.wake.toNat < 2 ^ 48 → (s.ctxOf core kern).starts = true → s.hasCtx core kern = true →
      ∀ slot, (s.coreAt core).freeSlot kern = some slot →
        (∀ e rest, b.kind = 2 → (s.ctxOf core kern).mailbox = e :: rest → (s.coreAt core).runs kern (fun sl => sl.handler.isSome) = false →
          ∃ t, exec (.handlerStart core kern queue) s = .next t ∧
            let u := t.slotOf core slot
            u.run = .ready ∧ u.pc = b.wake ∧ u.kind = 6 ∧ u.readV 0 = e ∧ u.readG 4 = e.setWidth 64 ∧ u.readG 6 = BitVec.ofNat 64 queue ∧
              u.handler = some { queue := queue, entry := e, released := false }) ∧
        (b.kind = 3 → (AMap.getD (s.ctxOf core kern).channels b.tag []).isEmpty = false →
          (s.coreAt core).runs kern (fun sl => sl.wakeOf = some queue) = false →
            ∃ t, exec (.wakeTaskStart core kern queue) s = .next t ∧
              let u := t.slotOf core slot
              u.run = .ready ∧ u.pc = b.wake ∧ u.kind = 5 ∧ u.readG 4 = BitVec.ofNat 64 queue ∧ u.wakeOf = some queue)) ∧
    (∀ i p, s.injectAll core = s → (s.coreAt core).nextPacket (fun p => p.kind = 2 && !p.refused) = some (i, p) →
      s.route (dieOf core) (destDie p.send.dest) = .go →
      ∀ t, s.enterMessage (destDie p.send.dest) { p.header core with bytes := p.bytes } = some t → exec (.receiveArrival core) s = .next (t.dropPacket core i)) ∧
    (∀ p, (s.coreAt core).inject = [p] → p.injected = false → s.mayInject core p = true → p.kind = 0 → p.refused = false →
      s.rankCore (pkgOf core) p.kern (p.send.dest.toNat / 2 ^ 40 % 2 ^ 11) = none →
        ∃ t, exec (.packetDelivery core) s = .next t ∧ (t.coreAt core).inject = [] ∧
          (t.coreAt core).sendErrors = (s.coreAt core).sendErrors ++ [(p.kern, p.rank, Cause.remoteError, p.send.dest)]) ∧
    (∀ l, (s.dieAt die).landings[idx]? = some l →
      (l.clear = false → s.route die (dieOf l.msg.core) ≠ .wait →
        ∃ t, exec (.clearToSend die idx) s = .next t ∧ (t.dieAt die).landings[idx]? = some { l with clear := true }) ∧
      (l.clear = true → s.faultOpen l.fault = false →
        (l.total = l.done →
          ∃ t, exec (.messageLanding die idx 0) s = .next t ∧ (t.dieAt die).landings = (s.dieAt die).landings.eraseIdx idx) ∧
        (∀ u, 0 < count → l.done + count < l.total → s.landMessage l count = some (u, .ok ()) → (u.dieAt die).landings = (s.dieAt die).landings →
          ∃ t, exec (.messageLanding die idx count) s = .next t ∧
            (t.dieAt die).landings[idx]? = some { l with done := l.done + count, fault := none }) ∧
        (∀ u, 0 < count → l.done + count = l.total → s.landMessage l count = some (u, .ok ()) → (u.dieAt die).landings = (s.dieAt die).landings →
          ∃ t, exec (.messageLanding die idx count) s = .next t ∧ (t.dieAt die).landings = (s.dieAt die).landings.eraseIdx idx) ∧
        (l.total ≠ l.done → ∀ u sender k addr, s.landMessage l (s.leastRun l) = some (u, .error (sender, .error k addr)) →
          ∃ t, exec (.landingFault die idx) s = .next t ∧ (t.dieAt die).landings = (s.dieAt die).landings.eraseIdx idx)))

/-! ### Pages (08, 21) -/

/-- 08 R183 to R186, 21 R371, R373, R375 to R377: SUBS returns the end of its lease, UNSUBS ends the leases of the context, a push
updates its line, leases expire; a write to a page-table line is performed once its sharers have dropped their translations, and a
walk ends by readying the slots that wait for it. -/
def Obligations.PagesComplete : Prop :=
  ∀ (d a b : BitVec 5) (sc : BitVec 3) (bent page die home idx core kern : Nat) (value : Word) (s : State),
    (Issues (.subs d a b sc) [.g a, .g b] [.g d] s →
      let p := s.prepare [.g a, .g b] [.g d]
      let n := (p.readG b).toNat
      ∀ q pa table, p.checkAccess .load 1 (p.readG a) = (q, .ok (.mem pa table)) → spaceOf (p.readG a) = 0 →
        let ends (t : State) (x : Word) : Prop := t.slot.pc = s.slot.pc + 4 ∧ t.slot.run = .ready ∧ (d ≠ 0 → landedG t d = x)
        (n = 0 ∨ 2 ^ 20 ≤ n → ∃ t, exec (.subs d a b sc) s = .next t ∧ ends t (BitVec.ofNat 64 (2 ^ 63 + 4 * 2 ^ 56))) ∧
        (0 < n → n < 2 ^ 20 →
          (∀ u e, q.subscribe q.cur q.kern (pa / 2 ^ 15) (q.time (pkgOf q.cur) + 1000 * n) n = (u, .expiry e) →
            ∃ t, exec (.subs d a b sc) s = .next t ∧ ends t (BitVec.ofNat 64 (e % 2 ^ 56)) ∧ t.subscribed (bentOf s.cur) (pa / 2 ^ 15) = true) ∧
          (∀ u k, q.subscribe q.cur q.kern (pa / 2 ^ 15) (q.time (pkgOf q.cur) + 1000 * n) n = (u, .refused k) →
            ∃ t, exec (.subs d a b sc) s = .next t ∧ ends t (BitVec.ofNat 64 (2 ^ 63 + k * 2 ^ 56))))) ∧
    (Issues (.unsubs a sc) [.g a] [] s →
      let p := s.prepare [.g a] []
      descriptorOk p.hasFeature (p.readG a) = true → spaceOf (p.readG a) = 0 →
        (p.pageOf (offsetOf (p.readG a)) = none → ∃ t, exec (.unsubs a sc) s = .next t ∧ OnlyWrites [] p t ∧ t.slot.pc = s.slot.pc + 4) ∧
        (∀ k, p.pageOf (offsetOf (p.readG a)) = some k → p.pageQuiet (bentOf p.cur) k = true →
          exec (.unsubs a sc) s = .next ((p.dropLeases (bentOf p.cur) fun x l => x = k && l.core = p.cur && l.kern = p.kern).retire sc.toNat))) ∧
    (∀ i x, (s.bentAt bent).pushes.findIdx? (fun p => homeOf (p.line * 256) == home) = some i →
      (s.bentAt bent).pushes.find? (fun p => homeOf (p.line * 256) == home) = some x →
      (AMap.has (s.bentAt bent).l2 x.line = false ∨ s.subscribed bent (x.line / 128) = false ∧ s.quiet bent x.line = true →
        exec (.subscriptionPush bent home) s = .next (s.modBentAt bent fun y => { y with pushes := y.pushes.eraseIdx i })) ∧
      (∀ l, s.subscribed bent (x.line / 128) = true → AMap.find? (s.bentAt bent).l2 x.line = some l → s.quiet bent x.line = true →
        (∀ k ∈ coresOfBent bent, AMap.has (s.coreAt k).l1 x.line = false) →
          ∃ t, exec (.subscriptionPush bent home) s = .next t ∧ (t.bentAt bent).pushes = (s.bentAt bent).pushes.eraseIdx i ∧ t.mem = s.mem ∧
            AMap.find? (t.bentAt bent).l2 x.line =
              some { l.put 0 256 x.data.toNat (x.mask &&& ~~~l.dirty).toNat with dirty := l.dirty })) ∧
    (s.pageQuiet bent page = true →
      exec (.leaseExpiry bent page) s = .next (s.dropLeases bent fun x l => x = page && decide (l.expiry ≤ s.time (pkgOfBent bent)))) ∧
    (∀ line rest, (s.bentAt bent).ptInv = line :: rest → s.quiet bent line = true →
      (∀ e ∈ (s.bentAt bent).tlb ++ (s.bentAt bent).trussTlb.toList.flatten ++ (coresOfBent bent).flatMap (fun k => (s.coreAt k).utlb), line ∈ e.lines →
        s.accessPending bent (leafPA e.level e.pte 0) (leafSize e.level) = false) →
        ∃ t more, exec (.ptInvalidation bent) s = .next t ∧ (t.bentAt bent).ptInv = rest ++ more ∧
          (∀ e ∈ (t.bentAt bent).tlb, line ∉ e.lines) ∧ (∀ e ∈ (t.bentAt bent).trussTlb.toList.flatten, line ∉ e.lines) ∧
          ∀ k ∈ coresOfBent bent, ∀ e ∈ (t.coreAt k).utlb, line ∉ e.lines) ∧
    (∀ w, (s.dieAt die).ptWrites[idx]? = some w → w.waiting = [] →
      (∀ x ∈ (s.dieAt die).ptWrites.take idx, x.addr / 256 ≠ w.addr / 256) → s.rehomeOf (w.addr / 2 ^ 15) = none →
      (s.dieAt die).rehomes = [] → (s.dieAt die).rehomeQueue = [] → s.isRehomeRequest w.addr w.size w.value w.mask = false →
        ∃ t, exec (.ptWritePerform die idx) s = .next t ∧ (t.dieAt die).ptWrites = (s.dieAt die).ptWrites.eraseIdx idx ∧
          t.mem = Memory.writeMasked s.mem w.addr w.size w.value w.mask) ∧
    (∀ w i, ((s.bentAt bent).walks.filter WalkEntry.walking).length < 16 → (s.bentAt bent).walks.findIdx? (fun w => !w.walking) = some i →
      (s.bentAt bent).walks.find? (fun w => !w.walking) = some w →
      (∀ x ∈ (s.walk bent w.asid w.root (w.page * 2 ^ 15)).lines, s.homeRoute bent (x.1 * 256) ≠ .wait) →
        ∃ t, exec (.tableWalkStart bent) s = .next t ∧ t.mem = s.mem ∧
          (t.bentAt bent).walks[i]? = some { w with walking := true, lines := (s.walk bent w.asid w.root (w.page * 2 ^ 15)).lines.map Prod.fst }) ∧
    (∀ w u, (s.bentAt bent).walks[idx]? = some w → w.walking = true → w.users = [u] → u.slot < 8 → (s.slotOf u.core u.slot).run = .waiting →
      (∀ level pte lines ptrs, s.walk bent w.asid w.root (w.page * 2 ^ 15) = .leaf level pte lines ptrs →
        s.leafFault (pkgOfBent bent) false u.sup (PageUse.ofCode u.kind) level pte (w.page * 2 ^ 15) = 0 →
          ∃ t, exec (.tableWalkComplete bent idx false) s = .next t ∧ (t.slotOf u.core u.slot).run = .ready ∧
            (t.slotOf u.core u.slot).walkFault = none ∧ (t.bentAt bent).walks = (s.bentAt bent).walks.eraseIdx idx ∧
            (t.bentAt bent).tlb.head? = some (mkTlb w.asid level pte (w.page * 2 ^ 15) lines)) ∧
      (∀ k lines, s.walk bent w.asid w.root (w.page * 2 ^ 15) = .fault k lines → k % 16 ≠ 7 → k ≠ 0 →
        ∃ t, exec (.tableWalkComplete bent idx false) s = .next t ∧ (t.slotOf u.core u.slot).run = .ready ∧
          (t.slotOf u.core u.slot).walkFault = some (w.page, BitVec.ofNat 64 k))) ∧
    (∀ slot due rest, (s.bentAt bent).missRetry = (core, slot, due) :: rest → due ≤ s.cycle → slot < 8 → (s.slotOf core slot).run = .waiting →
      ∃ t, exec (.missTableRetry bent) s = .next t ∧ (t.bentAt bent).missRetry = rest ∧ (t.slotOf core slot).run = .ready ∧ t.mem = s.mem) ∧
    (s.hasCtx core kern = true →
      ∃ t, exec (.ptrootWrite core kern value) s = .next t ∧ (t.ctxOf core kern).ptroot = value &&& 0xFFFFFFFFF000 ∧ t.mem = s.mem ∧
        ∀ e ∈ (t.bentAt (bentOf core)).tlb, e.asid ≠ (s.ctxOf core kern).asid)

/-- 21 R378, R379: a rehoming copies its page line by line, copies the marked lines again, recalls the page from every bent, and
then the entry names the new frame. -/
def Obligations.RehomingCompletes : Prop :=
  ∀ (s : State) (die idx bent : Nat) (r : Rehome), (s.dieAt die).rehomes[idx]? = some r → s.rehomeRoute r = .go → Memory.wf s.mem = true →
    r.old ≠ r.new →
    (r.phase = .copying →
      ∃ t, exec (.rehomeCopyDone die idx) s = .next t ∧ (t.dieAt die).rehomes[idx]? = some { r with phase := .recopying 0 } ∧
        (∀ k, k < 2 ^ 15 → Memory.read t.mem (r.new * 2 ^ 15 + k) = Memory.read s.mem (r.old * 2 ^ 15 + k)) ∧
        ∀ x, x / 2 ^ 15 ≠ r.new → Memory.read t.mem x = Memory.read s.mem x) ∧
    (∀ k, r.phase = .recopying k → (∀ x ∈ r.marked, x < 128) →
      ∃ t, exec (.rehomeRecopyDone die idx) s = .next t ∧
        (t.dieAt die).rehomes[idx]? = some { r with
          marked := [], phase := if r.marked = [] ∨ 3 ≤ k then .final s.recallTargets else .recopying (k + 1) } ∧
        ∀ x, x / 2 ^ 15 ≠ r.new → Memory.read t.mem x = Memory.read s.mem x) ∧
    (∀ waiting, r.phase = .final waiting → bent ∈ waiting → s.pageQuiet bent r.old = true →
      s.route (homeOf (r.old * 2 ^ 15)) (dieOfBent bent) = .go →
        ∃ t y, exec (.pageRecall die idx bent) s = .next t ∧ (t.dieAt die).rehomes[idx]? = some y ∧
          y.phase = .final (waiting.filter (· != bent))) ∧
    (r.phase = .final [] → (AMap.getD (s.dieAt die).ptSharers (r.entry / 256) ⟨3, []⟩).sharers = [] → r.held = [] →
      ∃ t, exec (.rehomeSwitch die idx) s = .next t ∧
        BitVec.ofNat 64 (Memory.readNat t.mem r.entry 8) = r.value &&& ~~~(3#64 <<< 55))

/-! ### Coherence (08) -/

/-- 08 R177, R178, R181, table 8.2: a message of a core to an idle directory entry of a line that the L2 holds current is answered:
a read of an uncached sector gives E, a request for ownership without sharers M, a write-back merges its bytes, a merge of the only
U holder ends; an entry that waits goes on with its last acknowledgement or response. -/
def Obligations.DirectoryRequestsComplete : Prop :=
  ∀ (s : State) (core x sent : Nat) (m : UpMsg) (rest : List (Nat × UpMsg)) (l : L2Line) (evict : List Nat),
    let bent := bentOf core
    let d := s.dirOf bent x
    let toL1 := (s.coreAt core).toL1
    (s.coreAt core).toL2 = (sent, m) :: rest → m.sector = x → s.outranked core (sent, m) = false → s.homeRoute bent (x * 64) = .go →
    AMap.find? (s.bentAt bent).l2 (x / 4) = some l → (s.bentAt bent).current l = true →
    (s.bentAt bent).missq = [] → (∀ z ∈ (s.bentAt bent).l2, ∀ y ∈ z.2.dir.toList, y.queue = []) →
    let owned (t : State) (k : Nat) (taken : Option Nat) (answer : DownMsg) : Prop :=
      t.dirOf bent x = { d with st := .excl, owner := k, sharers := [], busy := none, takenAt := taken } ∧
        (t.coreAt k).toL1 = (s.coreAt k).toL1 ++ [answer]
    (d.busy = none → d.takenAt ≠ some s.cycle →
      (m = .rd x → d.st = .none → d.uholders = [] → l.sub = false → l.watch = false →
        ∃ t, exec (.rd core evict) s = .next t ∧ (t.coreAt core).toL2 = rest ∧ owned t core (some s.cycle) (.dataE x (s.l2Sector bent x) false)) ∧
      (m = .rdx x → d.st = .none → d.uholders = [] → d.sharers = [] → l.sub = false → l.watch = false →
        ∃ t, exec (.rdx core evict) s = .next t ∧ (t.coreAt core).toL2 = rest ∧ owned t core (some s.cycle) (.dataM x (s.l2Sector bent x) false)) ∧
      (m = .upg x → d.st = .shared → d.sharers = [core] →
        ∃ t, exec (.upg core) s = .next t ∧ (t.coreAt core).toL2 = rest ∧ owned t core (some s.cycle) (.grant x)) ∧
      (∀ v mask, m = .wb x v mask → d.st = .excl → d.owner = core →
        ∃ t, exec (.wb core) s = .next t ∧ (t.coreAt core).toL2 = rest ∧ (t.coreAt core).toL1 = toL1 ++ [.wback x false] ∧
          t.dirOf bent x = { d with st := if d.sharers = [] then .none else .shared, takenAt := some s.cycle } ∧
          (AMap.find? (t.bentAt bent).l2 (x / 4)).map L2Line.data = some (l.put (64 * (x % 4)) 64 v.toNat mask.toNat).data) ∧
      (∀ slot v mask, m = .wt x slot v mask → d.sharers = [core] →
        ∃ t, exec (.wt core) s = .next t ∧ (t.coreAt core).toL2 = rest ∧ t.dirOf bent x = { d with takenAt := some s.cycle } ∧
          (AMap.find? (t.bentAt bent).l2 (x / 4)).map L2Line.data = some (l.put (64 * (x % 4)) 64 v.toNat mask.toNat).data) ∧
      (m = .ureg x →
        ∃ t, exec (.ureg core) s = .next t ∧ (t.coreAt core).toL2 = rest ∧ core ∈ (t.dirOf bent x).uholders ∧ core ∉ (t.dirOf bent x).sharers) ∧
      (∀ op dbl parts, m = .umrg x op dbl parts → d.st = .none → d.sharers = [] → d.uholders = [core] →
        ∃ t, exec (.umrg core) s = .next t ∧ (t.coreAt core).toL2 = rest ∧ (t.coreAt core).toL1 = toL1 ++ [.wback x false] ∧
          t.dirOf bent x = { d with uholders := [], takenAt := some s.cycle })) ∧
    (∀ w, d.busy = some w → w.merges = [] → w.collected = [] →
      (m = .iack x → w.acks = 1 → w.frsp = false → w.msg = .rdx x → d.st = .shared →
        ∃ t, exec (.iack core) s = .next t ∧ (t.coreAt core).toL2 = rest ∧ owned t w.requester d.takenAt (.dataM x (s.l2Sector bent x) false)) ∧
      (∀ v, m = .frsp x v .s true → w.acks = 0 → w.msg = .rd x →
        ∃ t, exec (.frsp core true) s = .next t ∧ (t.coreAt core).toL2 = rest ∧
          t.dirOf bent x = { d with st := .shared, sharers := (d.sharers ++ [d.owner, w.requester]).eraseDups, busy := none }))

/-- 08 R178 to R181, tables 8.3, 8.4: a message that reaches an L1 whose sector takes it gives the sector its new state, performs
the held store and sends the answer. -/
def Obligations.CacheMessagesComplete : Prop :=
  ∀ (s : State) (core x r : Nat) (m : DownMsg) (rest : List DownMsg) (evict : List Nat) (v data : Vec) (mask : BitVec 64) (slot : Nat),
    let y := (s.coreAt core).sector x
    let toL2 := (s.coreAt core).toL2
    (s.coreAt core).toL1 = m :: rest → (s.coreAt core).heldL1 = [] → ((s.coreAt core).l1.map Prod.fst).Pairwise (· < ·) →
    (∀ l, AMap.find? (s.bentAt (bentOf core)).l2 (x / 4) = some l → ∀ z ∈ l.dir.toList, z.queue = []) →
    let stored (t : State) (old : Vec) : Prop :=
      (t.coreAt core).sector x = { y with st := .m, data := mergeVec old data mask, dirty := mask, held := [] } ∧ (t.coreAt core).toL1 = rest
    (m = .dataS x v false → y.st = .isD → y.invalidated = false →
      ∃ t, exec (.dataS core evict) s = .next t ∧ (t.coreAt core).sector x = { st := .s, data := v } ∧ (t.coreAt core).toL1 = rest) ∧
    (m = .dataE x v false → y.st = .isD → y.invalidated = false →
      ∃ t, exec (.dataE core evict) s = .next t ∧ (t.coreAt core).sector x = { st := .e, data := v } ∧ (t.coreAt core).toL1 = rest) ∧
    (m = .dataM x v false → y.st = .imAD → y.held = [.store slot data mask] →
      ∃ t, exec (.dataM core evict) s = .next t ∧ stored t v) ∧
    (m = .grant x → y.st = .smA → y.held = [.store slot data mask] → ∃ t, exec (.grant core) s = .next t ∧ stored t y.data) ∧
    (m = .inv x → y.st = .s → y.held = [] →
      ∃ t, exec (.inv core) s = .next t ∧ ((t.coreAt core).sector x).st = .i ∧ (t.coreAt core).toL2 = toL2 ++ [(s.cycle, .iack x)]) ∧
    (m = .urcl x → y.st = .u →
      ∃ t, exec (.urcl core) s = .next t ∧ ((t.coreAt core).sector x).st = .uiA ∧ (t.coreAt core).toL2 = toL2 ++ [(s.cycle, .umrg x y.op y.dbl y.parts)]) ∧
    (m = .fwdS x r → y.st = .m → r ≠ core →
      ∃ t, exec (.fwdS core) s = .next t ∧ (t.coreAt core).sector x = { y with st := .o } ∧
        (t.coreAt core).toL2 = toL2 ++ [(s.cycle, .frsp x none .o true)] ∧ (t.coreAt r).toL1 = (s.coreAt r).toL1 ++ [.peer x y.data 0 false]) ∧
    (m = .fwdX x (some r) → y.st = .m → r ≠ core →
      ∃ t, exec (.fwdX core) s = .next t ∧ ((t.coreAt core).sector x).st = .i ∧
        (t.coreAt core).toL2 = toL2 ++ [(s.cycle, .frsp x none .i true)] ∧ (t.coreAt r).toL1 = (s.coreAt r).toL1 ++ [.peer x y.data y.dirty true]) ∧
    (m = .wback x false → y.st = .miA → y.held = [] →
      ∃ t, exec (.wback core) s = .next t ∧ ((t.coreAt core).sector x).st = .i ∧ (t.coreAt core).toL1 = rest)

/-! ### Truss (14) -/

/-- 14 R261, R264, R270 to R274: MSET and MGET write and read the registers of MG; an operation or a command whose checks pass
enters the command queue with its sequence number, and one whose checks fail traps; MWAIT returns the number of the slot's last
command once none is left, and MWAIT.t says at once when one is left. -/
def Obligations.TrussInstructionsComplete : Prop :=
  ∀ (d a b m : BitVec 5) (s : State),
    let queued (i : Instr) (p : State) (kind : TrussKind) (x y : Word) : Prop :=
      p.core.truss.length < 32 → p.chainWaits p.cur = false → p.releaseReady p.cur p.core.curSlot.val 1 = true → p.slot.ctx.isSome = true →
      p.hasCtx p.cur p.kern = true →
        ∃ t c, exec i s = .next t ∧ t.slot.pc = s.slot.pc + 4 ∧ t.slot.run = .ready ∧ t.mem = p.mem ∧ t.core.truss = p.core.truss ++ [c] ∧
          c.kind = kind ∧ c.kern = p.kern ∧ c.a = x ∧ c.b = y ∧ c.seq = nextSeq p.ctx.trussSeq ∧ t.ctx.trussSeq = nextSeq p.ctx.trussSeq ∧
          t.slot.trussLast = nextSeq p.ctx.trussSeq ∧ ∀ k, k < 12 → mgReg c.mg k = mgReg p.ctx.mg k
    let checked (i : Instr) (p : State) (bad : Option (Nat × Option Nat)) (kind : TrussKind) (x y : Word) : Prop :=
      (bad = none → queued i p kind x y) ∧
      (∀ code v, bad = some (code, some v) → exec i s = .next (p.trap Cause.engineFault (BitVec.ofNat 64 code) (BitVec.ofNat 64 v)))
    (Issues (.mset a m) [.g a] [] s →
      let p := s.prepare [.g a] []
      (m = 11 → p.core.progBusy p.slot = false) → m ≠ 12 → p.hasCtx p.cur p.kern = true →
        ∃ t, exec (.mset a m) s = .next t ∧ t.slot.pc = s.slot.pc + 4 ∧ t.slot.run = .ready ∧ t.mem = p.mem ∧
          t.mgRead t.cur t.kern m.toNat = p.readG a &&& mgMask m.toNat ∧
          ∀ k, k ≠ m.toNat → k < 12 → t.mgRead t.cur t.kern k = p.mgRead p.cur p.kern k) ∧
    (Issues (.mget m d) [] [.g d] s →
      let p := s.prepare [] [.g d]
      (m = 11 → p.core.progBusy p.slot = false) →
        WritesG (.mget m d) s p d (p.mgRead p.cur p.kern m.toNat) false (s.slot.pc + 4)) ∧
    (Issues (.mma a b) [.g a, .g b] [] s →
      let p := s.prepare [.g a, .g b] []
      checked (.mma a b) p (opRefused p.hasFeature p.ctx (p.slot.mode ≠ .task) .mma p.ctx.mg (p.readG a) (p.readG b)) .mma (p.readG a) (p.readG b)) ∧
    (let srcs : List Reg := (if gangCol s.ctx.mg = 0 then [.g a] else []) ++ (if gangRow s.ctx.mg = 0 then [.g b] else [])
     Issues (.mmaco a b) srcs [] s →
     let p := s.prepare srcs []
     let x := if gangCol p.ctx.mg = 0 then p.readG a else 0
     let y := if gangRow p.ctx.mg = 0 then p.readG b else 0
     checked (.mmaco a b) p (opRefused p.hasFeature p.ctx (p.slot.mode ≠ .task) .mmaco p.ctx.mg x y) .mmaco x y) ∧
    (Issues .mzero [] [] s →
      let p := s.prepare [] []
      checked .mzero p (regionRefused p.hasFeature p.ctx (p.slot.mode ≠ .task) p.ctx.mg) .mzero 0 0) ∧
    (Issues (.msave a) [.g a] [] s →
      let p := s.prepare [.g a] []
      let at0 := p.readG a
      descriptorOk p.hasFeature at0 = true → at0.toNat % 256 = 0 → spaceOf at0 = 0 →
        checked (.msave a) p (regionRefused p.hasFeature p.ctx (p.slot.mode ≠ .task) p.ctx.mg) (.msave at0) 0 0) ∧
    (Issues (.mload a) [.g a] [] s →
      let p := s.prepare [.g a] []
      let at0 := p.readG a
      descriptorOk p.hasFeature at0 = true → at0.toNat % 256 = 0 → spaceOf at0 = 0 → queued (.mload a) p (.mload at0) 0 0) ∧
    (Issues (.mwait d) [] [.g d] s →
      let p := s.prepare [] [.g d]
      p.trussPending = [] → p.chainPending = false →
        WritesG (.mwait d) s p d
          (BitVec.ofNat 64 (p.slot.trussLost.toNat * 2 ^ 62 + p.slot.trussLast.toNat)) false (s.slot.pc + 4)) ∧
    (Issues (.mwaitT d) [] [.g d] s →
      let p := s.prepare [] [.g d]
      (p.trussPending = [] → p.chainPending = false →
        WritesG (.mwaitT d) s p d (BitVec.ofNat 64 (p.slot.trussLost.toNat * 2 ^ 62 + p.slot.trussLast.toNat)) false (s.slot.pc + 4)) ∧
      (p.trussPending ≠ [] ∨ p.chainPending = true → (∀ x ∈ p.trussPending, x.2.held = false) →
        WritesG (.mwaitT d) s p d (BitVec.ofNat 64 (2 ^ 63)) false (s.slot.pc + 4)))

/-- 14 R262, R263, R268, R269, R275 to R278: the array is granted to the ready head with the least clock; a unit commits its rows and no other byte of
the C-store; a loader's chunk goes to every member; port commands complete; faults are recorded and restarted or discarded. That an error in a message
or in the XE8 decoder can strike a running command, with a free address, is the model's form of table 14.11 (assumption log 155). -/
def Obligations.TrussEventsComplete : Prop :=
  ∀ (core kern chan quad k : Nat) (sideB : Bool) (s : State) (t : TrussCmd),
    let c := s.coreAt core
    let contends (j : Nat) (x : TrussCmd) : Prop :=
      (s.coreAt j).headReady = true ∧ (s.coreAt j).trussRunning = some x ∧ (s.coreAt j).trussStops x.kern = false
    (∀ p, k ∈ coresOfQuad quad → contends k t → t.pair = some p → (∀ j ∈ coresOfQuad quad, (s.coreAt j).granted = false) →
      (∀ j ∈ coresOfQuad quad, ∀ x, contends j x →
        (j < k → clockLess (s.coreAt k).vclock (s.coreAt j).vclock = true) ∧ (k < j → clockLess (s.coreAt j).vclock (s.coreAt k).vclock = false)) →
        ∃ u, exec (.trussGrant quad) s = .next u ∧ (u.coreAt k).granted = true ∧ u.mem = s.mem ∧
          (u.coreAt k).vclock = (s.coreAt k).vclock + BitVec.ofNat 32 (t.unitCycles p * 4096 / t.weight)) ∧
    (c.trussRunning = some t →
      (∀ p a b ra rb, t.array = true → c.granted = true → t.pair = some p → t.bufA = a :: ra → t.bufB = b :: rb → s.poisonedUnit core t = none →
        coreWf c = true →
        let n := mgReg t.mg 1
        let row (i : Nat) := s.unitRowAt core t i
        ∃ u, exec (.unitCommit core false) s = .next u ∧ (u.coreAt core).granted = false ∧ u.mem = s.mem ∧
          (∀ i, i < t.unitRows → Memory.readNat (u.coreAt core).cstore (row i) (4 * n) =
            commitRow p (roundMode (BitVec.ofNat 3 (mgReg t.mg 10 % 4))) t.zeroed n (Memory.readNat c.cstore (row i) (4 * n)) a b i % 2 ^ (32 * n)) ∧
          (∀ x, (∀ i, i < t.unitRows → ¬(row i ≤ x ∧ x < row i + 4 * n)) → Memory.read (u.coreAt core).cstore x = Memory.read c.cstore x) ∧
          (∀ x, t.nextUnit p.q t.unit = some x →
            { t with present := false, rb := x / 2 ^ 14, chunk := x % 2 ^ 14, bufA := ra, bufB := rb } ∈ (u.coreAt core).truss) ∧
          (t.nextUnit p.q t.unit = none → (u.coreAt core).truss = c.truss.filter (fun x => x.uid != t.uid) ∧
            (s.hasCtx (s.ownerCore core t) t.kern = true → (u.ctxOf (s.ownerCore core t) t.kern).doneSeq = t.seq))) ∧
      (t.array = true → c.granted = false → c.trussStops t.kern = true → s.hasCtx core t.kern = true →
        ∃ u, exec (.unitCommit core true) s = .next u ∧ (u.ctxOf core t.kern).stop = true ∧ u.mem = s.mem ∧
          mgReg (u.ctxOf core t.kern).mg 11 = (progWord t.rb t.chunk).toNat ∧ ∀ x ∈ (u.coreAt core).truss, x.uid = t.uid → x.stopped = true) ∧
      (∀ s1, t.array = false → c.trussStops t.kern = false → s.portCommand core t = (s1, .ok ()) →
        ∃ u, exec (.trussPortCommandComplete core) s = .next u ∧ (u.coreAt core).truss = (s1.coreAt core).truss.filter (fun x => x.uid != t.uid) ∧
          (t.kind = .mzero → ∀ x, s.regionBase core t.kern t.sup t.mg ≤ x → x < s.regionBase core t.kern t.sup t.mg + regionBytes t.mg →
            Memory.read (u.coreAt core).cstore x = 0)) ∧
      (∀ p s1 s2 a b, t.array = true → t.present = false → c.granted = false → c.trussStops t.kern = false → s.trussStop core t = none →
        t.pair = some p → s.sideChunk core t p false = (s1, some (.ok a)) → s1.sideChunk core t p true = (s2, some (.ok b)) →
          ∃ u, exec (.trussOperandsPresent core) s = .next u ∧ (u.coreAt core).wasReady = true ∧
            ∀ x ∈ (u.coreAt core).truss, x.uid = t.uid → x.present = true ∧ x.bufA ≠ [] ∧ x.bufB ≠ []) ∧
      (∀ p w s1 x, t.pair = some p → loadsSide t.kind t.mg sideB = true → t.receivers core sideB ≠ [] → (t.buffer sideB).length < 4 →
        (∀ r ∈ t.receivers core sideB, s.hasCredit r t.kern (gangId t.mg) sideB = true) → t.sendUnit p.q sideB = some w →
        s.readChunk core t sideB w p.q = (s1, .ok x) →
          ∃ u, exec (.operandChunkSend core sideB) s = .next u ∧
            ∀ r ∈ t.receivers core sideB, (u.coreAt r).chunksIn = (s1.coreAt r).chunksIn ++ [x]) ∧
      (∀ code addr, s.trussStop core t = some (code, some addr) → code < 256 → s.hasCtx core t.kern = true →
        ∃ u, exec (.trussRuntimeFault core (BitVec.ofNat 8 code) addr) s = .next u ∧ u.mem = s.mem ∧
          (u.ctxOf core t.kern).ecode = BitVec.ofNat 8 code ∧ (u.ctxOf core t.kern).efault = addr ∧ (u.ctxOf core t.kern).stop = true ∧
          ∀ x ∈ (u.coreAt core).truss, x.uid = t.uid → x.kern = t.kern → x.held = true) ∧
      (∀ addr, s.trussStop core t = none → t.struck = true → s.hasCtx core t.kern = true →
        ∃ u, exec (.trussRuntimeFault core 7 addr) s = .next u ∧ u.mem = s.mem ∧ (u.ctxOf core t.kern).ecode = 7 ∧
          (u.ctxOf core t.kern).stop = true)) ∧
    (∀ x rest y, c.chunksIn = x :: rest → AMap.find? c.ctxs x.kern = some y →
      (y.state = .saved → ∃ u, exec (.operandMessageArrival core) s = .next u ∧ (u.coreAt core).chunksIn = rest ∧
        (u.ctxOf core x.kern).spill = y.spill ++ [x]) ∧
      (y.state = .running → c.truss.find? (fun z => z.kern = x.kern && z.kind = .mmaco && gangId z.mg = x.gid) = some t → t.disagrees x = false →
        ∃ u, exec (.operandMessageArrival core) s = .next u ∧ (u.coreAt core).chunksIn = rest ∧ (t.learn x).push x ∈ (u.coreAt core).truss)) ∧
    (s.hasCtx core kern = true → (s.ctxOf core kern).ecode ≠ 0 →
      ∀ i ∈ [Instr.ecodeRestart core kern, .ecodeDiscard core kern],
        ∃ u, exec i s = .next u ∧ (u.ctxOf core kern).ecode = 0 ∧ (u.ctxOf core kern).stop = false ∧
          (∀ x ∈ (u.coreAt core).truss, x.kern = kern → x.held = false) ∧
          (i = .ecodeRestart core kern → (u.coreAt core).truss.length = c.truss.length)) ∧
    (∀ x, (s.chanOf core kern chan).cur = some x → x.chained = true → x.st = .running → s.copyWhole core kern x x.covered = true →
      let j := x.target core
      let kind : TrussKind := if x.reg 8 / 2 ^ 62 % 2 = 1 then .mmaco else .mma
      let full := x.mgKeep.foldl (fun (m : AMap Word) p => AMap.set m p.1 p.2) (s.ctxOf j kern).mg
      let mg := full.filter fun (p : Nat × Word) => decide (p.1 < 12)
      let a := if loadsSide kind full false then chainPointer (x.reg 8 / 2 ^ 21) else 0
      let b := if loadsSide kind full true then chainPointer (x.reg 8) else 0
      (s.coreAt j).truss.length < 32 → s.hasCtx j kern = true → opRefused (s.accepted j) (s.ctxOf j kern) x.sup kind mg a b = none →
        ∃ u y, exec (.chainedOperationEntry core kern chan) s = .next u ∧ (u.coreAt j).truss = (s.coreAt j).truss ++ [y] ∧
          y.kind = kind ∧ y.chained = true ∧ y.seq = x.chainSeq ∧ y.a = a ∧ y.b = b ∧ y.mg = mg)

/-! ### Kernels (09, 10) -/

/-- 09 R191, R195 to R197, R199 to R201, 10 R206: features are committed while no kernel holds a KERNID; a record is read and an admitted kernel takes
a KERNID; it is placed, its contexts load, its root task starts; PREEMPT, RESUME and ABORT leave their status in CMDSTAT; at its end a kernel gives
back its KERNID and its slots. The least cost of a placement is searched as in assumption log 129. -/
def Obligations.KernelsComplete : Prop :=
  ∀ (pkg kern queue core : Nat) (cores : List Nat) (record : BitVec 2048) (value : BitVec 32) (sup : Bool) (s : State),
    let p := s.pkgAt pkg
    let h := AMap.getD p.hostq queue {}
    let status (t : State) (n : Nat) : Prop := (t.pkgAt pkg).cmdstat = BitVec.ofNat 64 (kern % 2 ^ 16 + n * 2 ^ 16)
    let gone (t : State) : Prop := ((p.kernels.map Prod.fst).Nodup → t.kernelAt pkg kern = none) ∧
      ∀ c n, pkgOf c = pkg → n < 8 → (t.slotOf c n).ctx ≠ some kern
    let placed (t : State) (st : CtxState) : Prop := ∀ r c, cores[r]? = some c →
      t.hasCtx c kern = true ∧ (t.ctxOf c kern).rank = BitVec.ofNat 11 r ∧
        (t.ctxOf c kern).state = (if s.awake c then st else if st = .restoring then .saved else .free) ∧
        (t.ctxOf c kern).entry = if s.awake c then none else some st
    (∃ t, exec (.featureCommit pkg) s = .next t ∧ t.mem = s.mem ∧
      t.pkgAt pkg = if p.kernels = [] then
          { p with feat := p.featacc &&& p.featoff, corePkg := p.pkgno, negDone := true, negBusy := false, committed := true }
        else { p with negBusy := true }) ∧
    (queue < 8 → ∃ t, exec (.qtailWrite pkg queue value) s = .next t ∧ t.mem = s.mem ∧
      AMap.getD (t.pkgAt pkg).hostq queue {} = { h with tail := value }) ∧
    ((List.range 8).reverse.find? (fun q => (AMap.getD p.hostq q {}).holds) = some queue →
      s.doneReady pkg record h.asid h.root (pkg * 2048) = true → s.admission pkg record = 0 →
        ∃ t id k, exec (.launchRecordRead pkg queue record) s = .next t ∧ t.kernelAt pkg id = some k ∧ k.record = record ∧ k.state = .admitted ∧
          k.queue = some queue ∧ k.order = p.nextOrder ∧ (t.pkgAt pkg).nextOrder = p.nextOrder + 1 ∧
          AMap.getD (t.pkgAt pkg).hostq queue {} = { h with head := BitVec.ofNat 32 ((h.head.toNat + 1) % 2 ^ (h.size.toNat + 1)) }) ∧
    (s.kernelAt pkg kern = none →
      ∀ i ∈ [Instr.preemptWrite pkg kern, .resumeWrite pkg kern, .abortWrite pkg kern sup], ∃ t, exec i s = .next t ∧ status t 1 ∧ t.mem = s.mem) ∧
    (∀ k, s.kernelAt pkg kern = some k →
      (k.kernid.toNat = kern → p.nextAdmitted = some kern → cores ≠ [] → cores.Nodup → s.candidateOk pkg k.record cores = true →
        s.spreadOk pkg k.record cores = true → s.bestOf pkg k.record cores = true →
          ∃ t, exec (.kernelPlacement pkg kern cores) s = .next t ∧ t.kernelAt pkg kern = some { k with state := .placing, cores := cores } ∧
            placed t .loading) ∧
      (p.nextAdmitted = some kern → s.kernelFits pkg k.record [] = false →
        exec (.kernelPlacement pkg kern []) s = .next ((s.preemptVictims pkg k).foldl (fun s v => s.startPreempt pkg v) s)) ∧
      (∀ n, (List.range 8).find? (fun n => (s.slotOf (k.cores.headD 0) n).ctx = some kern && (s.slotOf (k.cores.headD 0) n).num = 0) = some n →
        k.state = .placing → k.preemptHeld = false → (∀ c ∈ k.cores, (s.ctxOf c kern).state = .ready) →
        recordField k.record 0 8 % 4 = 0 → recordField k.record 0 8 < 2 ^ 48 →
          ∃ t, exec (.rootTaskStart pkg kern) s = .next t ∧
            let u := t.slotOf (k.cores.headD 0) n
            u.run = .ready ∧ u.mode = .task ∧ u.kind = 0 ∧ u.pc = BitVec.ofNat 64 (recordField k.record 0 8) ∧
              u.readG 4 = BitVec.ofNat 64 (recordField k.record 0x50 8) ∧ t.kernelAt pkg kern = some { k with state := .running, rooted := true }) ∧
      (recordField k.record 0x48 8 = 0 → ∃ t, exec (.preemptWrite pkg kern) s = .next t ∧ status t 2 ∧ t.mem = s.mem) ∧
      (recordField k.record 0x48 8 ≠ 0 → k.state = .running →
        ∃ t, exec (.preemptWrite pkg kern) s = .next t ∧ status t 0 ∧ t.mem = s.mem ∧
          t.kernelAt pkg kern = some { k with state := .preempting, preemptHeld := false }) ∧
      (k.state = .preempted → ∃ t, exec (.resumeWrite pkg kern) s = .next t ∧ status t 0 ∧ t.mem = s.mem ∧
        t.kernelAt pkg kern = some { k with state := .resuming }) ∧
      (k.state ≠ .preempted → ∃ t, exec (.resumeWrite pkg kern) s = .next t ∧ status t 3 ∧ t.mem = s.mem) ∧
      (s.doneReady pkg k.record k.asid k.ptroot (k.cores.headD (pkg * 2048)) = true →
        ∃ t, exec (.abortWrite pkg kern sup) s = .next t ∧ status t 0 ∧ gone t) ∧
      (k.kernid.toNat = kern → k.state = .preempted ∨ k.state = .resuming → (∀ c ∈ k.cores, (s.ctxOf c kern).away = true) → cores.Nodup →
        s.candidateOk pkg k.record cores (some kern) = true →
          ∃ t, exec (.kernelResumePlacement pkg kern cores) s = .next t ∧ t.kernelAt pkg kern = some { k with state := .resuming, cores := cores } ∧
            placed t .restoring) ∧
      (k.state = .draining → (∀ d ∈ s.dies, d.1 / 4 = pkg → (∀ x ∈ d.2.posts, x.kern ≠ kern) ∧ ∀ x ∈ d.2.landings, x.post.kern ≠ kern) →
        (∀ c ∈ k.cores, s.coreDrained c kern = true ∧ s.cleanReady c = true) → s.barsQuiet pkg kern (fun _ => true) = true →
        s.doneReady pkg k.record k.asid k.ptroot (k.cores.headD (pkg * 2048)) = true →
          ∃ t, exec (.completionRecordWrite pkg kern) s = .next t ∧ gone t)) ∧
    (let c := s.coreAt core
     let x := s.ctxOf core kern
     x.state = .loading → c.gated = false → c.waking = false → (s.bentAt (bentOf core)).gated = false → x.latePreempt = false →
      ∃ t, exec (.contextLoadingDone core kern) s = .next t ∧ (t.ctxOf core kern).state = .ready ∧ t.mem = s.mem ∧
        (t.ctxOf core kern).gen = loadGenerator kern (numOf core) ∧
        (∀ b, x.awin.base ≤ b → b < x.awin.base + x.awin.size → storeByte t core 1 b = 0) ∧
        (∀ b, x.wwin.base ≤ b → b < x.wwin.base + x.wwin.size → storeByte t core 2 b = 0) ∧
        ∀ b, x.cwin.base ≤ b → b < x.cwin.base + x.cwin.size → storeByte t core 3 b = 0)

/-- 09 R198: LAUNCH copies the record at ga, lowers its priority to that of its own kernel, releases at package scope and writes the
KERNID of the admitted kernel to gd, or bit 63 with the status of the refusal; a misaligned entry takes IMISALIGN and a DONE outside
space 0 gives status 1. -/
def Obligations.LaunchCompletes : Prop :=
  ∀ (d a : BitVec 5) (sc : BitVec 3) (s r : State) (v : Nat), Issues (.launch d a sc) [.g a] [.g d] s →
    let p := s.prepare [.g a] [.g d]
    p.readBlock (p.readG a) 256 256 false = (r, .ok v) → r.releaseReady r.cur r.core.curSlot.val 4 = true →
    let raw := BitVec.ofNat 2048 v
    let pkg := pkgOf r.cur
    let prio := ((r.kernelAt pkg r.kern).map Kernel.prio).getD 7
    let record := recordSetByte raw 0x29 (Nat.min (recordField raw 0x29 1) prio)
    let q := r.release r.cur 4
    let answers (t : State) (x : Nat) : Prop := t.slot.pc = s.slot.pc + 4 ∧ t.slot.run = .ready ∧ (d ≠ 0 → landedG t d = BitVec.ofNat 64 x)
    (recordField raw 0 8 % 4 ≠ 0 → exec (.launch d a sc) s = .next (q.trap Cause.imisalign (BitVec.ofNat 64 (recordField raw 0 8)))) ∧
    (recordField raw 0 8 % 4 = 0 → recordField record 0x58 8 / 2 ^ 61 ≠ 0 → ∃ t, exec (.launch d a sc) s = .next t ∧ answers t (2 ^ 63 + 1)) ∧
    (recordField raw 0 8 % 4 = 0 → recordField record 0x58 8 / 2 ^ 61 = 0 → q.doneReady pkg record q.ctx.asid q.ctx.ptroot q.cur = true →
      ∀ u status id, q.submit pkg record none (some q.kern) q.ctx.asid q.ctx.ptroot = (u, status, id) →
        ∃ t, exec (.launch d a sc) s = .next t ∧ answers t (if status = 0 then id else 2 ^ 63 + status) ∧ status = q.admission pkg record ∧
          (status = 0 → ∃ k, t.kernelAt pkg id = some k ∧ k.state = .admitted ∧ k.record = record ∧ k.parent = some q.kern))

/-! ### Contexts (19) -/

/-- 19 R355, R357, R360, R362, R363, R419: the budget is armed and expires, a forced stop stands its tasks still, a supervisor
record starts a task, a context is saved and its slots are free, the groups of a restore complete in order, and a failing access to
the save area makes the context Faulted. -/
def Obligations.ContextsComplete : Prop :=
  ∀ (core kern slot : Nat) (value : Word) (s : State),
    let c := s.coreAt core
    let x := s.ctxOf core kern
    (value.getLsbD 62 = true → slot < 8 → (s.slotOf core slot).ctx = some kern → s.hasCtx core kern = true → x.budget.pend = false →
      ∃ t, exec (.budgetArm core slot value) s = .next t ∧ t.mem = s.mem ∧ (t.ctxOf core kern).budget =
        { x.budget with limit := bits value 0 24, sarm := true, remain := bits value 32 24, slot := (s.slotOf core slot).num, start := s.cycleOf core }) ∧
    (s.hasCtx core kern = true → x.budget.sarm = true → x.budget.pend = false → x.budget.expired (s.cycleOf core) = true →
      let u := s.modCtxOf core kern fun c => { c with budget := { c.budget with sarm := false, remain := 0 } }
      (c.slotNumbered kern x.budget.slot = none →
        exec (.budgetWatchdogExpiry core kern) s = .next u) ∧
      (∀ n, c.slotNumbered kern x.budget.slot = some n → (s.slotOf core n).run ≠ .free →
        exec (.budgetWatchdogExpiry core kern) s = .next (u.asyncTrap core n Cause.budget 0 0))) ∧
    (∀ u, x.state = .draining → x.budget.pend = true → x.budget.expired (s.cycleOf core) = true → slot < 8 →
      (∀ n, n < 8 → (c.stoppable kern n = true ↔ n = slot)) → s.forceStop core kern slot = some u →
        exec (.forcedStop core kern) s = .next u ∧ (u.slotOf core slot).run = .stopped) ∧
    (∀ u w n, x.starts = true → s.saveAreaQuiet core kern 0 256 = true → s.saveAreaRead core kern 0x48 8 = (u, some w) →
      x.svcWaiting ≠ 0 → c.lowestSlot kern (fun sl => sl.run = .free) = some n → u.hasCtx core kern = true →
      (u.ctxOf core kern).tvec.toNat % 4 = 0 → (u.ctxOf core kern).tvec.toNat < 2 ^ 48 →
        ∃ t, exec (.supervisorQueueDelivery core kern) s = .next t ∧ (t.ctxOf core kern).svcWaiting = (u.ctxOf core kern).svcWaiting - 1 ∧
          let sl := t.slotOf core n
          sl.run = .ready ∧ sl.mode = .supervisor ∧ sl.td = 1 ∧ sl.pc = (u.ctxOf core kern).tvec ∧
            sl.bank0.tval = x.saveptr + BitVec.ofNat 64 (0xE000 + 64 * x.nextRecord w) ∧ sl.bank0.tinfo = BitVec.ofNat 64 (x.nextRecord w)) ∧
    (∀ t, x.state = .saving → s.saveReady core kern = true → s.saveContext core kern = some t →
      exec (.contextSaveComplete core kern) s = .next t ∧ (t.ctxOf core kern).state = .saved ∧
        (∀ n, n < 8 → (t.slotOf core n).ctx ≠ some kern) ∧ ∀ y ∈ (t.coreAt core).truss, y.kern ≠ kern) ∧
    (∀ i g t, (i, g) ∈ [(Instr.restoreState core kern, 0), (.restoreLeases core kern, 1), (.restoreTruss core kern, 2), (.restoreEngq core kern, 3),
        (.restoreTasks core kern, 4)] → x.state = .restoring → x.restctl.toNat % 2 ^ g = 2 ^ g - 1 → s.restoreGroup core kern g = some t →
      exec i s = .next t ∧ (g < 4 → (t.ctxOf core kern).restctl.getLsbD g = true) ∧ (g = 4 → (t.ctxOf core kern).state ≠ .restoring)) ∧
    (s.hasCtx core kern = true → ∃ t, exec (.restctlErrClear core kern) s = .next t ∧ t.mem = s.mem ∧
      (t.ctxOf core kern).restctl = x.restctl &&& 0x7FFFFFFFFFFFFFFF) ∧
    (∀ cause : BitVec 8, s.areaFailure core kern = some (cause.toNat, value.toNat) →
      exec (.saveAreaAccessFailure core kern cause value) s = .next (s.saveAreaFault core kern cause value))

/-! ### Links (22) -/

/-- 22 R383, R385, R387, R389, R390, R392, tables 22.3, 22.4: a link trains, repairs lanes, replays flits, quiesces, retrains, fails
and is isolated; each event enters the log of the dies at its ends; a failed link settles the requests that were on it. -/
def Obligations.LinksComplete : Prop :=
  ∀ (link pkg die module : Nat) (far : Bool) (width : BitVec 8) (lane : BitVec 16) (mask : BitVec 36) (value : Word) (s : State),
    let l := s.linkAt link
    let w := Nat.min width.toNat (l.mostWidth link)
    let logged (t : State) (event count lane : Nat) : Prop := ∀ e ∈ linkEnds (linkId link),
      let d := s.dieAt (linkPkg link * 4 + e)
      (t.dieAt (linkPkg link * 4 + e)).logTail = d.logTail + 1 ∧
        AMap.getD (t.dieAt (linkPkg link * 4 + e)).log d.logTail.toNat (0, 0) = (BitVec.ofNat 64 (s.time (linkPkg link)),
          BitVec.ofNat 64 (linkId link * 2 ^ 56 + event * 2 ^ 48 + count % 2 ^ 32 * 2 ^ 16 + lane % 2 ^ 16))
    let goes (i : Instr) (x : Link) : Prop := ∃ t, exec i s = .next t ∧ t.linkAt link = x ∧ t.mem = s.mem
    let retrained (i : Instr) (x : Link) (lane : Nat) : Prop := ∃ t, exec i s = .next t ∧ t.linkAt link = x ∧ t.mem = s.mem ∧ logged t 2 0 lane
    let failed (i : Instr) : Prop := ∃ t, exec i s = .next t ∧ (t.linkAt link).st = .failed ∧ t.mem = s.mem ∧ logged t 5 0 0
    (s.hasLink link = true → l.st = .down → goes (.linkTrainingStart link) { l with st := .training, since := s.cycle }) ∧
    (l.st = .training → leastWidth link ≤ w → goes (.linkTrained link width)
      { l with st := if l.quiesceNext then .quiescing else .up, width := w, streak := 0, quiesceNext := false
               since := if l.quiesceNext then l.since else s.cycle }) ∧
    (l.st = .retraining → leastWidth link ≤ w → ∃ t, exec (.linkTrained link width) s = .next t ∧ t.mem = s.mem ∧ (t.linkAt link).width = w ∧
      (t.linkAt link).st = (if l.quiesceNext then .quiescing else .up) ∧ (l.width ≤ w → logged t 3 w 0)) ∧
    (l.st = .training ∨ l.st = .retraining → w < leastWidth link → failed (.linkTrained link width)) ∧
    (l.st = .training ∨ l.st = .retraining → l.since + s.ltmoCycles (linkPkg link) (linkId link) ≤ s.cycle → failed (.ltmoExpiry link)) ∧
    (let m := if isUcie link then module else 0
     let n := l.failed far m
     let grown := { l with lanes := (far, m, lane.toNat) :: l.lanes }
     s.hasLink link = true → l.lanes.contains (far, m, lane.toNat) = false → (isUcie link = true → m < 8) → l.st = .up →
      (isHostLink link = false → n < (if isUcie link then 4 else 1) →
        ∃ t, exec (.laneFailure link lane far module) s = .next t ∧ logged t 1 1 lane.toNat ∧ t.mem = s.mem ∧ t.linkAt link =
          { grown with repaired := l.repaired + 1, health := { l.health with corrected := l.health.corrected + 1 } }) ∧
      (isHostLink link = true ∨ (if isUcie link then n = 4 else 1 ≤ n) → retrained (.laneFailure link lane far module)
        { grown with st := .retraining, retrains := l.retrains + 1, since := s.cycle, streak := 0 } (if isUcie link then m else lane.toNat)) ∧
      (isUcie link = true → 5 ≤ n → goes (.laneFailure link lane far module) grown)) ∧
    (l.st = .up → ∃ n, (n = 1 ∨ n = l.streak + 1) ∧
      (n < 16 → goes (.flitCrcError link) { l with replays := l.replays + 1, streak := n }) ∧
      (16 ≤ n → retrained (.flitCrcError link)
        { l with replays := l.replays + 1, st := .retraining, retrains := l.retrains + 1, since := s.cycle, streak := 0 } 0)) ∧
    (s.hasLink link = true → l.st = .up → goes (.quiesceCommand link) { l with st := .quiescing, since := s.cycle }) ∧
    (s.hasLink link = true → l.st = .training ∨ l.st = .retraining → goes (.quiesceCommand link) { l with quiesceNext := true }) ∧
    (l.st = .quiescing → (∀ c ∈ s.cores, ∀ r ∈ c.2.requests, r.done = true → r.landed = false → s.requestCrosses link c.1 r = false) →
      goes (.quiesceDrained link) { l with st := .quiesced, since := s.cycle - l.since }) ∧
    (l.st = .quiesced → retrained (.quiesceRelease link)
      { l with st := .retraining, retrains := l.retrains + 1, since := s.cycle - l.since, streak := 0 } 0) ∧
    (l.st = .failed → (∀ e ∈ s.unreachable, s.pageQuiet e.1 e.2 = true) →
      ∃ t, exec (.linkFailedSettle link) s = .next t ∧ (t.linkAt link).st = .isolated ∧
        ∀ c ∈ s.cores, ∀ r ∈ (s.coreAt c.1).requests, r.done = false → s.requestCrosses link c.1 r = true → s.requestLost link c.1 r = true →
          ∀ q ∈ (t.coreAt c.1).requests, q.id = r.id → q.done = true ∧ q.error = some (Cause.remoteError, 3)) ∧
    (s.hasLink link = true → l.st = .isolated → goes (.linkReset link) { l with st := .down, width := 0, quiesceNext := false, streak := 0 }) ∧
    (∃ t, exec (.planeMaskUpdate pkg mask) s = .next t ∧ t.mem = s.mem ∧ t.pkgAt pkg = { s.pkgAt pkg with planeMask := mask }) ∧
    (∃ t, exec (.ltmoWrite die value) s = .next t ∧ t.mem = s.mem ∧ (t.dieAt die).ltmo =
      (if 1 ≤ value.toNat % 2 ^ 20 ∧ value.toNat % 2 ^ 20 ≤ 1000000 then bits value 0 20 else (s.dieAt die).ltmo)) ∧
    (∃ t, exec (.logheadWrite die value) s = .next t ∧ t.mem = s.mem ∧ (t.dieAt die).logHead = bits value 0 7 ∧ (t.dieAt die).logOvf = false)

/-! ### Platform (10, 22, 26) -/

/-- 10 R209, 22 R394, 26 R409, R412, R414: cores and bents are gated and wake, a core fails and is reset, a die goes through the steps of its warm
reset, and a cold reset leaves a package's cores, bents, dies and memory as after reset. Which core the spare map's first entry names is read as in
assumption log 115. -/
def Obligations.ResetsComplete : Prop :=
  ∀ (core bent die pkg : Nat) (spares : List Nat) (s : State),
    let c := s.coreAt core
    let b := s.bentAt bent
    let d := s.dieAt die
    (c.gated = false → c.resetting = false → c.resident [] = [] → c.idleSince + 14000 ≤ s.cycle →
      ∃ t, exec (.coreGate core) s = .next t ∧ t.mem = s.mem ∧ t.coreAt core = { c with gated := true, waking := false }) ∧
    (c.gated = true → c.waking = true → (s.bentAt (bentOf core)).gated = false →
      ∃ t, exec (.coreWakeComplete core) s = .next t ∧ t.mem = s.mem ∧ t.coreAt core =
        { c with gated := false, waking := false, idleSince := s.cycle, ctxs := AMap.mapVals c.ctxs Ctx.woken }) ∧
    (b.gated = false → b.held = false → (∀ k ∈ coresOfBent bent, (s.coreAt k).gated = true ∧ (s.coreAt k).waking = false) →
      (∀ l ∈ s.dirtyLines bent, s.quiet bent l = true) →
        ∃ t, exec (.bentGate bent) s = .next t ∧ (t.bentAt bent).gated = true) ∧
    (b.gated = true → b.waking = true → ∃ t, exec (.bentWakeComplete bent) s = .next t ∧ t.mem = s.mem ∧ t.bentAt bent = { b with gated := false, waking := false }) ∧
    (c.resetting = true → c.resetAt + 2048 ≤ s.cycle →
      ∃ t, exec (.coreResetComplete core) s = .next t ∧ t.mem = s.mem ∧
        let x := t.coreAt core
        x.resetting = false ∧ x.ctxs = [] ∧ x.truss = [] ∧ x.fwvec = c.fwvec ∧ x.sealBits = c.sealBits ∧ x.outOfPlacement = (c.outOfPlacement || c.health.state = 2) ∧
          x.slots = (Vector.replicate 8 ({} : Slot)).set 0 { Slot.boot with pc := c.fwvec } ∧ ∀ code k, Memory.read (x.store code) k = 0) ∧
    (∃ t, exec (.coreFailure core) s = .next t ∧ (t.coreAt core).halted = true ∧ (t.coreAt core).outOfPlacement = true ∧ (t.coreAt core).health.state = 2 ∧
      ∀ n, n < 8 → (t.slotOf core n).run = .free) ∧
    (d.phase = .running → ∃ t, exec (.dieWarmReset die) s = .next t ∧ t.mem = s.mem ∧
      t.dieAt die = { d with phase := .leaving, phaseAt := s.cycle, inPlacement := false }) ∧
    (d.phase = .leaving → d.phaseAt + 1400 * (s.pkgAt (die / 4)).rstwait.toNat ≤ s.cycle →
      ∃ t, exec (.resetWaitExpiry die) s = .next t ∧ (t.dieAt die).phase = .recalling ∧ (t.dieAt die).phaseAt = s.cycle) ∧
    (d.phase = .recalling → d.rehomes = [] → d.rehomeQueue = [] → d.ptWrites = [] →
      (∀ x ∈ s.recallTargets, ∀ l ∈ s.linesHomed x die, s.quiet x l = true) →
      (∀ x ∈ s.bents.keys, dieOfBent x = die → ∀ l ∈ s.dirtyLines x, s.quiet x l = true) →
        ∃ t, exec (.dieRecallComplete die) s = .next t ∧ (t.dieAt die).phase = .quiescing ∧ (t.dieAt die).phaseAt = s.cycle) ∧
    (d.phase = .quiescing → (∀ l ∈ linksOfDie die, (s.linkAt l).st.atRest = true) →
      ∃ t, exec (.dieResetComplete die spares) s = .next t ∧ t.mem = s.mem ∧ (t.dieAt die).phase = .retraining ∧ (t.dieAt die).cycle0 = s.cycle ∧
        (∀ k, dieOf k = die → (t.coreAt k).ctxs = []) ∧ (∀ k, dieOfBent k = die → (t.bentAt k).l2 = [] ∧ (t.bentAt k).sram = [])) ∧
    (d.phase = .retraining → (∀ l ∈ linksOfDie die, (s.linkAt l).st ≠ .retraining) →
      (∀ x ∈ s.recallTargets, ∀ page ∈ (s.bentAt x).subs.keys, homeOf (page * 2 ^ 15) = die → s.pageQuiet x page = true) →
        ∃ t, exec (.dieReturnToPlacement die) s = .next t ∧ (t.dieAt die).phase = .running ∧ (t.dieAt die).inPlacement = true) ∧
    (∃ t, exec (.coldReset pkg) s = .next t ∧ t.pkgAt pkg = (s.pkgAt pkg).coldReset s.cycle ∧
      (∀ k, pkgOf k = pkg → ∃ n, t.coreAt k = { Core.reset k with
        phys := n, halted := (t.coreAt k).halted, outOfPlacement := (t.coreAt k).outOfPlacement, health := (t.coreAt k).health }) ∧
      ((s.pkgAt pkg).flash.refusal (s.pkgAt pkg).counter = none →
        ((s.pkgAt pkg).flash.spareMap = [] → ∀ k, pkgOf k = pkg → t.coreAt k = Core.reset k) ∧
        (∀ n, (s.pkgAt pkg).flash.spareMap = [n] → ∀ k, pkgOf k = pkg →
          t.coreAt k = if k = pkg * 2048 + n % 2048 then { Core.reset k with phys := 16 } else Core.reset k)) ∧
      (∀ k, pkgOfBent k = pkg → t.bentAt k = { Bent.reset with degraded := (t.bentAt k).degraded, health := (t.bentAt k).health }) ∧ (∀ k, k / 4 = pkg → t.dieAt k = { Die.reset with cycle0 := (t.dieAt k).cycle0 }) ∧
      (Memory.wf s.mem = true → ∀ a, Memory.read t.mem a = if a / 2 ^ 40 = pkg then 0 else Memory.read s.mem a))

/-- 00 R6, 26 R406, R407, R413, R415, R416, R418: the host writes registers, a sealed or committed platform block keeps its values,
controllers take over, thermal state is kept, soft errors are counted and poison their granule, and SPDM requests are answered. -/
def Obligations.PlatformComplete : Prop :=
  ∀ (core die region pkg q i word : Nat) (value : Word) (nonce : BitVec 256) (store : BitVec 2) (flag : Bool) (s : State),
    let p := s.pkgAt pkg
    let h := AMap.getD p.hostq q {}
    let th := AMap.getD (s.dieAt die).thermal region {}
    let c := s.coreAt core
    let writes (i : Instr) (x : Pkg) : Prop := ∃ t, exec i s = .next t ∧ t.pkgAt pkg = x ∧ t.mem = s.mem ∧ t.cores = s.cores
    let heats (i : Instr) (x : Thermal) : Prop := ∃ t, exec i s = .next t ∧ AMap.getD (t.dieAt die).thermal region {} = x ∧ t.mem = s.mem
    (i < 4 → ∃ t, exec (.registerWrite pkg (0x20 + 8 * i) value) s = .next t ∧ t.mem = s.mem ∧ bits (t.pkgAt pkg).featacc (64 * i) 64 = value ∧
      ∀ j, j < 4 → j ≠ i → bits (t.pkgAt pkg).featacc (64 * j) 64 = bits p.featacc (64 * j) 64) ∧
    (∀ off x, q < 8 → (off, x) ∈ [(0, { h with base := value &&& 0xFFFFFFFFFFFFF000 }), (8, { h with size := bits value 0 4 }),
        (0x10, { h with root := value &&& 0xFFFFFFFFF000 }), (0x18, { h with asid := bits value 0 12 }),
        (0x28, { h with ctl := bits value 0 16 &&& 0xFF01 })] →
      writes (.registerWrite pkg (0x100 + 0x40 * q + off) value) { p with hostq := AMap.set p.hostq q x }) ∧
    (p.committed = false → s.platformSealed pkg = false → ∀ off x,
      (off, x) ∈ [(0, { p with hwbase := value &&& 0xFFFFFFFFFFFFF000 }), (8, { p with hwsize := value &&& 0xFFFFFFFFFFFFF000 }),
        (0x10, if 1 ≤ value.toNat % 2 ^ 20 ∧ value.toNat % 2 ^ 20 ≤ 1000000 then { p with rstwait := bits value 0 20 } else p),
        (0x18, { p with umqsize := bits value 0 4 }), (0x20, { p with pkgno := bits value 0 8 })] →
      writes (.registerWrite pkg (0x5000 + off) value) x) ∧
    (p.committed = true ∨ s.platformSealed pkg = true → ∀ off, off < 0x1000 → exec (.registerWrite pkg (0x5000 + off) value) s = .next s) ∧
    writes (.managementTakeover pkg) (if p.dies.contains 0 && p.dies.contains 3 then { p with management := if p.management = 0 then 3 else 0 } else p) ∧
    writes (.launchControllerTakeover pkg) (if p.dies.contains 0 && p.dies.contains 1 then { p with control := if p.control = 0 then 1 else 0 } else p) ∧
    (region < 8 →
      heats (.thermalDutyStep die region flag) { th with duty := if flag then Nat.min 16 (th.duty + 1) else if 1 < th.duty then th.duty - 1 else th.duty } ∧
      heats (.fluxWrite die region value) { th with flux := value.toNat } ∧
      (th.duty ≤ 1 → heats (.regionDegraded die region) { th with degraded := true })) ∧
    exec (.patrolScrub core store word) s = .next s ∧
    (∃ t, exec (.correctedError core) s = .next t ∧ t.mem = s.mem ∧ (t.coreAt core).health.corrected = c.health.corrected + 1 ∧
      (c.health.state = 0 → (c.health.recent.filter fun x => decide (s.time (pkgOf core) < x + 1000000000)).length < 16 → (t.coreAt core).health.state = 0)) ∧
    (store = 0 ∨ word < 0x4000 →
      ∃ t, exec (.uncorrectableError core store word) s = .next t ∧ t.mem = s.mem ∧ (t.coreAt core).health.uncorrected = c.health.uncorrected + 1 ∧
        (store = 0 → word ∈ t.poison) ∧ (store = 1 → word ∈ (t.coreAt core).poisonA) ∧ (store = 2 → word ∈ (t.coreAt core).poisonW) ∧
        (store = 3 → word / 32 ∈ (t.coreAt core).poisonC)) ∧
    writes (.getCertificate pkg flag) { p with spdm := ⟨0, flag, Config.certificateChain pkg⟩ :: p.spdm } ∧
    writes (.challenge pkg flag nonce) { p with spdm := ⟨1, flag, [(Config.signature (pkg * 4 + p.management) nonce).toNat]⟩ :: p.spdm } ∧
    writes (.getMeasurements pkg flag) { p with spdm := ⟨2, flag, p.measured.map fun x => (Config.measurement x).toNat⟩ :: p.spdm }

/-! ### Split-phase requests (06) -/

/-- 04 R99, R101, 06 R138 to R142, R144, R146, 07 R170, R171: a request takes effect at its target (a store of another core, a bent SRAM, the host
link, the bent L2, the home agent of the line's stack) and its answer lands: a posted one is acknowledged or leaves its error, an instruction writes
its register and goes on or takes its trap; a parked slot becomes ready; the spill yard and the trace ring are set. Whether a target of another
revision lacks an atomic, and whether host memory refuses an access, are left open (assumption log 125, 144). -/
def Obligations.RequestsComplete : Prop :=
  ∀ (core slot id die stack kern : Nat) (abort : Bool) (size : BitVec 2) (data : Vec) (value : Word) (s : State),
    let c := s.coreAt core
    let earliest (r : Request) : Prop := (∀ q ∈ c.requests, q.id < r.id → q.done = false → q.place ≠ r.place)
    let answered (t : State) (x : Vec) (e : Option (BitVec 8 × Word)) : Prop :=
      ∀ q ∈ (t.coreAt core).requests, q.id = id → q.done = true ∧ q.data = x ∧ q.error = e
    let replies (i : Instr) (x : Vec) (e : Option (BitVec 8 × Word)) : Prop := ∃ t, exec i s = .next t ∧ t.mem = s.mem ∧ answered t x e
    (∀ r, c.requests.find? (fun r => r.id == id && !r.done) = some r → r.id = id → earliest r → r.atL2 = false →
      (spaceOf r.addr = 4 →
        let k := remoteCore r.addr
        let code := remoteStore r.addr
        let off := (if r.sup then 0 else ((s.ctxOf k (r.kern.getD 0)).window code).base) + r.addr.toNat % 2 ^ 27
        let old := r.old.getD (s.storeRead k code off r.op.size)
        let x := r.op.result old
        (∀ e, s.route (dieOf core) (dieOf k) = .error e →
          replies (.remoteAccessArrival core id) 0 (some (Cause.remoteError, BitVec.ofNat 64 e))) ∧
        (s.route (dieOf core) (dieOf k) = .go → s.targetOk k r.kern r.sup = false →
          replies (.remoteAccessArrival core id) 0 (some (Cause.remoteError, 1))) ∧
        (s.route (dieOf core) (dieOf k) = .go → s.targetOk k r.kern r.sup = true → s.traceReady k = true →
          let lacks := s.unsupported core (pkgOf k) r.op
          (r.op.readsOld = true → (s.coreAt k).storePoisoned code off r.op.size = true →
            replies (.remoteAccessArrival core id) 0 (some (if lacks then Cause.atomicUnsupported else Cause.mce, 0))) ∧
          (r.op.readsOld = false ∨ (s.coreAt k).storePoisoned code off r.op.size = false →
            (r.op.inTwo = true → r.old = none → ∃ t, exec (.remoteAccessArrival core id) s = .next t ∧ t.mem = s.mem ∧
              ∀ q ∈ (t.coreAt core).requests, q.id = id → q.old = some old) ∧
            (r.op.inTwo = false ∨ r.old ≠ none → (∀ p ∈ (s.coreAt k).ctxs, p.2.tracectl.getLsbD 0 = false) →
              ∃ t, exec (.remoteAccessArrival core id) s = .next t ∧ t.mem = s.mem ∧
                answered t (if lacks then 0 else BitVec.ofNat 512 old) (if lacks then some (Cause.atomicUnsupported, 0) else none) ∧
                ∀ j y, (t.coreAt j).store y = ((if lacks ∨ x.2 = 0 then s else s.storeWrite k code off r.op.size x.1 x.2).coreAt j).store y)))) ∧
      (spaceOf r.addr = 5 →
        let b := pkgOf core * 128 + r.addr.toNat / 2 ^ 41 % 128
        let o := r.addr.toNat % 2 ^ 21
        let old := Memory.readNat (s.bentAt b).sram o r.op.size
        s.route (dieOf core) (dieOfBent b) = .go →
          ∃ t, exec (.remoteAccessArrival core id) s = .next t ∧ t.mem = s.mem ∧ answered t (BitVec.ofNat 512 old) none ∧
            (t.bentAt b).sram = Memory.writeMasked (s.bentAt b).sram o r.op.size (r.op.result old).1 (r.op.result old).2) ∧
      (spaceOf r.addr = 6 →
        let p := s.pkgAt (pkgOf core)
        let o := offsetOf r.addr
        (o < p.hwbase.toNat ∨ p.hwbase.toNat + p.hwsize.toNat < o + r.op.size → replies (.remoteAccessArrival core id) 0 (some (Cause.remoteError, 2))) ∧
        (p.hwbase.toNat ≤ o → o + r.op.size ≤ p.hwbase.toNat + p.hwsize.toNat → s.barOffset (pkgOf core) o r.op.size = none →
          s.hostRoute (dieOf core) false = .go →
          (∀ n v m, r.op = .store n v m → ∃ t, exec (.remoteAccessArrival core id) s = .next t ∧ t.mem = s.mem ∧ answered t 0 none ∧
            (t.pkgAt (pkgOf core)).hostWrites = (BitVec.ofNat 64 o, (List.range n).map fun i => BitVec.ofNat 8 (v / 2 ^ (8 * i))) :: p.hostWrites) ∧
          (∀ op dbl x cmp, r.op = .atomic op dbl x cmp → ∃ t, exec (.remoteAccessArrival core id) s = .next t ∧ t.mem = s.mem ∧ answered t 0 none ∧
            (t.pkgAt (pkgOf core)).hostAtomics = ⟨BitVec.ofNat 64 o, op, dbl, x, cmp⟩ :: p.hostAtomics))) ∧
      (∀ rest, spaceOf r.addr = 0 → (s.dieAt die).homeQueue stack = (core, id) :: rest → s.homeRoute (bentOf core) r.pa = .go →
        s.poisoned r.pa r.op.size = false → s.rehomeOf (r.pa / 2 ^ 15) = none → s.entryRehoming r.pa = false →
        (∀ w ∈ (s.dieAt (homeOf r.pa)).ptWrites, w.addr / 256 ≠ r.pa / 256) →
          let lacks := s.unsupported core (homeOf r.pa / 4) r.op
          let old := s.memRead r.pa r.op.size
          let x := r.op.result old
          ∃ t, exec (.homeAgentRequest die stack) s = .next t ∧ (t.dieAt die).homeQueue stack = rest ∧
            t.mem = (if lacks ∨ x.2 = 0 then s else s.homeWrite r.pa r.op.size x.1 x.2 (some (core, r.slot))).mem ∧
            answered t (if lacks then 0 else BitVec.ofNat 512 old) (if lacks then some (Cause.atomicUnsupported, 0) else none))) ∧
    (∀ r l, c.requests.find? (fun r => r.id == id && !r.done) = some r → r.id = id → earliest r → r.atL2 = true →
      let b := bentOf core
      s.quiet b (r.pa / 256) = true → AMap.find? (s.bentAt b).l2 (r.pa / 256) = some l → (s.bentAt b).current l = true →
      s.poisonedIn b r.pa r.op.size = false →
        let u := s.l2Current b (r.pa / 256)
        let old := u.l2Read b r.pa r.op.size
        let x := r.op.result old
        ∃ t, exec (.remoteAccessArrival core id) s = .next t ∧ answered t (BitVec.ofNat 512 old) none ∧
          t.bents = (if x.2 = 0 then u else u.l2Put b (r.pa / 256) (r.pa % 256) r.op.size x.1 x.2).bents) ∧
    (∀ r, c.requests.find? (fun r => r.id == id && r.done && !r.landed) = some r → r.slot < 8 →
      let host : Prop := spaceOf r.addr = 6 ∧ (s.barOffset (pkgOf core) (offsetOf r.addr) r.op.size).isNone = true
      (r.dest = .posted → ∃ t, exec (.replyLanding core id data abort) s = .next t ∧ t.mem = s.mem ∧
        (t.coreAt core).requests = c.requests.filter (fun q => q.id != id) ∧
        (t.slotOf core r.slot).perr.count = (s.slotOf core r.slot).perr.count + (if r.error.isSome then 1 else 0)) ∧
      (∀ d n signed taint acq, r.dest = .g d n signed taint acq → c.requests.filter (fun q => q.slot == r.slot && q.dest ≠ .posted) = [r] →
        let x := if host then data else r.data
        (r.error = none → (host → abort = false) → ∃ t, exec (.replyLanding core id data abort) s = .next t ∧
          let u := t.slotOf core r.slot
          u.run = .ready ∧ u.pc = (s.slotOf core r.slot).pc + 4 ∧ u.pend = [] ∧ (d ≠ 0 → u.readG d = extendBytes n signed x.toNat)) ∧
        (∀ e, r.error = some e ∨ (r.error = none ∧ host ∧ abort = true ∧ e = (Cause.remoteError, 2)) → ∃ u : State,
          exec (.replyLanding core id data abort) s = .next (u.takeTrapAt core r.slot e.1 r.addr e.2 (s.slotOf core r.slot).pc false)))) ∧
    (slot < 8 → (s.slotOf core slot).run = .waiting → s.awaitsWalk core slot = false → c.fillOpen slot = false →
      ∃ t, exec (.slotReady core slot) s = .next t ∧ (t.slotOf core slot).run = .ready ∧ (t.coreAt core).steal.blocked = 0 ∧ t.mem = s.mem) ∧
    (∀ u, s.writeYard core slot size = some u → exec (.yardWrite core slot size) s = .next u ∧
      (u.coreAt core).yard = if c.otherTasks slot then c.yard else size) ∧
    (∀ u, s.hasCtx core kern = true → value.getLsbD 0 = true → s.accepted core 8 = true → s.writeTracectl core kern value = some u →
      exec (.tracectlEnable core kern value) s = .next u ∧ (u.ctxOf core kern).tracectl.getLsbD 0 = true)

/-! ### Steps, decoding, memory and reset -/

/-- 02 R27, R30, R49, 05 R109, 06 R142: the step of the slot that is next on a core is exec of the instruction that its fetched word decodes to, of
illegalWord for a word that decodes to none, or the trap of the fetch; a word that is not fetched ahead, that no cache holds and whose home is reached
is the four bytes of memory at its address; a second slot issues its instruction of the two-pipe class in the same cycle; an event turn is exec of its
row and a tick lets cycles pass; two slots whose instructions both pop or both push one queue do not issue together, the lower goes first (13 R244). The choice of the next turn from the agenda, and of which two slots pair, is the model's own (assumption log 1, 143).
-/
def Obligations.StepRunsDecoded : Prop :=
  ∀ (s s1 : State) (core slot other : Nat),
    let q := s1.switchTo core slot
    (s.takeTurn = (.issue core slot, s1) → (s1.coreAt core).nextSlot = some slot →
      (∀ u w, q.fetch = (u, .word w) →
        (∀ i, decode w = some i → step s = exec i u) ∧ (decode w = none → step s = exec (.illegalWord w) u)) ∧
      (∀ u cause tval tinfo, q.fetch = (u, .trap cause tval tinfo) → step s = .next (u.trap cause tval tinfo)) ∧
      (∀ u, q.fetch = (u, .wait) → step s = .next u.waitFetch) ∧
      (∀ u pa table, q.fetchedAhead = none → q.translate .fetch q.slot.pc.toNat = (u, .ok pa table) → u.poisoned pa 4 = false → pa % 4 = 0 →
        u.slot.pc.toNat % 256 = pa % 256 → u.homeRoute (bentOf u.cur) pa = .go →
        AMap.find? u.core.l1i (pa / 256) = none → AMap.find? (u.bentAt (bentOf u.cur)).l2 (pa / 256) = none →
          ∃ v, q.fetch = (v, .word (BitVec.ofNat 32 (Memory.readNat u.mem pa 4))))) ∧
    (s.takeTurn = (.pair core slot other, s1) → (s1.coreAt core).nextSlot = some slot → q.issuesTwoPipe = true → q.ringClash slot other = false →
      q.pushFirst slot other = false →
      ∀ t u w i v, slotStep core slot s1 = .next t → t.canPair other = true → (t.besides other).fetch = (u, .word w) → decode w = some i →
        exec i u = .next v → v.cycle = t.cycle →
          step s = .next (v.modCore fun x => { x with curSlot := t.core.curSlot, yielded := t.core.yielded, switchAt := t.core.switchAt })) ∧
    (s.takeTurn = (.pair core slot other, s1) → (s1.coreAt core).nextSlot = some slot → q.issuesTwoPipe = true → q.ringClash slot other = true →
      slot < other → q.canPair other = true → step s = slotStep core slot s1) ∧
    (∀ i, s.takeTurn = (.event i, s1) → i.isEvent = true → step s = exec i s1) ∧
    (∀ n, s.takeTurn = (.tick n, s1) → step s = .next { s1 with cycle := s1.cycle + n }) ∧
    (s.agenda = [] → s.core.heldReady = none → s.core.nextSlot = some slot → s.takeTurn = (.issue s.cur slot, s))

/-- 00 R3, R9: no instruction and no event stops the device: every one answers a next state, and so does every step whose agenda holds no instruction
in the place of an event. The agenda is the model's own list of turns (assumption log 1). -/
def Obligations.NoStepStops : Prop :=
  (∀ (i : Instr) (s : State), ∃ t, exec i s = .next t) ∧
  ∀ s : State, (∀ i rest, s.agenda = .event i :: rest → i.isEvent = true) → ∃ t, step s = .next t

/-- 02 R27 to R32: every well-formed instruction, with every value of its operands, is read back from its word; and a word that
decodes is the word of a well-formed instruction. -/
def Obligations.DecodeAndEncodeAgree : Prop :=
  (∀ i : Instr, i.isEvent = false → i.wellFormed = true → decode (encode i) = some i) ∧
  ∀ (w : BitVec 32) (i : Instr), decode w = some i → i.isEvent = false ∧ i.wellFormed = true ∧ encode i = w

/-- 02 tables 2.4 to 2.8: words written out from the encoding tables decode to their instructions. -/
def Obligations.WordsDecode : Prop :=
  decode 0x04A63B40#32 = some (.cselNez 5 6 7 8 0) ∧ decode 0x58802003#32 = some (.skipNez 4 3) ∧ decode 0x28A60040#32 = some (.paddi 5 6 64) ∧
  decode 0x60050000#32 = some .halt ∧ decode 0x38C24002#32 = some (.stW 6 2 2) ∧ decode 0x3C856001#32 = some (.ldcD 4 5 1) ∧
  decode 0x40A63828#32 = some (.ldbit 5 6 7 5 0) ∧ decode 0x2CA00024#32 = some (.luk 5 0x24) ∧ decode 0x14A50345#32 = some (.ori 5 5 0x345) ∧
  decode 0#32 = none

/-- 02 R32: outside firmware mode every word of major 0x3F takes ILLEGAL; in firmware mode FDROP and FSEAL are its instructions and
every other word takes ILLEGAL. -/
def Obligations.EscapeMajor : Prop :=
  ∀ (w : BitVec 32) (s : State), bits w 26 6 = 0x3F#6 → s.core.canIssue s.core.curSlot.val = true →
    (s.slot.mode ≠ .firmware → runWord w s = .next (s.trap Cause.illegal (w.setWidth 64) 0)) ∧
    (s.slot.mode = .firmware → decode w = none → runWord w s = .next (s.trap Cause.illegal (w.setWidth 64) 0)) ∧
    (∀ i, decode w = some i → (∃ a, i = .fdrop a) ∨ ∃ n, i = .fseal n) ∧
    (s.slot.mode = .firmware → s.hasFeature 0 = true → ∀ i, decode w = some i → runWord w s = exec i s ∧ s.permitted i = true)

/-- 00 R4: a multi-byte value at address a has its least significant byte at a: byte i of a written value is read at a + i, the
bytes around it stay, a value read is the sum of its bytes, and bit 0 of a field is its least significant bit. -/
def Obligations.LittleEndianMemory : Prop :=
  (∀ (m : Memory) (a n v : Nat), Memory.wf m = true →
    (∀ i, i < n → Memory.read (Memory.writeNat m a n v) (a + i) = BitVec.ofNat 8 (v / 2 ^ (8 * i))) ∧
    (∀ x, x < a ∨ a + n ≤ x → Memory.read (Memory.writeNat m a n v) x = Memory.read m x) ∧
    (∀ i, i < n → Memory.readNat m a n / 2 ^ (8 * i) % 2 ^ 8 = (Memory.read m (a + i)).toNat) ∧ Memory.readNat m a n < 2 ^ (8 * n)) ∧
  ∀ (k lo len i : Nat) (w : BitVec k), i < len → (bits w lo len).getLsbD i = w.getLsbD (lo + i)

/-- 00 R4: the canonical form of memories and maps is an invariant of every step: addresses and keys strictly rise and no byte is listed that an
unlisted address reads as. The canonical form is the model's own way to write memories and maps (00 R4; assumption log 3). -/
def Obligations.StepsKeepCanonicalForm : Prop :=
  ∀ s t : State, stateWf s = true → step s = .next t → stateWf t = true

/-- 26 R409, 09 R191, 10 R209: right after reset every core's first slot is ready in firmware mode at FWVEC with TD 0 and its other slots are free, no
feature is accepted, no kernel, context or link is up, and every memory is in canonical form. Where the boot ROM stands, and the values that the
manual does not give, are the model's own (assumption log 3 to 6); the statement names none of them. -/
def Obligations.ResetState : Prop :=
  stateWf State.reset = true ∧ State.reset.agenda = [] ∧
  ∀ k : Nat,
    let c := State.reset.coreAt k
    let p := State.reset.pkgAt k
    (c.slotAt 0).mode = .firmware ∧ (c.slotAt 0).pc = c.fwvec ∧ (c.slotAt 0).td = 0 ∧ c.canIssue 0 = true ∧
    (∀ n, 0 < n → n < 8 → (c.slotAt n).run = .free) ∧ c.ctxs = [] ∧ c.gated = false ∧ c.l1 = [] ∧ c.requests = [] ∧
    p.feat = 0 ∧ p.committed = false ∧ p.kernels = [] ∧ (∀ id, (State.reset.link k id).st = .down) ∧
    State.reset.time k = 0 ∧ (State.reset.dieAt k).inPlacement = true ∧ (State.reset.bentAt k).l2 = []
end

