-- ==== Sys2Proof/Laws/Decode.lean ====
section
/-!
SUPPORT. The fields of the word formats, read back, and the function that decodes each major.
-/
namespace Sys2Proof.Laws

open Sys2Proof

theorem fmtA_0_3 (op d a b fn s) : bits (fmtA op d a b fn s) 0 3 = s := by
  apply BitVec.eq_of_getLsbD_eq; intro i hi; simp [fmtA, hi, bits] <;> grind
theorem fmtA_3_2 (op d a b fn s) : bits (fmtA op d a b fn s) 3 2 = bits fn 0 2 := by
  apply BitVec.eq_of_getLsbD_eq; intro i hi; simp [fmtA, hi, bits] <;> grind
theorem fmtA_3_3 (op d a b fn s) : bits (fmtA op d a b fn s) 3 3 = bits fn 0 3 := by
  apply BitVec.eq_of_getLsbD_eq; intro i hi; simp [fmtA, hi, bits] <;> grind
theorem fmtA_3_5 (op d a b fn s) : bits (fmtA op d a b fn s) 3 5 = bits fn 0 5 := by
  apply BitVec.eq_of_getLsbD_eq; intro i hi; simp [fmtA, hi, bits] <;> grind
theorem fmtA_3_6 (op d a b fn s) : bits (fmtA op d a b fn s) 3 6 = bits fn 0 6 := by
  apply BitVec.eq_of_getLsbD_eq; intro i hi; simp [fmtA, hi, bits] <;> grind
theorem fmtA_3_8 (op d a b fn s) : bits (fmtA op d a b fn s) 3 8 = fn := by
  apply BitVec.eq_of_getLsbD_eq; intro i hi; simp [fmtA, hi, bits] <;> grind
theorem fmtA_6_1 (op d a b fn s) : bits (fmtA op d a b fn s) 6 1 = bits fn 3 1 := by
  apply BitVec.eq_of_getLsbD_eq; intro i hi; simp [fmtA, hi, bits] <;> grind
theorem fmtA_6_2 (op d a b fn s) : bits (fmtA op d a b fn s) 6 2 = bits fn 3 2 := by
  apply BitVec.eq_of_getLsbD_eq; intro i hi; simp [fmtA, hi, bits] <;> grind
theorem fmtA_6_4 (op d a b fn s) : bits (fmtA op d a b fn s) 6 4 = bits fn 3 4 := by
  apply BitVec.eq_of_getLsbD_eq; intro i hi; simp [fmtA, hi, bits] <;> grind
theorem fmtA_7_4 (op d a b fn s) : bits (fmtA op d a b fn s) 7 4 = bits fn 4 4 := by
  apply BitVec.eq_of_getLsbD_eq; intro i hi; simp [fmtA, hi, bits] <;> grind
theorem fmtA_8_3 (op d a b fn s) : bits (fmtA op d a b fn s) 8 3 = bits fn 5 3 := by
  apply BitVec.eq_of_getLsbD_eq; intro i hi; simp [fmtA, hi, bits] <;> grind
theorem fmtA_9_2 (op d a b fn s) : bits (fmtA op d a b fn s) 9 2 = bits fn 6 2 := by
  apply BitVec.eq_of_getLsbD_eq; intro i hi; simp [fmtA, hi, bits] <;> grind
theorem fmtA_10_1 (op d a b fn s) : bits (fmtA op d a b fn s) 10 1 = bits fn 7 1 := by
  apply BitVec.eq_of_getLsbD_eq; intro i hi; simp [fmtA, hi, bits] <;> grind
theorem fmtA_11_5 (op d a b fn s) : bits (fmtA op d a b fn s) 11 5 = b := by
  apply BitVec.eq_of_getLsbD_eq; intro i hi; simp [fmtA, hi, bits] <;> grind
theorem fmtA_16_3 (op d a b fn s) : bits (fmtA op d a b fn s) 16 3 = bits a 0 3 := by
  apply BitVec.eq_of_getLsbD_eq; intro i hi; simp [fmtA, hi, bits] <;> grind
theorem fmtA_16_5 (op d a b fn s) : bits (fmtA op d a b fn s) 16 5 = a := by
  apply BitVec.eq_of_getLsbD_eq; intro i hi; simp [fmtA, hi, bits] <;> grind
theorem fmtA_21_3 (op d a b fn s) : bits (fmtA op d a b fn s) 21 3 = bits d 0 3 := by
  apply BitVec.eq_of_getLsbD_eq; intro i hi; simp [fmtA, hi, bits] <;> grind
theorem fmtA_21_5 (op d a b fn s) : bits (fmtA op d a b fn s) 21 5 = d := by
  apply BitVec.eq_of_getLsbD_eq; intro i hi; simp [fmtA, hi, bits] <;> grind
theorem fmtA_26_6 (op d a b fn s) : bits (fmtA op d a b fn s) 26 6 = op := by
  apply BitVec.eq_of_getLsbD_eq; intro i hi; simp [fmtA, hi, bits] <;> grind
theorem fmtB_0_3 (op a b c disp) : bits (fmtB op a b c disp) 0 3 = bits disp 0 3 := by
  apply BitVec.eq_of_getLsbD_eq; intro i hi; simp [fmtB, hi, bits] <;> grind
theorem fmtB_0_13 (op a b c disp) : bits (fmtB op a b c disp) 0 13 = disp := by
  apply BitVec.eq_of_getLsbD_eq; intro i hi; simp [fmtB, hi, bits] <;> grind
theorem fmtB_13_3 (op a b c disp) : bits (fmtB op a b c disp) 13 3 = c := by
  apply BitVec.eq_of_getLsbD_eq; intro i hi; simp [fmtB, hi, bits] <;> grind
theorem fmtB_16_5 (op a b c disp) : bits (fmtB op a b c disp) 16 5 = b := by
  apply BitVec.eq_of_getLsbD_eq; intro i hi; simp [fmtB, hi, bits] <;> grind
theorem fmtB_21_5 (op a b c disp) : bits (fmtB op a b c disp) 21 5 = a := by
  apply BitVec.eq_of_getLsbD_eq; intro i hi; simp [fmtB, hi, bits] <;> grind
theorem fmtB_26_6 (op a b c disp) : bits (fmtB op a b c disp) 26 6 = op := by
  apply BitVec.eq_of_getLsbD_eq; intro i hi; simp [fmtB, hi, bits] <;> grind
theorem fmtE_0_1 (op unit cmd a b d x) : bits (fmtE op unit cmd a b d x) 0 1 = x := by
  apply BitVec.eq_of_getLsbD_eq; intro i hi; simp [fmtE, hi, bits] <;> grind
theorem fmtE_1_5 (op unit cmd a b d x) : bits (fmtE op unit cmd a b d x) 1 5 = d := by
  apply BitVec.eq_of_getLsbD_eq; intro i hi; simp [fmtE, hi, bits] <;> grind
theorem fmtE_6_5 (op unit cmd a b d x) : bits (fmtE op unit cmd a b d x) 6 5 = b := by
  apply BitVec.eq_of_getLsbD_eq; intro i hi; simp [fmtE, hi, bits] <;> grind
theorem fmtE_11_5 (op unit cmd a b d x) : bits (fmtE op unit cmd a b d x) 11 5 = a := by
  apply BitVec.eq_of_getLsbD_eq; intro i hi; simp [fmtE, hi, bits] <;> grind
theorem fmtE_16_7 (op unit cmd a b d x) : bits (fmtE op unit cmd a b d x) 16 7 = cmd := by
  apply BitVec.eq_of_getLsbD_eq; intro i hi; simp [fmtE, hi, bits] <;> grind
theorem fmtE_23_3 (op unit cmd a b d x) : bits (fmtE op unit cmd a b d x) 23 3 = unit := by
  apply BitVec.eq_of_getLsbD_eq; intro i hi; simp [fmtE, hi, bits] <;> grind
theorem fmtE_26_6 (op unit cmd a b d x) : bits (fmtE op unit cmd a b d x) 26 6 = op := by
  apply BitVec.eq_of_getLsbD_eq; intro i hi; simp [fmtE, hi, bits] <;> grind
theorem fmtI_0_6 (op d a imm) : bits (fmtI op d a imm) 0 6 = bits imm 0 6 := by
  apply BitVec.eq_of_getLsbD_eq; intro i hi; simp [fmtI, hi, bits] <;> grind
theorem fmtI_0_16 (op d a imm) : bits (fmtI op d a imm) 0 16 = imm := by
  apply BitVec.eq_of_getLsbD_eq; intro i hi; simp [fmtI, hi, bits] <;> grind
theorem fmtI_6_2 (op d a imm) : bits (fmtI op d a imm) 6 2 = bits imm 6 2 := by
  apply BitVec.eq_of_getLsbD_eq; intro i hi; simp [fmtI, hi, bits] <;> grind
theorem fmtI_16_5 (op d a imm) : bits (fmtI op d a imm) 16 5 = a := by
  apply BitVec.eq_of_getLsbD_eq; intro i hi; simp [fmtI, hi, bits] <;> grind
theorem fmtI_21_5 (op d a imm) : bits (fmtI op d a imm) 21 5 = d := by
  apply BitVec.eq_of_getLsbD_eq; intro i hi; simp [fmtI, hi, bits] <;> grind
theorem fmtI_26_6 (op d a imm) : bits (fmtI op d a imm) 26 6 = op := by
  apply BitVec.eq_of_getLsbD_eq; intro i hi; simp [fmtI, hi, bits] <;> grind
theorem fmtJ_0_21 (op d imm) : bits (fmtJ op d imm) 0 21 = imm := by
  apply BitVec.eq_of_getLsbD_eq; intro i hi; simp [fmtJ, hi, bits] <;> grind
theorem fmtJ_21_5 (op d imm) : bits (fmtJ op d imm) 21 5 = d := by
  apply BitVec.eq_of_getLsbD_eq; intro i hi; simp [fmtJ, hi, bits] <;> grind
theorem fmtJ_26_6 (op d imm) : bits (fmtJ op d imm) 26 6 = op := by
  apply BitVec.eq_of_getLsbD_eq; intro i hi; simp [fmtJ, hi, bits] <;> grind
theorem fmtM_0_13 (op t a fn off) : bits (fmtM op t a fn off) 0 13 = off := by
  apply BitVec.eq_of_getLsbD_eq; intro i hi; simp [fmtM, hi, bits] <;> grind
theorem fmtM_13_3 (op t a fn off) : bits (fmtM op t a fn off) 13 3 = fn := by
  apply BitVec.eq_of_getLsbD_eq; intro i hi; simp [fmtM, hi, bits] <;> grind
theorem fmtM_16_5 (op t a fn off) : bits (fmtM op t a fn off) 16 5 = a := by
  apply BitVec.eq_of_getLsbD_eq; intro i hi; simp [fmtM, hi, bits] <;> grind
theorem fmtM_21_5 (op t a fn off) : bits (fmtM op t a fn off) 21 5 = t := by
  apply BitVec.eq_of_getLsbD_eq; intro i hi; simp [fmtM, hi, bits] <;> grind
theorem fmtM_26_6 (op t a fn off) : bits (fmtM op t a fn off) 26 6 = op := by
  apply BitVec.eq_of_getLsbD_eq; intro i hi; simp [fmtM, hi, bits] <;> grind
theorem fmtV_0_3 (op d a b gm ew fn s) : bits (fmtV op d a b gm ew fn s) 0 3 = s := by
  apply BitVec.eq_of_getLsbD_eq; intro i hi; simp [fmtV, hi, bits] <;> grind
theorem fmtV_3_3 (op d a b gm ew fn s) : bits (fmtV op d a b gm ew fn s) 3 3 = bits fn 0 3 := by
  apply BitVec.eq_of_getLsbD_eq; intro i hi; simp [fmtV, hi, bits] <;> grind
theorem fmtV_3_4 (op d a b gm ew fn s) : bits (fmtV op d a b gm ew fn s) 3 4 = fn := by
  apply BitVec.eq_of_getLsbD_eq; intro i hi; simp [fmtV, hi, bits] <;> grind
theorem fmtV_6_1 (op d a b gm ew fn s) : bits (fmtV op d a b gm ew fn s) 6 1 = bits fn 3 1 := by
  apply BitVec.eq_of_getLsbD_eq; intro i hi; simp [fmtV, hi, bits] <;> grind
theorem fmtV_7_2 (op d a b gm ew fn s) : bits (fmtV op d a b gm ew fn s) 7 2 = ew := by
  apply BitVec.eq_of_getLsbD_eq; intro i hi; simp [fmtV, hi, bits] <;> grind
theorem fmtV_9_2 (op d a b gm ew fn s) : bits (fmtV op d a b gm ew fn s) 9 2 = gm := by
  apply BitVec.eq_of_getLsbD_eq; intro i hi; simp [fmtV, hi, bits] <;> grind
theorem fmtV_11_5 (op d a b gm ew fn s) : bits (fmtV op d a b gm ew fn s) 11 5 = b := by
  apply BitVec.eq_of_getLsbD_eq; intro i hi; simp [fmtV, hi, bits] <;> grind
theorem fmtV_16_5 (op d a b gm ew fn s) : bits (fmtV op d a b gm ew fn s) 16 5 = a := by
  apply BitVec.eq_of_getLsbD_eq; intro i hi; simp [fmtV, hi, bits] <;> grind
theorem fmtV_21_5 (op d a b gm ew fn s) : bits (fmtV op d a b gm ew fn s) 21 5 = d := by
  apply BitVec.eq_of_getLsbD_eq; intro i hi; simp [fmtV, hi, bits] <;> grind
theorem fmtV_26_6 (op d a b gm ew fn s) : bits (fmtV op d a b gm ew fn s) 26 6 = op := by
  apply BitVec.eq_of_getLsbD_eq; intro i hi; simp [fmtV, hi, bits] <;> grind
theorem fmtY_0_3 (op fn a d imm) : bits (fmtY op fn a d imm) 0 3 = bits imm 0 3 := by
  apply BitVec.eq_of_getLsbD_eq; intro i hi; simp [fmtY, hi, bits] <;> grind
theorem fmtY_0_4 (op fn a d imm) : bits (fmtY op fn a d imm) 0 4 = bits imm 0 4 := by
  apply BitVec.eq_of_getLsbD_eq; intro i hi; simp [fmtY, hi, bits] <;> grind
theorem fmtY_0_6 (op fn a d imm) : bits (fmtY op fn a d imm) 0 6 = imm := by
  apply BitVec.eq_of_getLsbD_eq; intro i hi; simp [fmtY, hi, bits] <;> grind
theorem fmtY_3_2 (op fn a d imm) : bits (fmtY op fn a d imm) 3 2 = bits imm 3 2 := by
  apply BitVec.eq_of_getLsbD_eq; intro i hi; simp [fmtY, hi, bits] <;> grind
theorem fmtY_6_5 (op fn a d imm) : bits (fmtY op fn a d imm) 6 5 = d := by
  apply BitVec.eq_of_getLsbD_eq; intro i hi; simp [fmtY, hi, bits] <;> grind
theorem fmtY_11_5 (op fn a d imm) : bits (fmtY op fn a d imm) 11 5 = a := by
  apply BitVec.eq_of_getLsbD_eq; intro i hi; simp [fmtY, hi, bits] <;> grind
theorem fmtY_16_6 (op fn a d imm) : bits (fmtY op fn a d imm) 16 6 = bits fn 0 6 := by
  apply BitVec.eq_of_getLsbD_eq; intro i hi; simp [fmtY, hi, bits] <;> grind
theorem fmtY_16_10 (op fn a d imm) : bits (fmtY op fn a d imm) 16 10 = fn := by
  apply BitVec.eq_of_getLsbD_eq; intro i hi; simp [fmtY, hi, bits] <;> grind
theorem fmtY_22_4 (op fn a d imm) : bits (fmtY op fn a d imm) 22 4 = bits fn 6 4 := by
  apply BitVec.eq_of_getLsbD_eq; intro i hi; simp [fmtY, hi, bits] <;> grind
theorem fmtY_26_6 (op fn a d imm) : bits (fmtY op fn a d imm) 26 6 = op := by
  apply BitVec.eq_of_getLsbD_eq; intro i hi; simp [fmtY, hi, bits] <;> grind
theorem cat_1_3_0_3 (x0 : BitVec 1) (x1 : BitVec 3) : bits (x0 ++ x1) 0 3 = x1 := by
  apply BitVec.eq_of_getLsbD_eq; intro i hi; simp [hi, bits] <;> grind
theorem cat_1_3_3_1 (x0 : BitVec 1) (x1 : BitVec 3) : bits (x0 ++ x1) 3 1 = x0 := by
  apply BitVec.eq_of_getLsbD_eq; intro i hi; simp [hi, bits] <;> grind
theorem cat_1_4_3_0_3 (x0 : BitVec 1) (x1 : BitVec 4) (x2 : BitVec 3) : bits (x0 ++ x1 ++ x2) 0 3 = x2 := by
  apply BitVec.eq_of_getLsbD_eq; intro i hi; simp [hi, bits] <;> grind
theorem cat_1_4_3_3_4 (x0 : BitVec 1) (x1 : BitVec 4) (x2 : BitVec 3) : bits (x0 ++ x1 ++ x2) 3 4 = x1 := by
  apply BitVec.eq_of_getLsbD_eq; intro i hi; simp [hi, bits] <;> grind
theorem cat_1_4_3_7_1 (x0 : BitVec 1) (x1 : BitVec 4) (x2 : BitVec 3) : bits (x0 ++ x1 ++ x2) 7 1 = x0 := by
  apply BitVec.eq_of_getLsbD_eq; intro i hi; simp [hi, bits] <;> grind
theorem cat_1_7_0_3 (x0 : BitVec 1) (x1 : BitVec 7) : bits (x0 ++ x1) 0 3 = bits x1 0 3 := by
  apply BitVec.eq_of_getLsbD_eq; intro i hi; simp [hi, bits] <;> grind
theorem cat_1_7_3_4 (x0 : BitVec 1) (x1 : BitVec 7) : bits (x0 ++ x1) 3 4 = bits x1 3 4 := by
  apply BitVec.eq_of_getLsbD_eq; intro i hi; simp [hi, bits] <;> grind
theorem cat_1_7_7_1 (x0 : BitVec 1) (x1 : BitVec 7) : bits (x0 ++ x1) 7 1 = x0 := by
  apply BitVec.eq_of_getLsbD_eq; intro i hi; simp [hi, bits] <;> grind
theorem cat_2_3_0_3 (x0 : BitVec 2) (x1 : BitVec 3) : bits (x0 ++ x1) 0 3 = x1 := by
  apply BitVec.eq_of_getLsbD_eq; intro i hi; simp [hi, bits] <;> grind
theorem cat_2_4_0_3 (x0 : BitVec 2) (x1 : BitVec 4) : bits (x0 ++ x1) 0 3 = bits x1 0 3 := by
  apply BitVec.eq_of_getLsbD_eq; intro i hi; simp [hi, bits] <;> grind
theorem cat_2_4_0_4 (x0 : BitVec 2) (x1 : BitVec 4) : bits (x0 ++ x1) 0 4 = x1 := by
  apply BitVec.eq_of_getLsbD_eq; intro i hi; simp [hi, bits] <;> grind
theorem cat_2_6_0_6 (x0 : BitVec 2) (x1 : BitVec 6) : bits (x0 ++ x1) 0 6 = x1 := by
  apply BitVec.eq_of_getLsbD_eq; intro i hi; simp [hi, bits] <;> grind
theorem cat_2_6_6_2 (x0 : BitVec 2) (x1 : BitVec 6) : bits (x0 ++ x1) 6 2 = x0 := by
  apply BitVec.eq_of_getLsbD_eq; intro i hi; simp [hi, bits] <;> grind
theorem cat_3_2_3_0_3 (x0 : BitVec 3) (x1 : BitVec 2) (x2 : BitVec 3) : bits (x0 ++ x1 ++ x2) 0 3 = x2 := by
  apply BitVec.eq_of_getLsbD_eq; intro i hi; simp [hi, bits] <;> grind
theorem cat_3_2_3_3_2 (x0 : BitVec 3) (x1 : BitVec 2) (x2 : BitVec 3) : bits (x0 ++ x1 ++ x2) 3 2 = x1 := by
  apply BitVec.eq_of_getLsbD_eq; intro i hi; simp [hi, bits] <;> grind
theorem cat_3_2_3_5_3 (x0 : BitVec 3) (x1 : BitVec 2) (x2 : BitVec 3) : bits (x0 ++ x1 ++ x2) 5 3 = x0 := by
  apply BitVec.eq_of_getLsbD_eq; intro i hi; simp [hi, bits] <;> grind
theorem cat_3_3_0_3 (x0 : BitVec 3) (x1 : BitVec 3) : bits (x0 ++ x1) 0 3 = x1 := by
  apply BitVec.eq_of_getLsbD_eq; intro i hi; simp [hi, bits] <;> grind
theorem cat_3_3_3_2 (x0 : BitVec 3) (x1 : BitVec 3) : bits (x0 ++ x1) 3 2 = bits x0 0 2 := by
  apply BitVec.eq_of_getLsbD_eq; intro i hi; simp [hi, bits] <;> grind
theorem cat_3_5_0_5 (x0 : BitVec 3) (x1 : BitVec 5) : bits (x0 ++ x1) 0 5 = x1 := by
  apply BitVec.eq_of_getLsbD_eq; intro i hi; simp [hi, bits] <;> grind
theorem cat_3_5_5_3 (x0 : BitVec 3) (x1 : BitVec 5) : bits (x0 ++ x1) 5 3 = x0 := by
  apply BitVec.eq_of_getLsbD_eq; intro i hi; simp [hi, bits] <;> grind
theorem cat_4_1_3_0_3 (x0 : BitVec 4) (x1 : BitVec 1) (x2 : BitVec 3) : bits (x0 ++ x1 ++ x2) 0 3 = x2 := by
  apply BitVec.eq_of_getLsbD_eq; intro i hi; simp [hi, bits] <;> grind
theorem cat_4_1_3_3_1 (x0 : BitVec 4) (x1 : BitVec 1) (x2 : BitVec 3) : bits (x0 ++ x1 ++ x2) 3 1 = x1 := by
  apply BitVec.eq_of_getLsbD_eq; intro i hi; simp [hi, bits] <;> grind
theorem cat_4_1_3_4_4 (x0 : BitVec 4) (x1 : BitVec 1) (x2 : BitVec 3) : bits (x0 ++ x1 ++ x2) 4 4 = x0 := by
  apply BitVec.eq_of_getLsbD_eq; intro i hi; simp [hi, bits] <;> grind
theorem cat_4_6_0_6 (x0 : BitVec 4) (x1 : BitVec 6) : bits (x0 ++ x1) 0 6 = x1 := by
  apply BitVec.eq_of_getLsbD_eq; intro i hi; simp [hi, bits] <;> grind
theorem cat_4_6_6_4 (x0 : BitVec 4) (x1 : BitVec 6) : bits (x0 ++ x1) 6 4 = x0 := by
  apply BitVec.eq_of_getLsbD_eq; intro i hi; simp [hi, bits] <;> grind
theorem cat_5_3_0_3 (x0 : BitVec 5) (x1 : BitVec 3) : bits (x0 ++ x1) 0 3 = x1 := by
  apply BitVec.eq_of_getLsbD_eq; intro i hi; simp [hi, bits] <;> grind
theorem cat_5_3_3_1 (x0 : BitVec 5) (x1 : BitVec 3) : bits (x0 ++ x1) 3 1 = bits x0 0 1 := by
  apply BitVec.eq_of_getLsbD_eq; intro i hi; simp [hi, bits] <;> grind
theorem cat_5_3_3_4 (x0 : BitVec 5) (x1 : BitVec 3) : bits (x0 ++ x1) 3 4 = bits x0 0 4 := by
  apply BitVec.eq_of_getLsbD_eq; intro i hi; simp [hi, bits] <;> grind
theorem cat_5_3_4_4 (x0 : BitVec 5) (x1 : BitVec 3) : bits (x0 ++ x1) 4 4 = bits x0 1 4 := by
  apply BitVec.eq_of_getLsbD_eq; intro i hi; simp [hi, bits] <;> grind
theorem cat_5_3_7_1 (x0 : BitVec 5) (x1 : BitVec 3) : bits (x0 ++ x1) 7 1 = bits x0 4 1 := by
  apply BitVec.eq_of_getLsbD_eq; intro i hi; simp [hi, bits] <;> grind
theorem cat_6_2_0_2 (x0 : BitVec 6) (x1 : BitVec 2) : bits (x0 ++ x1) 0 2 = x1 := by
  apply BitVec.eq_of_getLsbD_eq; intro i hi; simp [hi, bits] <;> grind
theorem cat_10_3_0_3 (x0 : BitVec 10) (x1 : BitVec 3) : bits (x0 ++ x1) 0 3 = x1 := by
  apply BitVec.eq_of_getLsbD_eq; intro i hi; simp [hi, bits] <;> grind
theorem cat_10_6_0_6 (x0 : BitVec 10) (x1 : BitVec 6) : bits (x0 ++ x1) 0 6 = x1 := by
  apply BitVec.eq_of_getLsbD_eq; intro i hi; simp [hi, bits] <;> grind
theorem cat_10_6_6_2 (x0 : BitVec 10) (x1 : BitVec 6) : bits (x0 ++ x1) 6 2 = bits x0 0 2 := by
  apply BitVec.eq_of_getLsbD_eq; intro i hi; simp [hi, bits] <;> grind

theorem decodeMajor_01 (w : BitVec 32) (h : bits w 26 6 = 0x1#6) : decodeMajor w = decodeInta w := by unfold decodeMajor; rw [h]; rfl
theorem decodeMajor_02 (w : BitVec 32) (h : bits w 26 6 = 0x2#6) : decodeMajor w = decodeMula w := by unfold decodeMajor; rw [h]; rfl
theorem decodeMajor_03 (w : BitVec 32) (h : bits w 26 6 = 0x3#6) : decodeMajor w = some (.addi (bits w 21 5) (bits w 16 5) (bits w 0 16)) := by unfold decodeMajor; rw [h]; rfl
theorem decodeMajor_04 (w : BitVec 32) (h : bits w 26 6 = 0x4#6) : decodeMajor w = some (.andi (bits w 21 5) (bits w 16 5) (bits w 0 16)) := by unfold decodeMajor; rw [h]; rfl
theorem decodeMajor_05 (w : BitVec 32) (h : bits w 26 6 = 0x5#6) : decodeMajor w = some (.ori (bits w 21 5) (bits w 16 5) (bits w 0 16)) := by unfold decodeMajor; rw [h]; rfl
theorem decodeMajor_06 (w : BitVec 32) (h : bits w 26 6 = 0x6#6) : decodeMajor w = some (.xori (bits w 21 5) (bits w 16 5) (bits w 0 16)) := by unfold decodeMajor; rw [h]; rfl
theorem decodeMajor_07 (w : BitVec 32) (h : bits w 26 6 = 0x7#6) : decodeMajor w = some (.slti (bits w 21 5) (bits w 16 5) (bits w 0 16)) := by unfold decodeMajor; rw [h]; rfl
theorem decodeMajor_08 (w : BitVec 32) (h : bits w 26 6 = 0x8#6) : decodeMajor w = some (.sltiz (bits w 21 5) (bits w 16 5) (bits w 0 16)) := by unfold decodeMajor; rw [h]; rfl
theorem decodeMajor_09 (w : BitVec 32) (h : bits w 26 6 = 0x9#6) : decodeMajor w = decodeShi w := by unfold decodeMajor; rw [h]; rfl
theorem decodeMajor_0A (w : BitVec 32) (h : bits w 26 6 = 0xA#6) : decodeMajor w = some (.paddi (bits w 21 5) (bits w 16 5) (bits w 0 16)) := by unfold decodeMajor; rw [h]; rfl
theorem decodeMajor_0B (w : BitVec 32) (h : bits w 26 6 = 0xB#6) : decodeMajor w = some (.luk (bits w 21 5) (bits w 0 21)) := by unfold decodeMajor; rw [h]; rfl
theorem decodeMajor_0C (w : BitVec 32) (h : bits w 26 6 = 0xC#6) : decodeMajor w = some (.addpc (bits w 21 5) (bits w 0 21)) := by unfold decodeMajor; rw [h]; rfl
theorem decodeMajor_0D (w : BitVec 32) (h : bits w 26 6 = 0xD#6) : decodeMajor w = decodeLd w := by unfold decodeMajor; rw [h]; rfl
theorem decodeMajor_0E (w : BitVec 32) (h : bits w 26 6 = 0xE#6) : decodeMajor w = decodeSt w := by unfold decodeMajor; rw [h]; rfl
theorem decodeMajor_0F (w : BitVec 32) (h : bits w 26 6 = 0xF#6) : decodeMajor w = decodeLdc w := by unfold decodeMajor; rw [h]; rfl
theorem decodeMajor_10 (w : BitVec 32) (h : bits w 26 6 = 0x10#6) : decodeMajor w = decodeBitm w := by unfold decodeMajor; rw [h]; rfl
theorem decodeMajor_11 (w : BitVec 32) (h : bits w 26 6 = 0x11#6) : decodeMajor w = decodeAtom w := by unfold decodeMajor; rw [h]; rfl
theorem decodeMajor_12 (w : BitVec 32) (h : bits w 26 6 = 0x12#6) : decodeMajor w = decodeUpd w := by unfold decodeMajor; rw [h]; rfl
theorem decodeMajor_13 (w : BitVec 32) (h : bits w 26 6 = 0x13#6) : decodeMajor w = decodeBrc w := by unfold decodeMajor; rw [h]; rfl
theorem decodeMajor_14 (w : BitVec 32) (h : bits w 26 6 = 0x14#6) : decodeMajor w = some (.jal (bits w 21 5) (bits w 0 21)) := by unfold decodeMajor; rw [h]; rfl
theorem decodeMajor_15 (w : BitVec 32) (h : bits w 26 6 = 0x15#6) : decodeMajor w = some (.jalr (bits w 21 5) (bits w 16 5) (bits w 0 16)) := by unfold decodeMajor; rw [h]; rfl
theorem decodeMajor_16 (w : BitVec 32) (h : bits w 26 6 = 0x16#6) : decodeMajor w = decodeSkip w := by unfold decodeMajor; rw [h]; rfl
theorem decodeMajor_17 (w : BitVec 32) (h : bits w 26 6 = 0x17#6) : decodeMajor w = decodeMemsys w := by unfold decodeMajor; rw [h]; rfl
theorem decodeMajor_18 (w : BitVec 32) (h : bits w 26 6 = 0x18#6) : decodeMajor w = decodeSys w := by unfold decodeMajor; rw [h]; rfl
theorem decodeMajor_19 (w : BitVec 32) (h : bits w 26 6 = 0x19#6) : decodeMajor w = decodeFrame w := by unfold decodeMajor; rw [h]; rfl
theorem decodeMajor_1A (w : BitVec 32) (h : bits w 26 6 = 0x1A#6) : decodeMajor w = decodeQueue w := by unfold decodeMajor; rw [h]; rfl
theorem decodeMajor_1B (w : BitVec 32) (h : bits w 26 6 = 0x1B#6) : decodeMajor w = decodeBar w := by unfold decodeMajor; rw [h]; rfl
theorem decodeMajor_1C (w : BitVec 32) (h : bits w 26 6 = 0x1C#6) : decodeMajor w = decodeMsg w := by unfold decodeMajor; rw [h]; rfl
theorem decodeMajor_1D (w : BitVec 32) (h : bits w 26 6 = 0x1D#6) : decodeMajor w = decodeMon w := by unfold decodeMajor; rw [h]; rfl
theorem decodeMajor_1E (w : BitVec 32) (h : bits w 26 6 = 0x1E#6) : decodeMajor w = decodePage w := by unfold decodeMajor; rw [h]; rfl
theorem decodeMajor_1F (w : BitVec 32) (h : bits w 26 6 = 0x1F#6) : decodeMajor w = decodeEngt w := by unfold decodeMajor; rw [h]; rfl
theorem decodeMajor_20 (w : BitVec 32) (h : bits w 26 6 = 0x20#6) : decodeMajor w = decodeEngc w := by unfold decodeMajor; rw [h]; rfl
theorem decodeMajor_21 (w : BitVec 32) (h : bits w 26 6 = 0x21#6) : decodeMajor w = decodeShape w := by unfold decodeMajor; rw [h]; rfl
theorem decodeMajor_22 (w : BitVec 32) (h : bits w 26 6 = 0x22#6) : decodeMajor w = decodeVint w := by unfold decodeMajor; rw [h]; rfl
theorem decodeMajor_23 (w : BitVec 32) (h : bits w 26 6 = 0x23#6) : decodeMajor w = decodeVfp w := by unfold decodeMajor; rw [h]; rfl
theorem decodeMajor_24 (w : BitVec 32) (h : bits w 26 6 = 0x24#6) : decodeMajor w = decodeVfma w := by unfold decodeMajor; rw [h]; rfl
theorem decodeMajor_25 (w : BitVec 32) (h : bits w 26 6 = 0x25#6) : decodeMajor w = decodeVcvt w := by unfold decodeMajor; rw [h]; rfl
theorem decodeMajor_26 (w : BitVec 32) (h : bits w 26 6 = 0x26#6) : decodeMajor w = decodeVmem w := by unfold decodeMajor; rw [h]; rfl
theorem decodeMajor_27 (w : BitVec 32) (h : bits w 26 6 = 0x27#6) : decodeMajor w = decodeVperm w := by unfold decodeMajor; rw [h]; rfl
theorem decodeMajor_28 (w : BitVec 32) (h : bits w 26 6 = 0x28#6) : decodeMajor w = decodeVray w := by unfold decodeMajor; rw [h]; rfl
theorem decodeMajor_29 (w : BitVec 32) (h : bits w 26 6 = 0x29#6) : decodeMajor w = decodeVcmp w := by unfold decodeMajor; rw [h]; rfl
theorem decodeMajor_2A (w : BitVec 32) (h : bits w 26 6 = 0x2A#6) : decodeMajor w = decodeFps w := by unfold decodeMajor; rw [h]; rfl
theorem decodeMajor_3F (w : BitVec 32) (h : bits w 26 6 = 0x3F#6) : decodeMajor w = decodeEscape w := by unfold decodeMajor; rw [h]; rfl

/-- A word that its major and minor codes lead to an instruction decodes to it, where it is well formed and the word is its own. -/
theorem decode_of (w : BitVec 32) (i : Instr) (h : decodeMajor w = some i) (hw : i.wellFormed = true) (he : encode i = w) : decode w = some i := by
  simp [decode, h, hw, he]

end Sys2Proof.Laws
end

