-- ==== Sys2Proof/Laws/Memory.lean ====
section
/-!
SUPPORT. Memories keep their canonical form under every operation, and a byte written is the byte read; maps keep their keys in order.
-/
namespace Sys2Proof.Machine

theorem Memory.wfFrom_mono {m : Memory} {lo lo' : Nat} (h : Memory.wfFrom lo m = true) (hl : lo' ≤ lo) : Memory.wfFrom lo' m = true := by
  cases m with
  | nil => rfl
  | cons c r => simp only [Memory.wfFrom, Bool.and_eq_true, decide_eq_true_eq] at h ⊢; exact ⟨⟨Nat.le_trans hl h.1.1, h.1.2⟩, h.2⟩

theorem Memory.wfFrom_write {m : Memory} {lo a : Nat} (x : BitVec 8) (h : Memory.wfFrom lo m = true) (ha : lo ≤ a) :
    Memory.wfFrom lo (Memory.write m a x) = true := by
  induction m generalizing lo with
  | nil => by_cases hx : x = Memory.blank <;> simp [Memory.write, Memory.wfFrom, hx, ha]
  | cons c r ih =>
    obtain ⟨j, y⟩ := c
    simp only [Memory.wfFrom, Bool.and_eq_true, decide_eq_true_eq] at h
    simp only [Memory.write]
    split
    · split
      · simp [Memory.wfFrom, h]
      · rename_i hj hx; simp [Memory.wfFrom, h, ha, hx]; omega
    · split
      · split
        · exact Memory.wfFrom_mono h.2 (by omega)
        · rename_i hj hx; subst hj; simp [Memory.wfFrom, h, hx]
      · simp [Memory.wfFrom, h, ih h.2 (by omega)]

/-- Writing a byte keeps the canonical form. -/
theorem Memory.wf_write {m : Memory} (a : Nat) (x : BitVec 8) (h : Memory.wf m = true) : Memory.wf (Memory.write m a x) = true :=
  Memory.wfFrom_write x h (Nat.zero_le a)

/-- Writing a number keeps the canonical form. -/
theorem Memory.wf_writeNat {m : Memory} (a n v : Nat) (h : Memory.wf m = true) : Memory.wf (Memory.writeNat m a n v) = true := by
  induction n generalizing m a v with
  | zero => exact h
  | succ n ih => exact ih _ _ (Memory.wf_write _ _ h)

/-- Writing masked bytes keeps the canonical form. -/
theorem Memory.wf_writeMasked {m : Memory} (a n v mask : Nat) (h : Memory.wf m = true) : Memory.wf (Memory.writeMasked m a n v mask) = true := by
  induction n generalizing m a v mask with
  | zero => exact h
  | succ n ih =>
    simp only [Memory.writeMasked]
    split
    · exact ih _ _ _ (Memory.wf_write _ _ h)
    · exact ih _ _ _ h

theorem Memory.wfFrom_filter {m : Memory} {lo : Nat} (p : Host.Cell → Bool) (h : Memory.wfFrom lo m = true) : Memory.wfFrom lo (m.filter p) = true := by
  induction m generalizing lo with
  | nil => rfl
  | cons c r ih =>
    simp only [Memory.wfFrom, Bool.and_eq_true, decide_eq_true_eq] at h
    rw [List.filter_cons]
    split
    · simp [Memory.wfFrom, h, ih h.2]
    · exact Memory.wfFrom_mono (ih h.2) (by omega)

/-- Leaving cells out keeps the canonical form. -/
theorem Memory.wf_filter {m : Memory} (p : Host.Cell → Bool) (h : Memory.wf m = true) : Memory.wf (m.filter p) = true := Memory.wfFrom_filter p h

theorem Memory.read_below {m : Memory} {lo a : Nat} (h : Memory.wfFrom lo m = true) (ha : a < lo) : Memory.read m a = Memory.blank := by
  cases m with
  | nil => rfl
  | cons c r =>
    simp only [Memory.wfFrom, Bool.and_eq_true, decide_eq_true_eq] at h
    simp only [Memory.read]
    rw [if_neg (by omega), if_pos (by omega)]

theorem Memory.read_write_from {m : Memory} {lo : Nat} (a b : Nat) (x : BitVec 8) (h : Memory.wfFrom lo m = true) :
    Memory.read (Memory.write m a x) b = if a = b then x else Memory.read m b := by
  induction m generalizing lo with
  | nil => by_cases hx : x = Memory.blank <;> by_cases hab : a = b <;> simp [Memory.write, Memory.read, hx, hab]
  | cons c r ih =>
    obtain ⟨j, y⟩ := c
    simp only [Memory.wfFrom, Bool.and_eq_true, decide_eq_true_eq] at h
    have below : ∀ k, k ≤ j → Memory.read r k = Memory.blank := fun k hk => Memory.read_below h.2 (by omega)
    simp only [Memory.write]
    split
    · rename_i haj
      split
      · rename_i hx; subst hx
        by_cases hab : a = b
        · subst hab; simp only [Memory.read]; rw [if_neg (by omega), if_pos haj]; simp
        · simp [hab]
      · simp only [Memory.read]
        by_cases hab : a = b
        · simp [hab]
        · by_cases hb : b < a
          · simp only [if_neg hab, if_pos hb]; rw [if_neg (by omega), if_pos (by omega)]
          · simp only [if_neg hab, if_neg hb]
    · split
      · rename_i haj; subst haj
        split
        · rename_i hx; subst hx
          by_cases hab : a = b
          · subst hab; rw [if_pos rfl]; exact below a (Nat.le_refl a)
          · simp only [Memory.read, if_neg hab]
            split
            · exact below b (by omega)
            · rfl
        · by_cases hab : a = b <;> simp [Memory.read, hab]
      · rename_i h1 h2
        simp only [Memory.read]
        by_cases hjb : j = b
        · rw [if_pos hjb, if_pos hjb, if_neg (by omega)]
        · rw [if_neg hjb, if_neg hjb]
          split
          · rw [if_neg (by omega)]
          · exact ih h.2

/-- A byte written is read back, and the others stay. -/
theorem Memory.read_write {m : Memory} (a b : Nat) (x : BitVec 8) (h : Memory.wf m = true) :
    Memory.read (Memory.write m a x) b = if a = b then x else Memory.read m b := Memory.read_write_from a b x h

/-! ### Maps -/

theorem AMap.set_keys {α : Type} {m : AMap α} {k : Nat} {x : α} {lo : Nat} (h : ∀ j ∈ m.map Prod.fst, lo < j) (hk : lo < k) :
    ∀ j ∈ (AMap.set m k x).map Prod.fst, lo < j := by
  induction m with
  | nil => simp [AMap.set, hk]
  | cons c r ih =>
    simp only [List.map_cons, List.mem_cons, forall_eq_or_imp] at h
    simp only [AMap.set]
    split
    · simpa [hk] using h
    · split
      · simpa [hk] using h.2
      · simpa [h.1] using ih h.2

/-- Setting an entry keeps the keys in order. -/
theorem AMap.set_rise {α : Type} {m : AMap α} (k : Nat) (x : α) (h : (m.map Prod.fst).Pairwise (· < ·)) :
    ((AMap.set m k x).map Prod.fst).Pairwise (· < ·) := by
  induction m with
  | nil => simp [AMap.set]
  | cons c r ih =>
    obtain ⟨i, y⟩ := c
    simp only [List.map_cons, List.pairwise_cons] at h
    simp only [AMap.set]
    split
    · rename_i hk
      simp only [List.map_cons, List.pairwise_cons, List.mem_cons, forall_eq_or_imp]
      exact ⟨⟨hk, fun j hj => Nat.lt_trans hk (h.1 j hj)⟩, h.1, h.2⟩
    · split
      · rename_i hk; subst hk; simpa using h
      · simp only [List.map_cons, List.pairwise_cons]
        exact ⟨AMap.set_keys h.1 (by omega), ih h.2⟩

/-- Removing an entry keeps the keys in order. -/
theorem AMap.erase_sublist {α : Type} (m : AMap α) (k : Nat) : ((AMap.erase m k).map Prod.fst).Sublist (m.map Prod.fst) := by
  induction m with
  | nil => simp [AMap.erase]
  | cons c r ih =>
    obtain ⟨i, y⟩ := c
    simp only [AMap.erase]
    split
    · exact List.sublist_cons_self _ _
    · exact ih.cons_cons i

/-- Removing an entry keeps the keys in order. -/
theorem AMap.erase_rise {α : Type} {m : AMap α} (k : Nat) (h : (m.map Prod.fst).Pairwise (· < ·)) :
    ((AMap.erase m k).map Prod.fst).Pairwise (· < ·) := h.sublist (AMap.erase_sublist m k)

/-- Of a map whose keys rise, a removed entry is gone. -/
theorem AMap.find?_erase_self {α : Type} {m : AMap α} (k : Nat) (h : (m.map Prod.fst).Nodup) : AMap.find? (AMap.erase m k) k = none := by
  induction m with
  | nil => rfl
  | cons c r ih =>
    obtain ⟨i, y⟩ := c
    simp only [List.map_cons, List.nodup_cons] at h
    simp only [AMap.erase]
    split
    · rename_i hi; subst hi
      have : ∀ (l : AMap α), i ∉ l.map Prod.fst → AMap.find? l i = none := by
        intro l hl
        induction l with
        | nil => rfl
        | cons d t ih2 =>
          simp only [List.map_cons, List.mem_cons, not_or] at hl
          simp only [AMap.find?]
          rw [if_neg (fun e => hl.1 e.symm)]
          exact ih2 hl.2
      exact this r h.1
    · rename_i hi
      simp only [AMap.find?, if_neg hi]
      exact ih h.2

/-- Removing an entry leaves the others. -/
theorem AMap.find?_erase_other {α : Type} (m : AMap α) {k j : Nat} (h : k ≠ j) : AMap.find? (AMap.erase m k) j = AMap.find? m j := by
  induction m with
  | nil => rfl
  | cons c r ih =>
    obtain ⟨i, y⟩ := c
    simp only [AMap.erase]
    split
    · rename_i hi; subst hi; simp [AMap.find?, h]
    · simp [AMap.find?, ih]

end Sys2Proof.Machine
end

