-- ==== Sys2Proof/Laws/PerInstr.lean ====
section
/-!
SUPPORT. What holds of every instruction, one lemma each: an instruction that is no event and is well formed is read back from its word.
-/
namespace Sys2Proof.Laws

open Sys2Proof

/-- A well-formed instruction is what its word decodes to. -/
def Encoding.Statement (i : Instr) : Prop := i.isEvent = false → i.wellFormed = true → decode (encode i) = some i

theorem Encoding.add (d : BitVec 5) (a : BitVec 5) (b : BitVec 5) (s : BitVec 3) : Encoding.Statement (.add d a b s) := by
  intro _ hw
  refine decode_of _ _ ?_ hw rfl
  show decodeMajor (fmtA 0x1#6 d a b 0#8 s) = _
  rw [decodeMajor_01 _ (fmtA_26_6 ..)]
  simp only [decodeInta, fmtA_21_5, fmtA_16_5, fmtA_11_5, fmtA_8_3, fmtA_3_5, fmtA_0_3]
  rfl

theorem Encoding.sub (d : BitVec 5) (a : BitVec 5) (b : BitVec 5) (s : BitVec 3) : Encoding.Statement (.sub d a b s) := by
  intro _ hw
  refine decode_of _ _ ?_ hw rfl
  show decodeMajor (fmtA 0x1#6 d a b 0x1#8 s) = _
  rw [decodeMajor_01 _ (fmtA_26_6 ..)]
  simp only [decodeInta, fmtA_21_5, fmtA_16_5, fmtA_11_5, fmtA_8_3, fmtA_3_5, fmtA_0_3]
  rfl

theorem Encoding.and (d : BitVec 5) (a : BitVec 5) (b : BitVec 5) (s : BitVec 3) : Encoding.Statement (.and d a b s) := by
  intro _ hw
  refine decode_of _ _ ?_ hw rfl
  show decodeMajor (fmtA 0x1#6 d a b 0x2#8 s) = _
  rw [decodeMajor_01 _ (fmtA_26_6 ..)]
  simp only [decodeInta, fmtA_21_5, fmtA_16_5, fmtA_11_5, fmtA_8_3, fmtA_3_5, fmtA_0_3]
  rfl

theorem Encoding.or (d : BitVec 5) (a : BitVec 5) (b : BitVec 5) (s : BitVec 3) : Encoding.Statement (.or d a b s) := by
  intro _ hw
  refine decode_of _ _ ?_ hw rfl
  show decodeMajor (fmtA 0x1#6 d a b 0x3#8 s) = _
  rw [decodeMajor_01 _ (fmtA_26_6 ..)]
  simp only [decodeInta, fmtA_21_5, fmtA_16_5, fmtA_11_5, fmtA_8_3, fmtA_3_5, fmtA_0_3]
  rfl

theorem Encoding.xor (d : BitVec 5) (a : BitVec 5) (b : BitVec 5) (s : BitVec 3) : Encoding.Statement (.xor d a b s) := by
  intro _ hw
  refine decode_of _ _ ?_ hw rfl
  show decodeMajor (fmtA 0x1#6 d a b 0x4#8 s) = _
  rw [decodeMajor_01 _ (fmtA_26_6 ..)]
  simp only [decodeInta, fmtA_21_5, fmtA_16_5, fmtA_11_5, fmtA_8_3, fmtA_3_5, fmtA_0_3]
  rfl

theorem Encoding.andn (d : BitVec 5) (a : BitVec 5) (b : BitVec 5) (s : BitVec 3) : Encoding.Statement (.andn d a b s) := by
  intro _ hw
  refine decode_of _ _ ?_ hw rfl
  show decodeMajor (fmtA 0x1#6 d a b 0x5#8 s) = _
  rw [decodeMajor_01 _ (fmtA_26_6 ..)]
  simp only [decodeInta, fmtA_21_5, fmtA_16_5, fmtA_11_5, fmtA_8_3, fmtA_3_5, fmtA_0_3]
  rfl

theorem Encoding.sll (d : BitVec 5) (a : BitVec 5) (b : BitVec 5) (s : BitVec 3) : Encoding.Statement (.sll d a b s) := by
  intro _ hw
  refine decode_of _ _ ?_ hw rfl
  show decodeMajor (fmtA 0x1#6 d a b 0x6#8 s) = _
  rw [decodeMajor_01 _ (fmtA_26_6 ..)]
  simp only [decodeInta, fmtA_21_5, fmtA_16_5, fmtA_11_5, fmtA_8_3, fmtA_3_5, fmtA_0_3]
  rfl

theorem Encoding.srl (d : BitVec 5) (a : BitVec 5) (b : BitVec 5) (s : BitVec 3) : Encoding.Statement (.srl d a b s) := by
  intro _ hw
  refine decode_of _ _ ?_ hw rfl
  show decodeMajor (fmtA 0x1#6 d a b 0x7#8 s) = _
  rw [decodeMajor_01 _ (fmtA_26_6 ..)]
  simp only [decodeInta, fmtA_21_5, fmtA_16_5, fmtA_11_5, fmtA_8_3, fmtA_3_5, fmtA_0_3]
  rfl

theorem Encoding.sra (d : BitVec 5) (a : BitVec 5) (b : BitVec 5) (s : BitVec 3) : Encoding.Statement (.sra d a b s) := by
  intro _ hw
  refine decode_of _ _ ?_ hw rfl
  show decodeMajor (fmtA 0x1#6 d a b 0x8#8 s) = _
  rw [decodeMajor_01 _ (fmtA_26_6 ..)]
  simp only [decodeInta, fmtA_21_5, fmtA_16_5, fmtA_11_5, fmtA_8_3, fmtA_3_5, fmtA_0_3]
  rfl

theorem Encoding.min (d : BitVec 5) (a : BitVec 5) (b : BitVec 5) (s : BitVec 3) : Encoding.Statement (.min d a b s) := by
  intro _ hw
  refine decode_of _ _ ?_ hw rfl
  show decodeMajor (fmtA 0x1#6 d a b 0x9#8 s) = _
  rw [decodeMajor_01 _ (fmtA_26_6 ..)]
  simp only [decodeInta, fmtA_21_5, fmtA_16_5, fmtA_11_5, fmtA_8_3, fmtA_3_5, fmtA_0_3]
  rfl

theorem Encoding.max (d : BitVec 5) (a : BitVec 5) (b : BitVec 5) (s : BitVec 3) : Encoding.Statement (.max d a b s) := by
  intro _ hw
  refine decode_of _ _ ?_ hw rfl
  show decodeMajor (fmtA 0x1#6 d a b 0xA#8 s) = _
  rw [decodeMajor_01 _ (fmtA_26_6 ..)]
  simp only [decodeInta, fmtA_21_5, fmtA_16_5, fmtA_11_5, fmtA_8_3, fmtA_3_5, fmtA_0_3]
  rfl

theorem Encoding.minz (d : BitVec 5) (a : BitVec 5) (b : BitVec 5) (s : BitVec 3) : Encoding.Statement (.minz d a b s) := by
  intro _ hw
  refine decode_of _ _ ?_ hw rfl
  show decodeMajor (fmtA 0x1#6 d a b 0xB#8 s) = _
  rw [decodeMajor_01 _ (fmtA_26_6 ..)]
  simp only [decodeInta, fmtA_21_5, fmtA_16_5, fmtA_11_5, fmtA_8_3, fmtA_3_5, fmtA_0_3]
  rfl

theorem Encoding.maxz (d : BitVec 5) (a : BitVec 5) (b : BitVec 5) (s : BitVec 3) : Encoding.Statement (.maxz d a b s) := by
  intro _ hw
  refine decode_of _ _ ?_ hw rfl
  show decodeMajor (fmtA 0x1#6 d a b 0xC#8 s) = _
  rw [decodeMajor_01 _ (fmtA_26_6 ..)]
  simp only [decodeInta, fmtA_21_5, fmtA_16_5, fmtA_11_5, fmtA_8_3, fmtA_3_5, fmtA_0_3]
  rfl

theorem Encoding.slt (d : BitVec 5) (a : BitVec 5) (b : BitVec 5) (s : BitVec 3) : Encoding.Statement (.slt d a b s) := by
  intro _ hw
  refine decode_of _ _ ?_ hw rfl
  show decodeMajor (fmtA 0x1#6 d a b 0xD#8 s) = _
  rw [decodeMajor_01 _ (fmtA_26_6 ..)]
  simp only [decodeInta, fmtA_21_5, fmtA_16_5, fmtA_11_5, fmtA_8_3, fmtA_3_5, fmtA_0_3]
  rfl

theorem Encoding.sltz (d : BitVec 5) (a : BitVec 5) (b : BitVec 5) (s : BitVec 3) : Encoding.Statement (.sltz d a b s) := by
  intro _ hw
  refine decode_of _ _ ?_ hw rfl
  show decodeMajor (fmtA 0x1#6 d a b 0xE#8 s) = _
  rw [decodeMajor_01 _ (fmtA_26_6 ..)]
  simp only [decodeInta, fmtA_21_5, fmtA_16_5, fmtA_11_5, fmtA_8_3, fmtA_3_5, fmtA_0_3]
  rfl

theorem Encoding.seq (d : BitVec 5) (a : BitVec 5) (b : BitVec 5) (s : BitVec 3) : Encoding.Statement (.seq d a b s) := by
  intro _ hw
  refine decode_of _ _ ?_ hw rfl
  show decodeMajor (fmtA 0x1#6 d a b 0xF#8 s) = _
  rw [decodeMajor_01 _ (fmtA_26_6 ..)]
  simp only [decodeInta, fmtA_21_5, fmtA_16_5, fmtA_11_5, fmtA_8_3, fmtA_3_5, fmtA_0_3]
  rfl

theorem Encoding.clz (d : BitVec 5) (a : BitVec 5) (s : BitVec 3) : Encoding.Statement (.clz d a s) := by
  intro _ hw
  refine decode_of _ _ ?_ hw rfl
  show decodeMajor (fmtA 0x1#6 d a 0#5 0x10#8 s) = _
  rw [decodeMajor_01 _ (fmtA_26_6 ..)]
  simp only [decodeInta, fmtA_21_5, fmtA_16_5, fmtA_11_5, fmtA_8_3, fmtA_3_5, fmtA_0_3]
  rfl

theorem Encoding.ctz (d : BitVec 5) (a : BitVec 5) (s : BitVec 3) : Encoding.Statement (.ctz d a s) := by
  intro _ hw
  refine decode_of _ _ ?_ hw rfl
  show decodeMajor (fmtA 0x1#6 d a 0#5 0x11#8 s) = _
  rw [decodeMajor_01 _ (fmtA_26_6 ..)]
  simp only [decodeInta, fmtA_21_5, fmtA_16_5, fmtA_11_5, fmtA_8_3, fmtA_3_5, fmtA_0_3]
  rfl

theorem Encoding.popc (d : BitVec 5) (a : BitVec 5) (s : BitVec 3) : Encoding.Statement (.popc d a s) := by
  intro _ hw
  refine decode_of _ _ ?_ hw rfl
  show decodeMajor (fmtA 0x1#6 d a 0#5 0x12#8 s) = _
  rw [decodeMajor_01 _ (fmtA_26_6 ..)]
  simp only [decodeInta, fmtA_21_5, fmtA_16_5, fmtA_11_5, fmtA_8_3, fmtA_3_5, fmtA_0_3]
  rfl

theorem Encoding.padd (d : BitVec 5) (a : BitVec 5) (b : BitVec 5) (s : BitVec 3) : Encoding.Statement (.padd d a b s) := by
  intro _ hw
  refine decode_of _ _ ?_ hw rfl
  show decodeMajor (fmtA 0x1#6 d a b 0x18#8 s) = _
  rw [decodeMajor_01 _ (fmtA_26_6 ..)]
  simp only [decodeInta, fmtA_21_5, fmtA_16_5, fmtA_11_5, fmtA_8_3, fmtA_3_5, fmtA_0_3]
  rfl

theorem Encoding.psub (d : BitVec 5) (a : BitVec 5) (b : BitVec 5) (s : BitVec 3) : Encoding.Statement (.psub d a b s) := by
  intro _ hw
  refine decode_of _ _ ?_ hw rfl
  show decodeMajor (fmtA 0x1#6 d a b 0x19#8 s) = _
  rw [decodeMajor_01 _ (fmtA_26_6 ..)]
  simp only [decodeInta, fmtA_21_5, fmtA_16_5, fmtA_11_5, fmtA_8_3, fmtA_3_5, fmtA_0_3]
  rfl

theorem Encoding.pdesc (d : BitVec 5) (a : BitVec 5) (s : BitVec 3) : Encoding.Statement (.pdesc d a s) := by
  intro _ hw
  refine decode_of _ _ ?_ hw rfl
  show decodeMajor (fmtA 0x1#6 d a 0#5 0x1A#8 s) = _
  rw [decodeMajor_01 _ (fmtA_26_6 ..)]
  simp only [decodeInta, fmtA_21_5, fmtA_16_5, fmtA_11_5, fmtA_8_3, fmtA_3_5, fmtA_0_3]
  rfl

theorem Encoding.pset (d : BitVec 5) (a : BitVec 5) (b : BitVec 5) (s : BitVec 3) : Encoding.Statement (.pset d a b s) := by
  intro _ hw
  refine decode_of _ _ ?_ hw rfl
  show decodeMajor (fmtA 0x1#6 d a b 0x1B#8 s) = _
  rw [decodeMajor_01 _ (fmtA_26_6 ..)]
  simp only [decodeInta, fmtA_21_5, fmtA_16_5, fmtA_11_5, fmtA_8_3, fmtA_3_5, fmtA_0_3]
  rfl

theorem Encoding.cselEqz (d : BitVec 5) (a : BitVec 5) (b : BitVec 5) (c : BitVec 5) (s : BitVec 3) : Encoding.Statement (.cselEqz d a b c s) := by
  intro _ hw
  refine decode_of _ _ ?_ hw rfl
  show decodeMajor (fmtA 0x1#6 d a b (0x2#3 ++ c) s) = _
  rw [decodeMajor_01 _ (fmtA_26_6 ..)]
  simp only [decodeInta, fmtA_21_5, fmtA_16_5, fmtA_11_5, fmtA_8_3, fmtA_3_5, fmtA_0_3, cat_3_5_0_5, cat_3_5_5_3]

theorem Encoding.cselNez (d : BitVec 5) (a : BitVec 5) (b : BitVec 5) (c : BitVec 5) (s : BitVec 3) : Encoding.Statement (.cselNez d a b c s) := by
  intro _ hw
  refine decode_of _ _ ?_ hw rfl
  show decodeMajor (fmtA 0x1#6 d a b (0x3#3 ++ c) s) = _
  rw [decodeMajor_01 _ (fmtA_26_6 ..)]
  simp only [decodeInta, fmtA_21_5, fmtA_16_5, fmtA_11_5, fmtA_8_3, fmtA_3_5, fmtA_0_3, cat_3_5_0_5, cat_3_5_5_3]

theorem Encoding.cselLtz (d : BitVec 5) (a : BitVec 5) (b : BitVec 5) (c : BitVec 5) (s : BitVec 3) : Encoding.Statement (.cselLtz d a b c s) := by
  intro _ hw
  refine decode_of _ _ ?_ hw rfl
  show decodeMajor (fmtA 0x1#6 d a b (0x4#3 ++ c) s) = _
  rw [decodeMajor_01 _ (fmtA_26_6 ..)]
  simp only [decodeInta, fmtA_21_5, fmtA_16_5, fmtA_11_5, fmtA_8_3, fmtA_3_5, fmtA_0_3, cat_3_5_0_5, cat_3_5_5_3]

theorem Encoding.cselGez (d : BitVec 5) (a : BitVec 5) (b : BitVec 5) (c : BitVec 5) (s : BitVec 3) : Encoding.Statement (.cselGez d a b c s) := by
  intro _ hw
  refine decode_of _ _ ?_ hw rfl
  show decodeMajor (fmtA 0x1#6 d a b (0x5#3 ++ c) s) = _
  rw [decodeMajor_01 _ (fmtA_26_6 ..)]
  simp only [decodeInta, fmtA_21_5, fmtA_16_5, fmtA_11_5, fmtA_8_3, fmtA_3_5, fmtA_0_3, cat_3_5_0_5, cat_3_5_5_3]

theorem Encoding.cselGtz (d : BitVec 5) (a : BitVec 5) (b : BitVec 5) (c : BitVec 5) (s : BitVec 3) : Encoding.Statement (.cselGtz d a b c s) := by
  intro _ hw
  refine decode_of _ _ ?_ hw rfl
  show decodeMajor (fmtA 0x1#6 d a b (0x6#3 ++ c) s) = _
  rw [decodeMajor_01 _ (fmtA_26_6 ..)]
  simp only [decodeInta, fmtA_21_5, fmtA_16_5, fmtA_11_5, fmtA_8_3, fmtA_3_5, fmtA_0_3, cat_3_5_0_5, cat_3_5_5_3]

theorem Encoding.cselLez (d : BitVec 5) (a : BitVec 5) (b : BitVec 5) (c : BitVec 5) (s : BitVec 3) : Encoding.Statement (.cselLez d a b c s) := by
  intro _ hw
  refine decode_of _ _ ?_ hw rfl
  show decodeMajor (fmtA 0x1#6 d a b (0x7#3 ++ c) s) = _
  rw [decodeMajor_01 _ (fmtA_26_6 ..)]
  simp only [decodeInta, fmtA_21_5, fmtA_16_5, fmtA_11_5, fmtA_8_3, fmtA_3_5, fmtA_0_3, cat_3_5_0_5, cat_3_5_5_3]

theorem Encoding.mul (d : BitVec 5) (a : BitVec 5) (b : BitVec 5) (s : BitVec 3) : Encoding.Statement (.mul d a b s) := by
  intro _ hw
  refine decode_of _ _ ?_ hw rfl
  show decodeMajor (fmtA 0x2#6 d a b 0#8 s) = _
  rw [decodeMajor_02 _ (fmtA_26_6 ..)]
  simp only [decodeMula, fmtA_21_5, fmtA_16_5, fmtA_11_5, fmtA_3_8, fmtA_0_3]

theorem Encoding.mulh (d : BitVec 5) (a : BitVec 5) (b : BitVec 5) (s : BitVec 3) : Encoding.Statement (.mulh d a b s) := by
  intro _ hw
  refine decode_of _ _ ?_ hw rfl
  show decodeMajor (fmtA 0x2#6 d a b 0x1#8 s) = _
  rw [decodeMajor_02 _ (fmtA_26_6 ..)]
  simp only [decodeMula, fmtA_21_5, fmtA_16_5, fmtA_11_5, fmtA_3_8, fmtA_0_3]

theorem Encoding.mulhz (d : BitVec 5) (a : BitVec 5) (b : BitVec 5) (s : BitVec 3) : Encoding.Statement (.mulhz d a b s) := by
  intro _ hw
  refine decode_of _ _ ?_ hw rfl
  show decodeMajor (fmtA 0x2#6 d a b 0x2#8 s) = _
  rw [decodeMajor_02 _ (fmtA_26_6 ..)]
  simp only [decodeMula, fmtA_21_5, fmtA_16_5, fmtA_11_5, fmtA_3_8, fmtA_0_3]

theorem Encoding.div (d : BitVec 5) (a : BitVec 5) (b : BitVec 5) (s : BitVec 3) : Encoding.Statement (.div d a b s) := by
  intro _ hw
  refine decode_of _ _ ?_ hw rfl
  show decodeMajor (fmtA 0x2#6 d a b 0x3#8 s) = _
  rw [decodeMajor_02 _ (fmtA_26_6 ..)]
  simp only [decodeMula, fmtA_21_5, fmtA_16_5, fmtA_11_5, fmtA_3_8, fmtA_0_3]

theorem Encoding.divz (d : BitVec 5) (a : BitVec 5) (b : BitVec 5) (s : BitVec 3) : Encoding.Statement (.divz d a b s) := by
  intro _ hw
  refine decode_of _ _ ?_ hw rfl
  show decodeMajor (fmtA 0x2#6 d a b 0x4#8 s) = _
  rw [decodeMajor_02 _ (fmtA_26_6 ..)]
  simp only [decodeMula, fmtA_21_5, fmtA_16_5, fmtA_11_5, fmtA_3_8, fmtA_0_3]

theorem Encoding.rem (d : BitVec 5) (a : BitVec 5) (b : BitVec 5) (s : BitVec 3) : Encoding.Statement (.rem d a b s) := by
  intro _ hw
  refine decode_of _ _ ?_ hw rfl
  show decodeMajor (fmtA 0x2#6 d a b 0x5#8 s) = _
  rw [decodeMajor_02 _ (fmtA_26_6 ..)]
  simp only [decodeMula, fmtA_21_5, fmtA_16_5, fmtA_11_5, fmtA_3_8, fmtA_0_3]

theorem Encoding.remz (d : BitVec 5) (a : BitVec 5) (b : BitVec 5) (s : BitVec 3) : Encoding.Statement (.remz d a b s) := by
  intro _ hw
  refine decode_of _ _ ?_ hw rfl
  show decodeMajor (fmtA 0x2#6 d a b 0x6#8 s) = _
  rw [decodeMajor_02 _ (fmtA_26_6 ..)]
  simp only [decodeMula, fmtA_21_5, fmtA_16_5, fmtA_11_5, fmtA_3_8, fmtA_0_3]

theorem Encoding.addi (d : BitVec 5) (a : BitVec 5) (i : BitVec 16) : Encoding.Statement (.addi d a i) := by
  intro _ hw
  refine decode_of _ _ ?_ hw rfl
  show decodeMajor (fmtI 0x3#6 d a i) = _
  rw [decodeMajor_03 _ (fmtI_26_6 ..)]
  simp only [fmtI_21_5, fmtI_16_5, fmtI_0_16]

theorem Encoding.andi (d : BitVec 5) (a : BitVec 5) (i : BitVec 16) : Encoding.Statement (.andi d a i) := by
  intro _ hw
  refine decode_of _ _ ?_ hw rfl
  show decodeMajor (fmtI 0x4#6 d a i) = _
  rw [decodeMajor_04 _ (fmtI_26_6 ..)]
  simp only [fmtI_21_5, fmtI_16_5, fmtI_0_16]

theorem Encoding.ori (d : BitVec 5) (a : BitVec 5) (i : BitVec 16) : Encoding.Statement (.ori d a i) := by
  intro _ hw
  refine decode_of _ _ ?_ hw rfl
  show decodeMajor (fmtI 0x5#6 d a i) = _
  rw [decodeMajor_05 _ (fmtI_26_6 ..)]
  simp only [fmtI_21_5, fmtI_16_5, fmtI_0_16]

theorem Encoding.xori (d : BitVec 5) (a : BitVec 5) (i : BitVec 16) : Encoding.Statement (.xori d a i) := by
  intro _ hw
  refine decode_of _ _ ?_ hw rfl
  show decodeMajor (fmtI 0x6#6 d a i) = _
  rw [decodeMajor_06 _ (fmtI_26_6 ..)]
  simp only [fmtI_21_5, fmtI_16_5, fmtI_0_16]

theorem Encoding.slti (d : BitVec 5) (a : BitVec 5) (i : BitVec 16) : Encoding.Statement (.slti d a i) := by
  intro _ hw
  refine decode_of _ _ ?_ hw rfl
  show decodeMajor (fmtI 0x7#6 d a i) = _
  rw [decodeMajor_07 _ (fmtI_26_6 ..)]
  simp only [fmtI_21_5, fmtI_16_5, fmtI_0_16]

theorem Encoding.sltiz (d : BitVec 5) (a : BitVec 5) (i : BitVec 16) : Encoding.Statement (.sltiz d a i) := by
  intro _ hw
  refine decode_of _ _ ?_ hw rfl
  show decodeMajor (fmtI 0x8#6 d a i) = _
  rw [decodeMajor_08 _ (fmtI_26_6 ..)]
  simp only [fmtI_21_5, fmtI_16_5, fmtI_0_16]

theorem Encoding.slli (d : BitVec 5) (a : BitVec 5) (n : BitVec 6) : Encoding.Statement (.slli d a n) := by
  intro _ hw
  refine decode_of _ _ ?_ hw rfl
  show decodeMajor (fmtI 0x9#6 d a (0#10 ++ n)) = _
  rw [decodeMajor_09 _ (fmtI_26_6 ..)]
  simp only [decodeShi, fmtI_21_5, fmtI_16_5, fmtI_6_2, fmtI_0_6, cat_10_6_0_6, cat_10_6_6_2]
  rfl

theorem Encoding.srli (d : BitVec 5) (a : BitVec 5) (n : BitVec 6) : Encoding.Statement (.srli d a n) := by
  intro _ hw
  refine decode_of _ _ ?_ hw rfl
  show decodeMajor (fmtI 0x9#6 d a (0x1#10 ++ n)) = _
  rw [decodeMajor_09 _ (fmtI_26_6 ..)]
  simp only [decodeShi, fmtI_21_5, fmtI_16_5, fmtI_6_2, fmtI_0_6, cat_10_6_0_6, cat_10_6_6_2]
  rfl

theorem Encoding.srai (d : BitVec 5) (a : BitVec 5) (n : BitVec 6) : Encoding.Statement (.srai d a n) := by
  intro _ hw
  refine decode_of _ _ ?_ hw rfl
  show decodeMajor (fmtI 0x9#6 d a (0x2#10 ++ n)) = _
  rw [decodeMajor_09 _ (fmtI_26_6 ..)]
  simp only [decodeShi, fmtI_21_5, fmtI_16_5, fmtI_6_2, fmtI_0_6, cat_10_6_0_6, cat_10_6_6_2]
  rfl

theorem Encoding.paddi (d : BitVec 5) (a : BitVec 5) (i : BitVec 16) : Encoding.Statement (.paddi d a i) := by
  intro _ hw
  refine decode_of _ _ ?_ hw rfl
  show decodeMajor (fmtI 0xA#6 d a i) = _
  rw [decodeMajor_0A _ (fmtI_26_6 ..)]
  simp only [fmtI_21_5, fmtI_16_5, fmtI_0_16]

theorem Encoding.luk (d : BitVec 5) (i : BitVec 21) : Encoding.Statement (.luk d i) := by
  intro _ hw
  refine decode_of _ _ ?_ hw rfl
  show decodeMajor (fmtJ 0xB#6 d i) = _
  rw [decodeMajor_0B _ (fmtJ_26_6 ..)]
  simp only [fmtJ_21_5, fmtJ_0_21]

theorem Encoding.addpc (d : BitVec 5) (i : BitVec 21) : Encoding.Statement (.addpc d i) := by
  intro _ hw
  refine decode_of _ _ ?_ hw rfl
  show decodeMajor (fmtJ 0xC#6 d i) = _
  rw [decodeMajor_0C _ (fmtJ_26_6 ..)]
  simp only [fmtJ_21_5, fmtJ_0_21]

theorem Encoding.ldB (t : BitVec 5) (a : BitVec 5) (o : BitVec 13) : Encoding.Statement (.ldB t a o) := by
  intro _ hw
  refine decode_of _ _ ?_ hw rfl
  show decodeMajor (fmtM 0xD#6 t a 0#3 o) = _
  rw [decodeMajor_0D _ (fmtM_26_6 ..)]
  simp only [decodeLd, fmtM_21_5, fmtM_16_5, fmtM_13_3, fmtM_0_13]

theorem Encoding.ldH (t : BitVec 5) (a : BitVec 5) (o : BitVec 13) : Encoding.Statement (.ldH t a o) := by
  intro _ hw
  refine decode_of _ _ ?_ hw rfl
  show decodeMajor (fmtM 0xD#6 t a 0x1#3 o) = _
  rw [decodeMajor_0D _ (fmtM_26_6 ..)]
  simp only [decodeLd, fmtM_21_5, fmtM_16_5, fmtM_13_3, fmtM_0_13]

theorem Encoding.ldW (t : BitVec 5) (a : BitVec 5) (o : BitVec 13) : Encoding.Statement (.ldW t a o) := by
  intro _ hw
  refine decode_of _ _ ?_ hw rfl
  show decodeMajor (fmtM 0xD#6 t a 0x2#3 o) = _
  rw [decodeMajor_0D _ (fmtM_26_6 ..)]
  simp only [decodeLd, fmtM_21_5, fmtM_16_5, fmtM_13_3, fmtM_0_13]

theorem Encoding.ldD (t : BitVec 5) (a : BitVec 5) (o : BitVec 13) : Encoding.Statement (.ldD t a o) := by
  intro _ hw
  refine decode_of _ _ ?_ hw rfl
  show decodeMajor (fmtM 0xD#6 t a 0x3#3 o) = _
  rw [decodeMajor_0D _ (fmtM_26_6 ..)]
  simp only [decodeLd, fmtM_21_5, fmtM_16_5, fmtM_13_3, fmtM_0_13]

theorem Encoding.ldzB (t : BitVec 5) (a : BitVec 5) (o : BitVec 13) : Encoding.Statement (.ldzB t a o) := by
  intro _ hw
  refine decode_of _ _ ?_ hw rfl
  show decodeMajor (fmtM 0xD#6 t a 0x4#3 o) = _
  rw [decodeMajor_0D _ (fmtM_26_6 ..)]
  simp only [decodeLd, fmtM_21_5, fmtM_16_5, fmtM_13_3, fmtM_0_13]

theorem Encoding.ldzH (t : BitVec 5) (a : BitVec 5) (o : BitVec 13) : Encoding.Statement (.ldzH t a o) := by
  intro _ hw
  refine decode_of _ _ ?_ hw rfl
  show decodeMajor (fmtM 0xD#6 t a 0x5#3 o) = _
  rw [decodeMajor_0D _ (fmtM_26_6 ..)]
  simp only [decodeLd, fmtM_21_5, fmtM_16_5, fmtM_13_3, fmtM_0_13]

theorem Encoding.ldzW (t : BitVec 5) (a : BitVec 5) (o : BitVec 13) : Encoding.Statement (.ldzW t a o) := by
  intro _ hw
  refine decode_of _ _ ?_ hw rfl
  show decodeMajor (fmtM 0xD#6 t a 0x6#3 o) = _
  rw [decodeMajor_0D _ (fmtM_26_6 ..)]
  simp only [decodeLd, fmtM_21_5, fmtM_16_5, fmtM_13_3, fmtM_0_13]

theorem Encoding.stB (t : BitVec 5) (a : BitVec 5) (o : BitVec 13) : Encoding.Statement (.stB t a o) := by
  intro _ hw
  refine decode_of _ _ ?_ hw rfl
  show decodeMajor (fmtM 0xE#6 t a 0#3 o) = _
  rw [decodeMajor_0E _ (fmtM_26_6 ..)]
  simp only [decodeSt, fmtM_21_5, fmtM_16_5, fmtM_13_3, fmtM_0_13]

theorem Encoding.stH (t : BitVec 5) (a : BitVec 5) (o : BitVec 13) : Encoding.Statement (.stH t a o) := by
  intro _ hw
  refine decode_of _ _ ?_ hw rfl
  show decodeMajor (fmtM 0xE#6 t a 0x1#3 o) = _
  rw [decodeMajor_0E _ (fmtM_26_6 ..)]
  simp only [decodeSt, fmtM_21_5, fmtM_16_5, fmtM_13_3, fmtM_0_13]

theorem Encoding.stW (t : BitVec 5) (a : BitVec 5) (o : BitVec 13) : Encoding.Statement (.stW t a o) := by
  intro _ hw
  refine decode_of _ _ ?_ hw rfl
  show decodeMajor (fmtM 0xE#6 t a 0x2#3 o) = _
  rw [decodeMajor_0E _ (fmtM_26_6 ..)]
  simp only [decodeSt, fmtM_21_5, fmtM_16_5, fmtM_13_3, fmtM_0_13]

theorem Encoding.stD (t : BitVec 5) (a : BitVec 5) (o : BitVec 13) : Encoding.Statement (.stD t a o) := by
  intro _ hw
  refine decode_of _ _ ?_ hw rfl
  show decodeMajor (fmtM 0xE#6 t a 0x3#3 o) = _
  rw [decodeMajor_0E _ (fmtM_26_6 ..)]
  simp only [decodeSt, fmtM_21_5, fmtM_16_5, fmtM_13_3, fmtM_0_13]

theorem Encoding.ldcW (t : BitVec 5) (a : BitVec 5) (o : BitVec 13) : Encoding.Statement (.ldcW t a o) := by
  intro _ hw
  refine decode_of _ _ ?_ hw rfl
  show decodeMajor (fmtM 0xF#6 t a 0x2#3 o) = _
  rw [decodeMajor_0F _ (fmtM_26_6 ..)]
  simp only [decodeLdc, fmtM_21_5, fmtM_16_5, fmtM_13_3, fmtM_0_13]

theorem Encoding.ldcD (t : BitVec 5) (a : BitVec 5) (o : BitVec 13) : Encoding.Statement (.ldcD t a o) := by
  intro _ hw
  refine decode_of _ _ ?_ hw rfl
  show decodeMajor (fmtM 0xF#6 t a 0x3#3 o) = _
  rw [decodeMajor_0F _ (fmtM_26_6 ..)]
  simp only [decodeLdc, fmtM_21_5, fmtM_16_5, fmtM_13_3, fmtM_0_13]

theorem Encoding.ldbit (d : BitVec 5) (a : BitVec 5) (b : BitVec 5) (n : BitVec 6) (s : BitVec 3) : Encoding.Statement (.ldbit d a b n s) := by
  intro _ hw
  refine decode_of _ _ ?_ hw rfl
  show decodeMajor (fmtA 0x10#6 d a b (0#2 ++ n) s) = _
  rw [decodeMajor_10 _ (fmtA_26_6 ..)]
  simp only [decodeBitm, fmtA_21_5, fmtA_16_5, fmtA_11_5, fmtA_9_2, fmtA_3_6, fmtA_0_3, cat_2_6_0_6, cat_2_6_6_2]

theorem Encoding.ldbitS (d : BitVec 5) (a : BitVec 5) (b : BitVec 5) (n : BitVec 6) (s : BitVec 3) : Encoding.Statement (.ldbitS d a b n s) := by
  intro _ hw
  refine decode_of _ _ ?_ hw rfl
  show decodeMajor (fmtA 0x10#6 d a b (0x1#2 ++ n) s) = _
  rw [decodeMajor_10 _ (fmtA_26_6 ..)]
  simp only [decodeBitm, fmtA_21_5, fmtA_16_5, fmtA_11_5, fmtA_9_2, fmtA_3_6, fmtA_0_3, cat_2_6_0_6, cat_2_6_6_2]

theorem Encoding.stbit (d : BitVec 5) (a : BitVec 5) (b : BitVec 5) (n : BitVec 6) (s : BitVec 3) : Encoding.Statement (.stbit d a b n s) := by
  intro _ hw
  refine decode_of _ _ ?_ hw rfl
  show decodeMajor (fmtA 0x10#6 d a b (0x2#2 ++ n) s) = _
  rw [decodeMajor_10 _ (fmtA_26_6 ..)]
  simp only [decodeBitm, fmtA_21_5, fmtA_16_5, fmtA_11_5, fmtA_9_2, fmtA_3_6, fmtA_0_3, cat_2_6_0_6, cat_2_6_6_2]

theorem Encoding.amoAdd (d : BitVec 5) (a : BitVec 5) (b : BitVec 5) (z : BitVec 1) (c : BitVec 3) (o : BitVec 3) : Encoding.Statement (.amoAdd d a b z c o) := by
  intro _ hw
  refine decode_of _ _ ?_ hw rfl
  show decodeMajor (fmtA 0x11#6 d a b (0#4 ++ z ++ c) o) = _
  rw [decodeMajor_11 _ (fmtA_26_6 ..)]
  simp only [decodeAtom, fmtA_21_5, fmtA_16_5, fmtA_11_5, fmtA_7_4, fmtA_6_1, fmtA_3_3, fmtA_0_3, cat_4_1_3_0_3, cat_4_1_3_3_1, cat_4_1_3_4_4]

theorem Encoding.amoAnd (d : BitVec 5) (a : BitVec 5) (b : BitVec 5) (z : BitVec 1) (c : BitVec 3) (o : BitVec 3) : Encoding.Statement (.amoAnd d a b z c o) := by
  intro _ hw
  refine decode_of _ _ ?_ hw rfl
  show decodeMajor (fmtA 0x11#6 d a b (0x1#4 ++ z ++ c) o) = _
  rw [decodeMajor_11 _ (fmtA_26_6 ..)]
  simp only [decodeAtom, fmtA_21_5, fmtA_16_5, fmtA_11_5, fmtA_7_4, fmtA_6_1, fmtA_3_3, fmtA_0_3, cat_4_1_3_0_3, cat_4_1_3_3_1, cat_4_1_3_4_4]

theorem Encoding.amoOr (d : BitVec 5) (a : BitVec 5) (b : BitVec 5) (z : BitVec 1) (c : BitVec 3) (o : BitVec 3) : Encoding.Statement (.amoOr d a b z c o) := by
  intro _ hw
  refine decode_of _ _ ?_ hw rfl
  show decodeMajor (fmtA 0x11#6 d a b (0x2#4 ++ z ++ c) o) = _
  rw [decodeMajor_11 _ (fmtA_26_6 ..)]
  simp only [decodeAtom, fmtA_21_5, fmtA_16_5, fmtA_11_5, fmtA_7_4, fmtA_6_1, fmtA_3_3, fmtA_0_3, cat_4_1_3_0_3, cat_4_1_3_3_1, cat_4_1_3_4_4]

theorem Encoding.amoXor (d : BitVec 5) (a : BitVec 5) (b : BitVec 5) (z : BitVec 1) (c : BitVec 3) (o : BitVec 3) : Encoding.Statement (.amoXor d a b z c o) := by
  intro _ hw
  refine decode_of _ _ ?_ hw rfl
  show decodeMajor (fmtA 0x11#6 d a b (0x3#4 ++ z ++ c) o) = _
  rw [decodeMajor_11 _ (fmtA_26_6 ..)]
  simp only [decodeAtom, fmtA_21_5, fmtA_16_5, fmtA_11_5, fmtA_7_4, fmtA_6_1, fmtA_3_3, fmtA_0_3, cat_4_1_3_0_3, cat_4_1_3_3_1, cat_4_1_3_4_4]

theorem Encoding.amoMin (d : BitVec 5) (a : BitVec 5) (b : BitVec 5) (z : BitVec 1) (c : BitVec 3) (o : BitVec 3) : Encoding.Statement (.amoMin d a b z c o) := by
  intro _ hw
  refine decode_of _ _ ?_ hw rfl
  show decodeMajor (fmtA 0x11#6 d a b (0x4#4 ++ z ++ c) o) = _
  rw [decodeMajor_11 _ (fmtA_26_6 ..)]
  simp only [decodeAtom, fmtA_21_5, fmtA_16_5, fmtA_11_5, fmtA_7_4, fmtA_6_1, fmtA_3_3, fmtA_0_3, cat_4_1_3_0_3, cat_4_1_3_3_1, cat_4_1_3_4_4]

theorem Encoding.amoMax (d : BitVec 5) (a : BitVec 5) (b : BitVec 5) (z : BitVec 1) (c : BitVec 3) (o : BitVec 3) : Encoding.Statement (.amoMax d a b z c o) := by
  intro _ hw
  refine decode_of _ _ ?_ hw rfl
  show decodeMajor (fmtA 0x11#6 d a b (0x5#4 ++ z ++ c) o) = _
  rw [decodeMajor_11 _ (fmtA_26_6 ..)]
  simp only [decodeAtom, fmtA_21_5, fmtA_16_5, fmtA_11_5, fmtA_7_4, fmtA_6_1, fmtA_3_3, fmtA_0_3, cat_4_1_3_0_3, cat_4_1_3_3_1, cat_4_1_3_4_4]

theorem Encoding.amoMinz (d : BitVec 5) (a : BitVec 5) (b : BitVec 5) (z : BitVec 1) (c : BitVec 3) (o : BitVec 3) : Encoding.Statement (.amoMinz d a b z c o) := by
  intro _ hw
  refine decode_of _ _ ?_ hw rfl
  show decodeMajor (fmtA 0x11#6 d a b (0x6#4 ++ z ++ c) o) = _
  rw [decodeMajor_11 _ (fmtA_26_6 ..)]
  simp only [decodeAtom, fmtA_21_5, fmtA_16_5, fmtA_11_5, fmtA_7_4, fmtA_6_1, fmtA_3_3, fmtA_0_3, cat_4_1_3_0_3, cat_4_1_3_3_1, cat_4_1_3_4_4]

theorem Encoding.amoMaxz (d : BitVec 5) (a : BitVec 5) (b : BitVec 5) (z : BitVec 1) (c : BitVec 3) (o : BitVec 3) : Encoding.Statement (.amoMaxz d a b z c o) := by
  intro _ hw
  refine decode_of _ _ ?_ hw rfl
  show decodeMajor (fmtA 0x11#6 d a b (0x7#4 ++ z ++ c) o) = _
  rw [decodeMajor_11 _ (fmtA_26_6 ..)]
  simp only [decodeAtom, fmtA_21_5, fmtA_16_5, fmtA_11_5, fmtA_7_4, fmtA_6_1, fmtA_3_3, fmtA_0_3, cat_4_1_3_0_3, cat_4_1_3_3_1, cat_4_1_3_4_4]

theorem Encoding.amoSwap (d : BitVec 5) (a : BitVec 5) (b : BitVec 5) (z : BitVec 1) (c : BitVec 3) (o : BitVec 3) : Encoding.Statement (.amoSwap d a b z c o) := by
  intro _ hw
  refine decode_of _ _ ?_ hw rfl
  show decodeMajor (fmtA 0x11#6 d a b (0x8#4 ++ z ++ c) o) = _
  rw [decodeMajor_11 _ (fmtA_26_6 ..)]
  simp only [decodeAtom, fmtA_21_5, fmtA_16_5, fmtA_11_5, fmtA_7_4, fmtA_6_1, fmtA_3_3, fmtA_0_3, cat_4_1_3_0_3, cat_4_1_3_3_1, cat_4_1_3_4_4]

theorem Encoding.amoCas (d : BitVec 5) (a : BitVec 5) (b : BitVec 5) (z : BitVec 1) (c : BitVec 3) (o : BitVec 3) : Encoding.Statement (.amoCas d a b z c o) := by
  intro _ hw
  refine decode_of _ _ ?_ hw rfl
  show decodeMajor (fmtA 0x11#6 d a b (0x9#4 ++ z ++ c) o) = _
  rw [decodeMajor_11 _ (fmtA_26_6 ..)]
  simp only [decodeAtom, fmtA_21_5, fmtA_16_5, fmtA_11_5, fmtA_7_4, fmtA_6_1, fmtA_3_3, fmtA_0_3, cat_4_1_3_0_3, cat_4_1_3_3_1, cat_4_1_3_4_4]

theorem Encoding.amoFaddF32 (d : BitVec 5) (a : BitVec 5) (b : BitVec 5) (c : BitVec 3) (o : BitVec 3) : Encoding.Statement (.amoFaddF32 d a b c o) := by
  intro _ hw
  refine decode_of _ _ ?_ hw rfl
  show decodeMajor (fmtA 0x11#6 d a b (0x14#5 ++ c) o) = _
  rw [decodeMajor_11 _ (fmtA_26_6 ..)]
  simp only [decodeAtom, fmtA_21_5, fmtA_16_5, fmtA_11_5, fmtA_7_4, fmtA_6_1, fmtA_3_3, fmtA_0_3, cat_5_3_0_3, cat_5_3_3_1, cat_5_3_4_4]
  rfl

theorem Encoding.amoFaddBf16 (d : BitVec 5) (a : BitVec 5) (b : BitVec 5) (c : BitVec 3) (o : BitVec 3) : Encoding.Statement (.amoFaddBf16 d a b c o) := by
  intro _ hw
  refine decode_of _ _ ?_ hw rfl
  show decodeMajor (fmtA 0x11#6 d a b (0x16#5 ++ c) o) = _
  rw [decodeMajor_11 _ (fmtA_26_6 ..)]
  simp only [decodeAtom, fmtA_21_5, fmtA_16_5, fmtA_11_5, fmtA_7_4, fmtA_6_1, fmtA_3_3, fmtA_0_3, cat_5_3_0_3, cat_5_3_3_1, cat_5_3_4_4]
  rfl

theorem Encoding.updAdd (a : BitVec 5) (b : BitVec 5) (z : BitVec 2) (c : BitVec 3) : Encoding.Statement (.updAdd a b z c) := by
  intro _ hw
  refine decode_of _ _ ?_ hw rfl
  show decodeMajor (fmtA 0x12#6 0#5 a b (0#3 ++ z ++ c) 0#3) = _
  rw [decodeMajor_12 _ (fmtA_26_6 ..)]
  simp only [decodeUpd, fmtA_16_5, fmtA_11_5, fmtA_8_3, fmtA_6_2, fmtA_3_3, cat_3_2_3_0_3, cat_3_2_3_3_2, cat_3_2_3_5_3]

theorem Encoding.updFadd (a : BitVec 5) (b : BitVec 5) (z : BitVec 2) (c : BitVec 3) : Encoding.Statement (.updFadd a b z c) := by
  intro _ hw
  refine decode_of _ _ ?_ hw rfl
  show decodeMajor (fmtA 0x12#6 0#5 a b (0x1#3 ++ z ++ c) 0#3) = _
  rw [decodeMajor_12 _ (fmtA_26_6 ..)]
  simp only [decodeUpd, fmtA_16_5, fmtA_11_5, fmtA_8_3, fmtA_6_2, fmtA_3_3, cat_3_2_3_0_3, cat_3_2_3_3_2, cat_3_2_3_5_3]

theorem Encoding.updMin (a : BitVec 5) (b : BitVec 5) (z : BitVec 2) (c : BitVec 3) : Encoding.Statement (.updMin a b z c) := by
  intro _ hw
  refine decode_of _ _ ?_ hw rfl
  show decodeMajor (fmtA 0x12#6 0#5 a b (0x2#3 ++ z ++ c) 0#3) = _
  rw [decodeMajor_12 _ (fmtA_26_6 ..)]
  simp only [decodeUpd, fmtA_16_5, fmtA_11_5, fmtA_8_3, fmtA_6_2, fmtA_3_3, cat_3_2_3_0_3, cat_3_2_3_3_2, cat_3_2_3_5_3]

theorem Encoding.updMax (a : BitVec 5) (b : BitVec 5) (z : BitVec 2) (c : BitVec 3) : Encoding.Statement (.updMax a b z c) := by
  intro _ hw
  refine decode_of _ _ ?_ hw rfl
  show decodeMajor (fmtA 0x12#6 0#5 a b (0x3#3 ++ z ++ c) 0#3) = _
  rw [decodeMajor_12 _ (fmtA_26_6 ..)]
  simp only [decodeUpd, fmtA_16_5, fmtA_11_5, fmtA_8_3, fmtA_6_2, fmtA_3_3, cat_3_2_3_0_3, cat_3_2_3_3_2, cat_3_2_3_5_3]

theorem Encoding.updOr (a : BitVec 5) (b : BitVec 5) (z : BitVec 2) (c : BitVec 3) : Encoding.Statement (.updOr a b z c) := by
  intro _ hw
  refine decode_of _ _ ?_ hw rfl
  show decodeMajor (fmtA 0x12#6 0#5 a b (0x4#3 ++ z ++ c) 0#3) = _
  rw [decodeMajor_12 _ (fmtA_26_6 ..)]
  simp only [decodeUpd, fmtA_16_5, fmtA_11_5, fmtA_8_3, fmtA_6_2, fmtA_3_3, cat_3_2_3_0_3, cat_3_2_3_3_2, cat_3_2_3_5_3]

theorem Encoding.updAnd (a : BitVec 5) (b : BitVec 5) (z : BitVec 2) (c : BitVec 3) : Encoding.Statement (.updAnd a b z c) := by
  intro _ hw
  refine decode_of _ _ ?_ hw rfl
  show decodeMajor (fmtA 0x12#6 0#5 a b (0x5#3 ++ z ++ c) 0#3) = _
  rw [decodeMajor_12 _ (fmtA_26_6 ..)]
  simp only [decodeUpd, fmtA_16_5, fmtA_11_5, fmtA_8_3, fmtA_6_2, fmtA_3_3, cat_3_2_3_0_3, cat_3_2_3_3_2, cat_3_2_3_5_3]

theorem Encoding.beq (a : BitVec 5) (b : BitVec 5) (i : BitVec 13) : Encoding.Statement (.beq a b i) := by
  intro _ hw
  refine decode_of _ _ ?_ hw rfl
  show decodeMajor (fmtB 0x13#6 a b 0#3 i) = _
  rw [decodeMajor_13 _ (fmtB_26_6 ..)]
  simp only [decodeBrc, fmtB_21_5, fmtB_16_5, fmtB_13_3, fmtB_0_13]

theorem Encoding.bne (a : BitVec 5) (b : BitVec 5) (i : BitVec 13) : Encoding.Statement (.bne a b i) := by
  intro _ hw
  refine decode_of _ _ ?_ hw rfl
  show decodeMajor (fmtB 0x13#6 a b 0x1#3 i) = _
  rw [decodeMajor_13 _ (fmtB_26_6 ..)]
  simp only [decodeBrc, fmtB_21_5, fmtB_16_5, fmtB_13_3, fmtB_0_13]

theorem Encoding.blt (a : BitVec 5) (b : BitVec 5) (i : BitVec 13) : Encoding.Statement (.blt a b i) := by
  intro _ hw
  refine decode_of _ _ ?_ hw rfl
  show decodeMajor (fmtB 0x13#6 a b 0x2#3 i) = _
  rw [decodeMajor_13 _ (fmtB_26_6 ..)]
  simp only [decodeBrc, fmtB_21_5, fmtB_16_5, fmtB_13_3, fmtB_0_13]

theorem Encoding.bge (a : BitVec 5) (b : BitVec 5) (i : BitVec 13) : Encoding.Statement (.bge a b i) := by
  intro _ hw
  refine decode_of _ _ ?_ hw rfl
  show decodeMajor (fmtB 0x13#6 a b 0x3#3 i) = _
  rw [decodeMajor_13 _ (fmtB_26_6 ..)]
  simp only [decodeBrc, fmtB_21_5, fmtB_16_5, fmtB_13_3, fmtB_0_13]

theorem Encoding.bltz (a : BitVec 5) (b : BitVec 5) (i : BitVec 13) : Encoding.Statement (.bltz a b i) := by
  intro _ hw
  refine decode_of _ _ ?_ hw rfl
  show decodeMajor (fmtB 0x13#6 a b 0x4#3 i) = _
  rw [decodeMajor_13 _ (fmtB_26_6 ..)]
  simp only [decodeBrc, fmtB_21_5, fmtB_16_5, fmtB_13_3, fmtB_0_13]

theorem Encoding.bgez (a : BitVec 5) (b : BitVec 5) (i : BitVec 13) : Encoding.Statement (.bgez a b i) := by
  intro _ hw
  refine decode_of _ _ ?_ hw rfl
  show decodeMajor (fmtB 0x13#6 a b 0x5#3 i) = _
  rw [decodeMajor_13 _ (fmtB_26_6 ..)]
  simp only [decodeBrc, fmtB_21_5, fmtB_16_5, fmtB_13_3, fmtB_0_13]

theorem Encoding.jal (d : BitVec 5) (i : BitVec 21) : Encoding.Statement (.jal d i) := by
  intro _ hw
  refine decode_of _ _ ?_ hw rfl
  show decodeMajor (fmtJ 0x14#6 d i) = _
  rw [decodeMajor_14 _ (fmtJ_26_6 ..)]
  simp only [fmtJ_21_5, fmtJ_0_21]

theorem Encoding.jalr (d : BitVec 5) (a : BitVec 5) (i : BitVec 16) : Encoding.Statement (.jalr d a i) := by
  intro _ hw
  refine decode_of _ _ ?_ hw rfl
  show decodeMajor (fmtI 0x15#6 d a i) = _
  rw [decodeMajor_15 _ (fmtI_26_6 ..)]
  simp only [fmtI_21_5, fmtI_16_5, fmtI_0_16]

theorem Encoding.skipEqz (a : BitVec 5) (n : BitVec 3) : Encoding.Statement (.skipEqz a n) := by
  intro _ hw
  refine decode_of _ _ ?_ hw rfl
  show decodeMajor (fmtB 0x16#6 a 0#5 0#3 (0#10 ++ n)) = _
  rw [decodeMajor_16 _ (fmtB_26_6 ..)]
  simp only [decodeSkip, fmtB_21_5, fmtB_13_3, fmtB_0_3, cat_10_3_0_3]

theorem Encoding.skipNez (a : BitVec 5) (n : BitVec 3) : Encoding.Statement (.skipNez a n) := by
  intro _ hw
  refine decode_of _ _ ?_ hw rfl
  show decodeMajor (fmtB 0x16#6 a 0#5 0x1#3 (0#10 ++ n)) = _
  rw [decodeMajor_16 _ (fmtB_26_6 ..)]
  simp only [decodeSkip, fmtB_21_5, fmtB_13_3, fmtB_0_3, cat_10_3_0_3]

theorem Encoding.skipLtz (a : BitVec 5) (n : BitVec 3) : Encoding.Statement (.skipLtz a n) := by
  intro _ hw
  refine decode_of _ _ ?_ hw rfl
  show decodeMajor (fmtB 0x16#6 a 0#5 0x2#3 (0#10 ++ n)) = _
  rw [decodeMajor_16 _ (fmtB_26_6 ..)]
  simp only [decodeSkip, fmtB_21_5, fmtB_13_3, fmtB_0_3, cat_10_3_0_3]

theorem Encoding.skipGez (a : BitVec 5) (n : BitVec 3) : Encoding.Statement (.skipGez a n) := by
  intro _ hw
  refine decode_of _ _ ?_ hw rfl
  show decodeMajor (fmtB 0x16#6 a 0#5 0x3#3 (0#10 ++ n)) = _
  rw [decodeMajor_16 _ (fmtB_26_6 ..)]
  simp only [decodeSkip, fmtB_21_5, fmtB_13_3, fmtB_0_3, cat_10_3_0_3]

theorem Encoding.skipGtz (a : BitVec 5) (n : BitVec 3) : Encoding.Statement (.skipGtz a n) := by
  intro _ hw
  refine decode_of _ _ ?_ hw rfl
  show decodeMajor (fmtB 0x16#6 a 0#5 0x4#3 (0#10 ++ n)) = _
  rw [decodeMajor_16 _ (fmtB_26_6 ..)]
  simp only [decodeSkip, fmtB_21_5, fmtB_13_3, fmtB_0_3, cat_10_3_0_3]

theorem Encoding.skipLez (a : BitVec 5) (n : BitVec 3) : Encoding.Statement (.skipLez a n) := by
  intro _ hw
  refine decode_of _ _ ?_ hw rfl
  show decodeMajor (fmtB 0x16#6 a 0#5 0x5#3 (0#10 ++ n)) = _
  rw [decodeMajor_16 _ (fmtB_26_6 ..)]
  simp only [decodeSkip, fmtB_21_5, fmtB_13_3, fmtB_0_3, cat_10_3_0_3]

theorem Encoding.fenceAcq (d : BitVec 5) (c : BitVec 3) : Encoding.Statement (.fenceAcq d c) := by
  intro _ hw
  refine decode_of _ _ ?_ hw rfl
  show decodeMajor (fmtY 0x17#6 0x1#10 0#5 d (0#3 ++ c)) = _
  rw [decodeMajor_17 _ (fmtY_26_6 ..)]
  simp only [decodeMemsys, fmtY_16_10, fmtY_6_5, fmtY_3_2, fmtY_0_3, cat_3_3_0_3, cat_3_3_3_2]
  rfl

theorem Encoding.fenceRel (d : BitVec 5) (c : BitVec 3) : Encoding.Statement (.fenceRel d c) := by
  intro _ hw
  refine decode_of _ _ ?_ hw rfl
  show decodeMajor (fmtY 0x17#6 0x1#10 0#5 d (0x1#3 ++ c)) = _
  rw [decodeMajor_17 _ (fmtY_26_6 ..)]
  simp only [decodeMemsys, fmtY_16_10, fmtY_6_5, fmtY_3_2, fmtY_0_3, cat_3_3_0_3, cat_3_3_3_2]
  rfl

theorem Encoding.fenceFull (d : BitVec 5) (c : BitVec 3) : Encoding.Statement (.fenceFull d c) := by
  intro _ hw
  refine decode_of _ _ ?_ hw rfl
  show decodeMajor (fmtY 0x17#6 0x1#10 0#5 d (0x2#3 ++ c)) = _
  rw [decodeMajor_17 _ (fmtY_26_6 ..)]
  simp only [decodeMemsys, fmtY_16_10, fmtY_6_5, fmtY_3_2, fmtY_0_3, cat_3_3_0_3, cat_3_3_3_2]
  rfl

theorem Encoding.qfence (q : BitVec 4) : Encoding.Statement (.qfence q) := by
  intro _ hw
  refine decode_of _ _ ?_ hw rfl
  show decodeMajor (fmtY 0x17#6 0x2#10 0#5 0#5 (0#2 ++ q)) = _
  rw [decodeMajor_17 _ (fmtY_26_6 ..)]
  simp only [decodeMemsys, fmtY_16_10, fmtY_0_4, cat_2_4_0_4]

theorem Encoding.cclean (a : BitVec 5) (c : BitVec 3) : Encoding.Statement (.cclean a c) := by
  intro _ hw
  refine decode_of _ _ ?_ hw rfl
  show decodeMajor (fmtY 0x17#6 0x10#10 a 0#5 (0#3 ++ c)) = _
  rw [decodeMajor_17 _ (fmtY_26_6 ..)]
  simp only [decodeMemsys, fmtY_16_10, fmtY_11_5, fmtY_0_3, cat_3_3_0_3]

theorem Encoding.cinv (a : BitVec 5) (c : BitVec 3) : Encoding.Statement (.cinv a c) := by
  intro _ hw
  refine decode_of _ _ ?_ hw rfl
  show decodeMajor (fmtY 0x17#6 0x11#10 a 0#5 (0#3 ++ c)) = _
  rw [decodeMajor_17 _ (fmtY_26_6 ..)]
  simp only [decodeMemsys, fmtY_16_10, fmtY_11_5, fmtY_0_3, cat_3_3_0_3]

theorem Encoding.cflush (a : BitVec 5) (c : BitVec 3) : Encoding.Statement (.cflush a c) := by
  intro _ hw
  refine decode_of _ _ ?_ hw rfl
  show decodeMajor (fmtY 0x17#6 0x12#10 a 0#5 (0#3 ++ c)) = _
  rw [decodeMajor_17 _ (fmtY_26_6 ..)]
  simp only [decodeMemsys, fmtY_16_10, fmtY_11_5, fmtY_0_3, cat_3_3_0_3]

theorem Encoding.nop : Encoding.Statement .nop := by
  intro _ hw
  refine decode_of _ _ ?_ hw rfl
  show decodeMajor (fmtY 0x18#6 0#10 0#5 0#5 0#6) = _
  rw [decodeMajor_18 _ (fmtY_26_6 ..)]
  simp only [decodeSys, fmtY_22_4, fmtY_16_6, fmtY_11_5, fmtY_6_5, fmtY_0_6]
  rfl

theorem Encoding.trap (i : BitVec 6) : Encoding.Statement (.trap i) := by
  intro _ hw
  refine decode_of _ _ ?_ hw rfl
  show decodeMajor (fmtY 0x18#6 0x1#10 0#5 0#5 i) = _
  rw [decodeMajor_18 _ (fmtY_26_6 ..)]
  simp only [decodeSys, fmtY_22_4, fmtY_16_6, fmtY_11_5, fmtY_6_5, fmtY_0_6]
  rfl

theorem Encoding.tret : Encoding.Statement .tret := by
  intro _ hw
  refine decode_of _ _ ?_ hw rfl
  show decodeMajor (fmtY 0x18#6 0x2#10 0#5 0#5 0#6) = _
  rw [decodeMajor_18 _ (fmtY_26_6 ..)]
  simp only [decodeSys, fmtY_22_4, fmtY_16_6, fmtY_11_5, fmtY_6_5, fmtY_0_6]
  rfl

theorem Encoding.wfe : Encoding.Statement .wfe := by
  intro _ hw
  refine decode_of _ _ ?_ hw rfl
  show decodeMajor (fmtY 0x18#6 0x3#10 0#5 0#5 0#6) = _
  rw [decodeMajor_18 _ (fmtY_26_6 ..)]
  simp only [decodeSys, fmtY_22_4, fmtY_16_6, fmtY_11_5, fmtY_6_5, fmtY_0_6]
  rfl

theorem Encoding.break : Encoding.Statement .break := by
  intro _ hw
  refine decode_of _ _ ?_ hw rfl
  show decodeMajor (fmtY 0x18#6 0x4#10 0#5 0#5 0#6) = _
  rw [decodeMajor_18 _ (fmtY_26_6 ..)]
  simp only [decodeSys, fmtY_22_4, fmtY_16_6, fmtY_11_5, fmtY_6_5, fmtY_0_6]
  rfl

theorem Encoding.halt : Encoding.Statement .halt := by
  intro _ hw
  refine decode_of _ _ ?_ hw rfl
  show decodeMajor (fmtY 0x18#6 0x5#10 0#5 0#5 0#6) = _
  rw [decodeMajor_18 _ (fmtY_26_6 ..)]
  simp only [decodeSys, fmtY_22_4, fmtY_16_6, fmtY_11_5, fmtY_6_5, fmtY_0_6]
  rfl

theorem Encoding.csrr (h : BitVec 6) (d : BitVec 5) (l : BitVec 6) : Encoding.Statement (.csrr h d l) := by
  intro _ hw
  refine decode_of _ _ ?_ hw rfl
  show decodeMajor (fmtY 0x18#6 (0x1#4 ++ h) 0#5 d l) = _
  rw [decodeMajor_18 _ (fmtY_26_6 ..)]
  simp only [decodeSys, fmtY_22_4, fmtY_16_6, fmtY_6_5, fmtY_0_6, cat_4_6_0_6, cat_4_6_6_4]

theorem Encoding.csrw (h : BitVec 6) (a : BitVec 5) (d : BitVec 5) (l : BitVec 6) : Encoding.Statement (.csrw h a d l) := by
  intro _ hw
  refine decode_of _ _ ?_ hw rfl
  show decodeMajor (fmtY 0x18#6 (0x2#4 ++ h) a d l) = _
  rw [decodeMajor_18 _ (fmtY_26_6 ..)]
  simp only [decodeSys, fmtY_22_4, fmtY_16_6, fmtY_11_5, fmtY_6_5, fmtY_0_6, cat_4_6_0_6, cat_4_6_6_4]

theorem Encoding.csrs (h : BitVec 6) (a : BitVec 5) (d : BitVec 5) (l : BitVec 6) : Encoding.Statement (.csrs h a d l) := by
  intro _ hw
  refine decode_of _ _ ?_ hw rfl
  show decodeMajor (fmtY 0x18#6 (0x3#4 ++ h) a d l) = _
  rw [decodeMajor_18 _ (fmtY_26_6 ..)]
  simp only [decodeSys, fmtY_22_4, fmtY_16_6, fmtY_11_5, fmtY_6_5, fmtY_0_6, cat_4_6_0_6, cat_4_6_6_4]

theorem Encoding.csrc (h : BitVec 6) (a : BitVec 5) (d : BitVec 5) (l : BitVec 6) : Encoding.Statement (.csrc h a d l) := by
  intro _ hw
  refine decode_of _ _ ?_ hw rfl
  show decodeMajor (fmtY 0x18#6 (0x4#4 ++ h) a d l) = _
  rw [decodeMajor_18 _ (fmtY_26_6 ..)]
  simp only [decodeSys, fmtY_22_4, fmtY_16_6, fmtY_11_5, fmtY_6_5, fmtY_0_6, cat_4_6_0_6, cat_4_6_6_4]

theorem Encoding.spawn (d : BitVec 5) (a : BitVec 5) (b : BitVec 5) (s : BitVec 3) : Encoding.Statement (.spawn d a b s) := by
  intro _ hw
  refine decode_of _ _ ?_ hw rfl
  show decodeMajor (fmtA 0x19#6 d a b 0x1#8 s) = _
  rw [decodeMajor_19 _ (fmtA_26_6 ..)]
  simp only [decodeFrame, fmtA_21_5, fmtA_16_5, fmtA_11_5, fmtA_3_8, fmtA_0_3]

theorem Encoding.rets (d : BitVec 5) (s : BitVec 3) : Encoding.Statement (.rets d s) := by
  intro _ hw
  refine decode_of _ _ ?_ hw rfl
  show decodeMajor (fmtA 0x19#6 d 0#5 0#5 0x2#8 s) = _
  rw [decodeMajor_19 _ (fmtA_26_6 ..)]
  simp only [decodeFrame, fmtA_21_5, fmtA_3_8, fmtA_0_3]

theorem Encoding.sync (a : BitVec 5) (s : BitVec 3) : Encoding.Statement (.sync a s) := by
  intro _ hw
  refine decode_of _ _ ?_ hw rfl
  show decodeMajor (fmtA 0x19#6 0#5 a 0#5 0x3#8 s) = _
  rw [decodeMajor_19 _ (fmtA_26_6 ..)]
  simp only [decodeFrame, fmtA_16_5, fmtA_3_8, fmtA_0_3]

theorem Encoding.publish (a : BitVec 5) (b : BitVec 5) (n : BitVec 2) (s : BitVec 3) : Encoding.Statement (.publish a b n s) := by
  intro _ hw
  refine decode_of _ _ ?_ hw rfl
  show decodeMajor (fmtA 0x19#6 0#5 a b (0x1#6 ++ n) s) = _
  rw [decodeMajor_19 _ (fmtA_26_6 ..)]
  simp only [decodeFrame, fmtA_21_5, fmtA_16_5, fmtA_11_5, fmtA_3_8, fmtA_3_2, fmtA_0_3, cat_6_2_0_2]
  have h : ∀ m : BitVec 2, m = 0 ∨ m = 1 ∨ m = 2 ∨ m = 3 := by decide
  obtain rfl | rfl | rfl | rfl := h n <;> rfl

theorem Encoding.tend (s : BitVec 3) : Encoding.Statement (.tend s) := by
  intro _ hw
  refine decode_of _ _ ?_ hw rfl
  show decodeMajor (fmtA 0x19#6 0#5 0#5 0#5 0x8#8 s) = _
  rw [decodeMajor_19 _ (fmtA_26_6 ..)]
  simp only [decodeFrame, fmtA_3_8, fmtA_0_3]

theorem Encoding.tself (d : BitVec 5) (s : BitVec 3) : Encoding.Statement (.tself d s) := by
  intro _ hw
  refine decode_of _ _ ?_ hw rfl
  show decodeMajor (fmtA 0x19#6 d 0#5 0#5 0x9#8 s) = _
  rw [decodeMajor_19 _ (fmtA_26_6 ..)]
  simp only [decodeFrame, fmtA_21_5, fmtA_3_8, fmtA_0_3]

theorem Encoding.launch (d : BitVec 5) (a : BitVec 5) (s : BitVec 3) : Encoding.Statement (.launch d a s) := by
  intro _ hw
  refine decode_of _ _ ?_ hw rfl
  show decodeMajor (fmtA 0x19#6 d a 0#5 0xA#8 s) = _
  rw [decodeMajor_19 _ (fmtA_26_6 ..)]
  simp only [decodeFrame, fmtA_21_5, fmtA_16_5, fmtA_3_8, fmtA_0_3]

theorem Encoding.qbind (q : BitVec 3) (a : BitVec 5) (s : BitVec 3) : Encoding.Statement (.qbind q a s) := by
  intro _ hw
  refine decode_of _ _ ?_ hw rfl
  show decodeMajor (fmtA 0x1A#6 (0#2 ++ q) a 0#5 0x1#8 s) = _
  rw [decodeMajor_1A _ (fmtA_26_6 ..)]
  simp only [decodeQueue, fmtA_21_3, fmtA_16_5, fmtA_3_8, fmtA_0_3, cat_2_3_0_3]

theorem Encoding.qpush (q : BitVec 3) (a : BitVec 5) (s : BitVec 3) : Encoding.Statement (.qpush q a s) := by
  intro _ hw
  refine decode_of _ _ ?_ hw rfl
  show decodeMajor (fmtA 0x1A#6 (0#2 ++ q) a 0#5 0x2#8 s) = _
  rw [decodeMajor_1A _ (fmtA_26_6 ..)]
  simp only [decodeQueue, fmtA_21_3, fmtA_16_5, fmtA_3_8, fmtA_0_3, cat_2_3_0_3]

theorem Encoding.qpop (d : BitVec 5) (q : BitVec 3) (s : BitVec 3) : Encoding.Statement (.qpop d q s) := by
  intro _ hw
  refine decode_of _ _ ?_ hw rfl
  show decodeMajor (fmtA 0x1A#6 d (0#2 ++ q) 0#5 0x3#8 s) = _
  rw [decodeMajor_1A _ (fmtA_26_6 ..)]
  simp only [decodeQueue, fmtA_21_5, fmtA_16_3, fmtA_3_8, fmtA_0_3, cat_2_3_0_3]

theorem Encoding.enq (d : BitVec 5) (a : BitVec 5) (b : BitVec 5) (s : BitVec 3) : Encoding.Statement (.enq d a b s) := by
  intro _ hw
  refine decode_of _ _ ?_ hw rfl
  show decodeMajor (fmtA 0x1A#6 d a b 0x4#8 s) = _
  rw [decodeMajor_1A _ (fmtA_26_6 ..)]
  simp only [decodeQueue, fmtA_21_5, fmtA_16_5, fmtA_11_5, fmtA_3_8, fmtA_0_3]

theorem Encoding.spawnb (d : BitVec 5) (a : BitVec 5) (b : BitVec 5) (s : BitVec 3) : Encoding.Statement (.spawnb d a b s) := by
  intro _ hw
  refine decode_of _ _ ?_ hw rfl
  show decodeMajor (fmtA 0x1A#6 d a b 0x5#8 s) = _
  rw [decodeMajor_1A _ (fmtA_26_6 ..)]
  simp only [decodeQueue, fmtA_21_5, fmtA_16_5, fmtA_11_5, fmtA_3_8, fmtA_0_3]

theorem Encoding.binflush (a : BitVec 5) (s : BitVec 3) : Encoding.Statement (.binflush a s) := by
  intro _ hw
  refine decode_of _ _ ?_ hw rfl
  show decodeMajor (fmtA 0x1A#6 0#5 a 0#5 0x6#8 s) = _
  rw [decodeMajor_1A _ (fmtA_26_6 ..)]
  simp only [decodeQueue, fmtA_16_5, fmtA_3_8, fmtA_0_3]

theorem Encoding.taskq (d : BitVec 5) (a : BitVec 5) (b : BitVec 5) (s : BitVec 3) : Encoding.Statement (.taskq d a b s) := by
  intro _ hw
  refine decode_of _ _ ?_ hw rfl
  show decodeMajor (fmtA 0x1A#6 d a b 0x7#8 s) = _
  rw [decodeMajor_1A _ (fmtA_26_6 ..)]
  simp only [decodeQueue, fmtA_21_5, fmtA_16_5, fmtA_11_5, fmtA_3_8, fmtA_0_3]

theorem Encoding.sqinc (d : BitVec 5) (a : BitVec 5) (b : BitVec 5) (s : BitVec 3) : Encoding.Statement (.sqinc d a b s) := by
  intro _ hw
  refine decode_of _ _ ?_ hw rfl
  show decodeMajor (fmtA 0x1A#6 d a b 0x8#8 s) = _
  rw [decodeMajor_1A _ (fmtA_26_6 ..)]
  simp only [decodeQueue, fmtA_21_5, fmtA_16_5, fmtA_11_5, fmtA_3_8, fmtA_0_3]

theorem Encoding.sqread (d : BitVec 5) (a : BitVec 5) (s : BitVec 3) : Encoding.Statement (.sqread d a s) := by
  intro _ hw
  refine decode_of _ _ ?_ hw rfl
  show decodeMajor (fmtA 0x1A#6 d a 0#5 0x9#8 s) = _
  rw [decodeMajor_1A _ (fmtA_26_6 ..)]
  simp only [decodeQueue, fmtA_21_5, fmtA_16_5, fmtA_3_8, fmtA_0_3]

theorem Encoding.donate (d : BitVec 5) (a : BitVec 5) (b : BitVec 5) (s : BitVec 3) : Encoding.Statement (.donate d a b s) := by
  intro _ hw
  refine decode_of _ _ ?_ hw rfl
  show decodeMajor (fmtA 0x1A#6 d a b 0xA#8 s) = _
  rw [decodeMajor_1A _ (fmtA_26_6 ..)]
  simp only [decodeQueue, fmtA_21_5, fmtA_16_5, fmtA_11_5, fmtA_3_8, fmtA_0_3]

theorem Encoding.binit (d : BitVec 5) (a : BitVec 5) (b : BitVec 5) (s : BitVec 3) : Encoding.Statement (.binit d a b s) := by
  intro _ hw
  refine decode_of _ _ ?_ hw rfl
  show decodeMajor (fmtA 0x1B#6 d a b 0x1#8 s) = _
  rw [decodeMajor_1B _ (fmtA_26_6 ..)]
  simp only [decodeBar, fmtA_21_5, fmtA_16_5, fmtA_11_5, fmtA_3_8, fmtA_0_3]

theorem Encoding.barrive (a : BitVec 5) (s : BitVec 3) : Encoding.Statement (.barrive a s) := by
  intro _ hw
  refine decode_of _ _ ?_ hw rfl
  show decodeMajor (fmtA 0x1B#6 0#5 a 0#5 0x2#8 s) = _
  rw [decodeMajor_1B _ (fmtA_26_6 ..)]
  simp only [decodeBar, fmtA_16_5, fmtA_3_8, fmtA_0_3]

theorem Encoding.bexpect (a : BitVec 5) (b : BitVec 5) (s : BitVec 3) : Encoding.Statement (.bexpect a b s) := by
  intro _ hw
  refine decode_of _ _ ?_ hw rfl
  show decodeMajor (fmtA 0x1B#6 0#5 a b 0x3#8 s) = _
  rw [decodeMajor_1B _ (fmtA_26_6 ..)]
  simp only [decodeBar, fmtA_16_5, fmtA_11_5, fmtA_3_8, fmtA_0_3]

theorem Encoding.bwait (d : BitVec 5) (a : BitVec 5) (s : BitVec 3) : Encoding.Statement (.bwait d a s) := by
  intro _ hw
  refine decode_of _ _ ?_ hw rfl
  show decodeMajor (fmtA 0x1B#6 d a 0#5 0x4#8 s) = _
  rw [decodeMajor_1B _ (fmtA_26_6 ..)]
  simp only [decodeBar, fmtA_21_5, fmtA_16_5, fmtA_3_8, fmtA_0_3]

theorem Encoding.btest (d : BitVec 5) (a : BitVec 5) (s : BitVec 3) : Encoding.Statement (.btest d a s) := by
  intro _ hw
  refine decode_of _ _ ?_ hw rfl
  show decodeMajor (fmtA 0x1B#6 d a 0#5 0x5#8 s) = _
  rw [decodeMajor_1B _ (fmtA_26_6 ..)]
  simp only [decodeBar, fmtA_21_5, fmtA_16_5, fmtA_3_8, fmtA_0_3]

theorem Encoding.bfree (a : BitVec 5) (s : BitVec 3) : Encoding.Statement (.bfree a s) := by
  intro _ hw
  refine decode_of _ _ ?_ hw rfl
  show decodeMajor (fmtA 0x1B#6 0#5 a 0#5 0x6#8 s) = _
  rw [decodeMajor_1B _ (fmtA_26_6 ..)]
  simp only [decodeBar, fmtA_16_5, fmtA_3_8, fmtA_0_3]

theorem Encoding.sendi (a : BitVec 5) (b : BitVec 5) (s : BitVec 3) : Encoding.Statement (.sendi a b s) := by
  intro _ hw
  refine decode_of _ _ ?_ hw rfl
  show decodeMajor (fmtA 0x1C#6 0#5 a b 0x1#8 s) = _
  rw [decodeMajor_1C _ (fmtA_26_6 ..)]
  simp only [decodeMsg, fmtA_16_5, fmtA_11_5, fmtA_3_8, fmtA_0_3]

theorem Encoding.sendb (d : BitVec 5) (a : BitVec 5) (b : BitVec 5) (s : BitVec 3) : Encoding.Statement (.sendb d a b s) := by
  intro _ hw
  refine decode_of _ _ ?_ hw rfl
  show decodeMajor (fmtA 0x1C#6 d a b 0x2#8 s) = _
  rw [decodeMajor_1C _ (fmtA_26_6 ..)]
  simp only [decodeMsg, fmtA_21_5, fmtA_16_5, fmtA_11_5, fmtA_3_8, fmtA_0_3]

theorem Encoding.rpost (d : BitVec 5) (a : BitVec 5) (b : BitVec 5) (s : BitVec 3) : Encoding.Statement (.rpost d a b s) := by
  intro _ hw
  refine decode_of _ _ ?_ hw rfl
  show decodeMajor (fmtA 0x1C#6 d a b 0x3#8 s) = _
  rw [decodeMajor_1C _ (fmtA_26_6 ..)]
  simp only [decodeMsg, fmtA_21_5, fmtA_16_5, fmtA_11_5, fmtA_3_8, fmtA_0_3]

theorem Encoding.rcancel (d : BitVec 5) (a : BitVec 5) (s : BitVec 3) : Encoding.Statement (.rcancel d a s) := by
  intro _ hw
  refine decode_of _ _ ?_ hw rfl
  show decodeMajor (fmtA 0x1C#6 d a 0#5 0x4#8 s) = _
  rw [decodeMajor_1C _ (fmtA_26_6 ..)]
  simp only [decodeMsg, fmtA_21_5, fmtA_16_5, fmtA_3_8, fmtA_0_3]

theorem Encoding.qwake (a : BitVec 5) (b : BitVec 5) (s : BitVec 3) : Encoding.Statement (.qwake a b s) := by
  intro _ hw
  refine decode_of _ _ ?_ hw rfl
  show decodeMajor (fmtA 0x1C#6 0#5 a b 0x5#8 s) = _
  rw [decodeMajor_1C _ (fmtA_26_6 ..)]
  simp only [decodeMsg, fmtA_16_5, fmtA_11_5, fmtA_3_8, fmtA_0_3]

theorem Encoding.msgdone (s : BitVec 3) : Encoding.Statement (.msgdone s) := by
  intro _ hw
  refine decode_of _ _ ?_ hw rfl
  show decodeMajor (fmtA 0x1C#6 0#5 0#5 0#5 0x6#8 s) = _
  rw [decodeMajor_1C _ (fmtA_26_6 ..)]
  simp only [decodeMsg, fmtA_3_8, fmtA_0_3]

theorem Encoding.monset (d : BitVec 5) (a : BitVec 5) (b : BitVec 5) (s : BitVec 3) : Encoding.Statement (.monset d a b s) := by
  intro _ hw
  refine decode_of _ _ ?_ hw rfl
  show decodeMajor (fmtA 0x1D#6 d a b 0x1#8 s) = _
  rw [decodeMajor_1D _ (fmtA_26_6 ..)]
  simp only [decodeMon, fmtA_21_5, fmtA_16_5, fmtA_11_5, fmtA_3_8, fmtA_0_3]

theorem Encoding.monarm (a : BitVec 5) (b : BitVec 5) (s : BitVec 3) : Encoding.Statement (.monarm a b s) := by
  intro _ hw
  refine decode_of _ _ ?_ hw rfl
  show decodeMajor (fmtA 0x1D#6 0#5 a b 0x2#8 s) = _
  rw [decodeMajor_1D _ (fmtA_26_6 ..)]
  simp only [decodeMon, fmtA_16_5, fmtA_11_5, fmtA_3_8, fmtA_0_3]

theorem Encoding.monref (a : BitVec 5) (b : BitVec 5) (s : BitVec 3) : Encoding.Statement (.monref a b s) := by
  intro _ hw
  refine decode_of _ _ ?_ hw rfl
  show decodeMajor (fmtA 0x1D#6 0#5 a b 0x3#8 s) = _
  rw [decodeMajor_1D _ (fmtA_26_6 ..)]
  simp only [decodeMon, fmtA_16_5, fmtA_11_5, fmtA_3_8, fmtA_0_3]

theorem Encoding.monread (d : BitVec 5) (a : BitVec 5) (b : BitVec 5) (s : BitVec 3) : Encoding.Statement (.monread d a b s) := by
  intro _ hw
  refine decode_of _ _ ?_ hw rfl
  show decodeMajor (fmtA 0x1D#6 d a b 0x4#8 s) = _
  rw [decodeMajor_1D _ (fmtA_26_6 ..)]
  simp only [decodeMon, fmtA_21_5, fmtA_16_5, fmtA_11_5, fmtA_3_8, fmtA_0_3]

theorem Encoding.monclr (a : BitVec 5) (s : BitVec 3) : Encoding.Statement (.monclr a s) := by
  intro _ hw
  refine decode_of _ _ ?_ hw rfl
  show decodeMajor (fmtA 0x1D#6 0#5 a 0#5 0x5#8 s) = _
  rw [decodeMajor_1D _ (fmtA_26_6 ..)]
  simp only [decodeMon, fmtA_16_5, fmtA_3_8, fmtA_0_3]

theorem Encoding.subs (d : BitVec 5) (a : BitVec 5) (b : BitVec 5) (s : BitVec 3) : Encoding.Statement (.subs d a b s) := by
  intro _ hw
  refine decode_of _ _ ?_ hw rfl
  show decodeMajor (fmtA 0x1E#6 d a b 0x1#8 s) = _
  rw [decodeMajor_1E _ (fmtA_26_6 ..)]
  simp only [decodePage, fmtA_21_5, fmtA_16_5, fmtA_11_5, fmtA_3_8, fmtA_0_3]

theorem Encoding.unsubs (a : BitVec 5) (s : BitVec 3) : Encoding.Statement (.unsubs a s) := by
  intro _ hw
  refine decode_of _ _ ?_ hw rfl
  show decodeMajor (fmtA 0x1E#6 0#5 a 0#5 0x2#8 s) = _
  rw [decodeMajor_1E _ (fmtA_26_6 ..)]
  simp only [decodePage, fmtA_16_5, fmtA_3_8, fmtA_0_3]

theorem Encoding.mset (a : BitVec 5) (m : BitVec 5) : Encoding.Statement (.mset a m) := by
  intro _ hw
  refine decode_of _ _ ?_ hw rfl
  show decodeMajor (fmtE 0x1F#6 0#3 0x1#7 a m 0#5 0#1) = _
  rw [decodeMajor_1F _ (fmtE_26_6 ..)]
  simp only [decodeEngt, fmtE_16_7, fmtE_11_5, fmtE_6_5]

theorem Encoding.mget (m : BitVec 5) (d : BitVec 5) : Encoding.Statement (.mget m d) := by
  intro _ hw
  refine decode_of _ _ ?_ hw rfl
  show decodeMajor (fmtE 0x1F#6 0#3 0x2#7 0#5 m d 0#1) = _
  rw [decodeMajor_1F _ (fmtE_26_6 ..)]
  simp only [decodeEngt, fmtE_16_7, fmtE_6_5, fmtE_1_5]

theorem Encoding.mma (a : BitVec 5) (b : BitVec 5) : Encoding.Statement (.mma a b) := by
  intro _ hw
  refine decode_of _ _ ?_ hw rfl
  show decodeMajor (fmtE 0x1F#6 0#3 0x3#7 a b 0#5 0#1) = _
  rw [decodeMajor_1F _ (fmtE_26_6 ..)]
  simp only [decodeEngt, fmtE_16_7, fmtE_11_5, fmtE_6_5]

theorem Encoding.mmaco (a : BitVec 5) (b : BitVec 5) : Encoding.Statement (.mmaco a b) := by
  intro _ hw
  refine decode_of _ _ ?_ hw rfl
  show decodeMajor (fmtE 0x1F#6 0#3 0x4#7 a b 0#5 0#1) = _
  rw [decodeMajor_1F _ (fmtE_26_6 ..)]
  simp only [decodeEngt, fmtE_16_7, fmtE_11_5, fmtE_6_5]

theorem Encoding.mwait (d : BitVec 5) : Encoding.Statement (.mwait d) := by
  intro _ hw
  refine decode_of _ _ ?_ hw rfl
  show decodeMajor (fmtE 0x1F#6 0#3 0x5#7 0#5 0#5 d 0#1) = _
  rw [decodeMajor_1F _ (fmtE_26_6 ..)]
  simp only [decodeEngt, fmtE_16_7, fmtE_1_5, fmtE_0_1]

theorem Encoding.mwaitT (d : BitVec 5) : Encoding.Statement (.mwaitT d) := by
  intro _ hw
  refine decode_of _ _ ?_ hw rfl
  show decodeMajor (fmtE 0x1F#6 0#3 0x5#7 0#5 0#5 d 0x1#1) = _
  rw [decodeMajor_1F _ (fmtE_26_6 ..)]
  simp only [decodeEngt, fmtE_16_7, fmtE_1_5, fmtE_0_1]

theorem Encoding.msave (a : BitVec 5) : Encoding.Statement (.msave a) := by
  intro _ hw
  refine decode_of _ _ ?_ hw rfl
  show decodeMajor (fmtE 0x1F#6 0#3 0x6#7 a 0#5 0#5 0#1) = _
  rw [decodeMajor_1F _ (fmtE_26_6 ..)]
  simp only [decodeEngt, fmtE_16_7, fmtE_11_5]

theorem Encoding.mload (a : BitVec 5) : Encoding.Statement (.mload a) := by
  intro _ hw
  refine decode_of _ _ ?_ hw rfl
  show decodeMajor (fmtE 0x1F#6 0#3 0x7#7 a 0#5 0#5 0#1) = _
  rw [decodeMajor_1F _ (fmtE_26_6 ..)]
  simp only [decodeEngt, fmtE_16_7, fmtE_11_5]

theorem Encoding.mzero : Encoding.Statement .mzero := by
  intro _ hw
  refine decode_of _ _ ?_ hw rfl
  show decodeMajor (fmtE 0x1F#6 0#3 0x8#7 0#5 0#5 0#5 0#1) = _
  rw [decodeMajor_1F _ (fmtE_26_6 ..)]
  simp only [decodeEngt, fmtE_16_7]

theorem Encoding.cput (q : BitVec 3) (a : BitVec 5) (x : BitVec 5) : Encoding.Statement (.cput q a x) := by
  intro _ hw
  refine decode_of _ _ ?_ hw rfl
  show decodeMajor (fmtE 0x20#6 q 0x1#7 a x 0#5 0#1) = _
  rw [decodeMajor_20 _ (fmtE_26_6 ..)]
  simp only [decodeEngc, fmtE_23_3, fmtE_16_7, fmtE_11_5, fmtE_6_5]

theorem Encoding.cget (q : BitVec 3) (x : BitVec 5) (d : BitVec 5) : Encoding.Statement (.cget q x d) := by
  intro _ hw
  refine decode_of _ _ ?_ hw rfl
  show decodeMajor (fmtE 0x20#6 q 0x2#7 0#5 x d 0#1) = _
  rw [decodeMajor_20 _ (fmtE_26_6 ..)]
  simp only [decodeEngc, fmtE_23_3, fmtE_16_7, fmtE_6_5, fmtE_1_5]

theorem Encoding.claunch (q : BitVec 3) (d : BitVec 5) : Encoding.Statement (.claunch q d) := by
  intro _ hw
  refine decode_of _ _ ?_ hw rfl
  show decodeMajor (fmtE 0x20#6 q 0x3#7 0#5 0#5 d 0#1) = _
  rw [decodeMajor_20 _ (fmtE_26_6 ..)]
  simp only [decodeEngc, fmtE_23_3, fmtE_16_7, fmtE_1_5]

theorem Encoding.cwait (a : BitVec 5) (d : BitVec 5) : Encoding.Statement (.cwait a d) := by
  intro _ hw
  refine decode_of _ _ ?_ hw rfl
  show decodeMajor (fmtE 0x20#6 0#3 0x4#7 a 0#5 d 0#1) = _
  rw [decodeMajor_20 _ (fmtE_26_6 ..)]
  simp only [decodeEngc, fmtE_16_7, fmtE_11_5, fmtE_1_5]

theorem Encoding.cstatus (a : BitVec 5) (d : BitVec 5) : Encoding.Statement (.cstatus a d) := by
  intro _ hw
  refine decode_of _ _ ?_ hw rfl
  show decodeMajor (fmtE 0x20#6 0#3 0x5#7 a 0#5 d 0#1) = _
  rw [decodeMajor_20 _ (fmtE_26_6 ..)]
  simp only [decodeEngc, fmtE_16_7, fmtE_11_5, fmtE_1_5]

theorem Encoding.cabort (a : BitVec 5) (d : BitVec 5) : Encoding.Statement (.cabort a d) := by
  intro _ hw
  refine decode_of _ _ ?_ hw rfl
  show decodeMajor (fmtE 0x20#6 0#3 0x6#7 a 0#5 d 0#1) = _
  rw [decodeMajor_20 _ (fmtE_26_6 ..)]
  simp only [decodeEngc, fmtE_16_7, fmtE_11_5, fmtE_1_5]

theorem Encoding.shapeMk (r : BitVec 3) (a : BitVec 5) (b : BitVec 5) (s : BitVec 3) : Encoding.Statement (.shapeMk r a b s) := by
  intro _ hw
  refine decode_of _ _ ?_ hw rfl
  show decodeMajor (fmtA 0x21#6 (0#2 ++ r) a b 0x1#8 s) = _
  rw [decodeMajor_21 _ (fmtA_26_6 ..)]
  simp only [decodeShape, fmtA_21_3, fmtA_16_5, fmtA_11_5, fmtA_3_8, fmtA_0_3, cat_2_3_0_3]

theorem Encoding.shapeGet (d : BitVec 5) (r : BitVec 3) (n : BitVec 5) (s : BitVec 3) : Encoding.Statement (.shapeGet d r n s) := by
  intro _ hw
  refine decode_of _ _ ?_ hw rfl
  show decodeMajor (fmtA 0x21#6 d (0#2 ++ r) n 0x2#8 s) = _
  rw [decodeMajor_21 _ (fmtA_26_6 ..)]
  simp only [decodeShape, fmtA_21_5, fmtA_16_3, fmtA_11_5, fmtA_3_8, fmtA_0_3, cat_2_3_0_3]

theorem Encoding.vadd (d : BitVec 5) (a : BitVec 5) (b : BitVec 5) (g : BitVec 2) (w : BitVec 2) (s : BitVec 3) : Encoding.Statement (.vadd d a b g w s) := by
  intro _ hw
  refine decode_of _ _ ?_ hw rfl
  show decodeMajor (fmtV 0x22#6 d a b g w 0#4 s) = _
  rw [decodeMajor_22 _ (fmtV_26_6 ..)]
  simp only [decodeVint, fmtV_21_5, fmtV_16_5, fmtV_11_5, fmtV_9_2, fmtV_7_2, fmtV_3_4, fmtV_0_3]

theorem Encoding.vsub (d : BitVec 5) (a : BitVec 5) (b : BitVec 5) (g : BitVec 2) (w : BitVec 2) (s : BitVec 3) : Encoding.Statement (.vsub d a b g w s) := by
  intro _ hw
  refine decode_of _ _ ?_ hw rfl
  show decodeMajor (fmtV 0x22#6 d a b g w 0x1#4 s) = _
  rw [decodeMajor_22 _ (fmtV_26_6 ..)]
  simp only [decodeVint, fmtV_21_5, fmtV_16_5, fmtV_11_5, fmtV_9_2, fmtV_7_2, fmtV_3_4, fmtV_0_3]

theorem Encoding.vmul (d : BitVec 5) (a : BitVec 5) (b : BitVec 5) (g : BitVec 2) (w : BitVec 2) (s : BitVec 3) : Encoding.Statement (.vmul d a b g w s) := by
  intro _ hw
  refine decode_of _ _ ?_ hw rfl
  show decodeMajor (fmtV 0x22#6 d a b g w 0x2#4 s) = _
  rw [decodeMajor_22 _ (fmtV_26_6 ..)]
  simp only [decodeVint, fmtV_21_5, fmtV_16_5, fmtV_11_5, fmtV_9_2, fmtV_7_2, fmtV_3_4, fmtV_0_3]

theorem Encoding.vmulh (d : BitVec 5) (a : BitVec 5) (b : BitVec 5) (g : BitVec 2) (w : BitVec 2) (s : BitVec 3) : Encoding.Statement (.vmulh d a b g w s) := by
  intro _ hw
  refine decode_of _ _ ?_ hw rfl
  show decodeMajor (fmtV 0x22#6 d a b g w 0x3#4 s) = _
  rw [decodeMajor_22 _ (fmtV_26_6 ..)]
  simp only [decodeVint, fmtV_21_5, fmtV_16_5, fmtV_11_5, fmtV_9_2, fmtV_7_2, fmtV_3_4, fmtV_0_3]

theorem Encoding.vmin (d : BitVec 5) (a : BitVec 5) (b : BitVec 5) (g : BitVec 2) (w : BitVec 2) (s : BitVec 3) : Encoding.Statement (.vmin d a b g w s) := by
  intro _ hw
  refine decode_of _ _ ?_ hw rfl
  show decodeMajor (fmtV 0x22#6 d a b g w 0x4#4 s) = _
  rw [decodeMajor_22 _ (fmtV_26_6 ..)]
  simp only [decodeVint, fmtV_21_5, fmtV_16_5, fmtV_11_5, fmtV_9_2, fmtV_7_2, fmtV_3_4, fmtV_0_3]

theorem Encoding.vmax (d : BitVec 5) (a : BitVec 5) (b : BitVec 5) (g : BitVec 2) (w : BitVec 2) (s : BitVec 3) : Encoding.Statement (.vmax d a b g w s) := by
  intro _ hw
  refine decode_of _ _ ?_ hw rfl
  show decodeMajor (fmtV 0x22#6 d a b g w 0x5#4 s) = _
  rw [decodeMajor_22 _ (fmtV_26_6 ..)]
  simp only [decodeVint, fmtV_21_5, fmtV_16_5, fmtV_11_5, fmtV_9_2, fmtV_7_2, fmtV_3_4, fmtV_0_3]

theorem Encoding.vand (d : BitVec 5) (a : BitVec 5) (b : BitVec 5) (g : BitVec 2) (w : BitVec 2) (s : BitVec 3) : Encoding.Statement (.vand d a b g w s) := by
  intro _ hw
  refine decode_of _ _ ?_ hw rfl
  show decodeMajor (fmtV 0x22#6 d a b g w 0x6#4 s) = _
  rw [decodeMajor_22 _ (fmtV_26_6 ..)]
  simp only [decodeVint, fmtV_21_5, fmtV_16_5, fmtV_11_5, fmtV_9_2, fmtV_7_2, fmtV_3_4, fmtV_0_3]

theorem Encoding.vor (d : BitVec 5) (a : BitVec 5) (b : BitVec 5) (g : BitVec 2) (w : BitVec 2) (s : BitVec 3) : Encoding.Statement (.vor d a b g w s) := by
  intro _ hw
  refine decode_of _ _ ?_ hw rfl
  show decodeMajor (fmtV 0x22#6 d a b g w 0x7#4 s) = _
  rw [decodeMajor_22 _ (fmtV_26_6 ..)]
  simp only [decodeVint, fmtV_21_5, fmtV_16_5, fmtV_11_5, fmtV_9_2, fmtV_7_2, fmtV_3_4, fmtV_0_3]

theorem Encoding.vxor (d : BitVec 5) (a : BitVec 5) (b : BitVec 5) (g : BitVec 2) (w : BitVec 2) (s : BitVec 3) : Encoding.Statement (.vxor d a b g w s) := by
  intro _ hw
  refine decode_of _ _ ?_ hw rfl
  show decodeMajor (fmtV 0x22#6 d a b g w 0x8#4 s) = _
  rw [decodeMajor_22 _ (fmtV_26_6 ..)]
  simp only [decodeVint, fmtV_21_5, fmtV_16_5, fmtV_11_5, fmtV_9_2, fmtV_7_2, fmtV_3_4, fmtV_0_3]

theorem Encoding.vsll (d : BitVec 5) (a : BitVec 5) (b : BitVec 5) (g : BitVec 2) (w : BitVec 2) (s : BitVec 3) : Encoding.Statement (.vsll d a b g w s) := by
  intro _ hw
  refine decode_of _ _ ?_ hw rfl
  show decodeMajor (fmtV 0x22#6 d a b g w 0x9#4 s) = _
  rw [decodeMajor_22 _ (fmtV_26_6 ..)]
  simp only [decodeVint, fmtV_21_5, fmtV_16_5, fmtV_11_5, fmtV_9_2, fmtV_7_2, fmtV_3_4, fmtV_0_3]

theorem Encoding.vsrl (d : BitVec 5) (a : BitVec 5) (b : BitVec 5) (g : BitVec 2) (w : BitVec 2) (s : BitVec 3) : Encoding.Statement (.vsrl d a b g w s) := by
  intro _ hw
  refine decode_of _ _ ?_ hw rfl
  show decodeMajor (fmtV 0x22#6 d a b g w 0xA#4 s) = _
  rw [decodeMajor_22 _ (fmtV_26_6 ..)]
  simp only [decodeVint, fmtV_21_5, fmtV_16_5, fmtV_11_5, fmtV_9_2, fmtV_7_2, fmtV_3_4, fmtV_0_3]

theorem Encoding.vsra (d : BitVec 5) (a : BitVec 5) (b : BitVec 5) (g : BitVec 2) (w : BitVec 2) (s : BitVec 3) : Encoding.Statement (.vsra d a b g w s) := by
  intro _ hw
  refine decode_of _ _ ?_ hw rfl
  show decodeMajor (fmtV 0x22#6 d a b g w 0xB#4 s) = _
  rw [decodeMajor_22 _ (fmtV_26_6 ..)]
  simp only [decodeVint, fmtV_21_5, fmtV_16_5, fmtV_11_5, fmtV_9_2, fmtV_7_2, fmtV_3_4, fmtV_0_3]

theorem Encoding.vfadd (d : BitVec 5) (a : BitVec 5) (b : BitVec 5) (g : BitVec 2) (w : BitVec 2) (s : BitVec 3) : Encoding.Statement (.vfadd d a b g w s) := by
  intro _ hw
  refine decode_of _ _ ?_ hw rfl
  show decodeMajor (fmtV 0x23#6 d a b g w 0#4 s) = _
  rw [decodeMajor_23 _ (fmtV_26_6 ..)]
  simp only [decodeVfp, fmtV_21_5, fmtV_16_5, fmtV_11_5, fmtV_9_2, fmtV_7_2, fmtV_3_4, fmtV_0_3]

theorem Encoding.vfsub (d : BitVec 5) (a : BitVec 5) (b : BitVec 5) (g : BitVec 2) (w : BitVec 2) (s : BitVec 3) : Encoding.Statement (.vfsub d a b g w s) := by
  intro _ hw
  refine decode_of _ _ ?_ hw rfl
  show decodeMajor (fmtV 0x23#6 d a b g w 0x1#4 s) = _
  rw [decodeMajor_23 _ (fmtV_26_6 ..)]
  simp only [decodeVfp, fmtV_21_5, fmtV_16_5, fmtV_11_5, fmtV_9_2, fmtV_7_2, fmtV_3_4, fmtV_0_3]

theorem Encoding.vfmul (d : BitVec 5) (a : BitVec 5) (b : BitVec 5) (g : BitVec 2) (w : BitVec 2) (s : BitVec 3) : Encoding.Statement (.vfmul d a b g w s) := by
  intro _ hw
  refine decode_of _ _ ?_ hw rfl
  show decodeMajor (fmtV 0x23#6 d a b g w 0x2#4 s) = _
  rw [decodeMajor_23 _ (fmtV_26_6 ..)]
  simp only [decodeVfp, fmtV_21_5, fmtV_16_5, fmtV_11_5, fmtV_9_2, fmtV_7_2, fmtV_3_4, fmtV_0_3]

theorem Encoding.vfmin (d : BitVec 5) (a : BitVec 5) (b : BitVec 5) (g : BitVec 2) (w : BitVec 2) (s : BitVec 3) : Encoding.Statement (.vfmin d a b g w s) := by
  intro _ hw
  refine decode_of _ _ ?_ hw rfl
  show decodeMajor (fmtV 0x23#6 d a b g w 0x3#4 s) = _
  rw [decodeMajor_23 _ (fmtV_26_6 ..)]
  simp only [decodeVfp, fmtV_21_5, fmtV_16_5, fmtV_11_5, fmtV_9_2, fmtV_7_2, fmtV_3_4, fmtV_0_3]

theorem Encoding.vfmax (d : BitVec 5) (a : BitVec 5) (b : BitVec 5) (g : BitVec 2) (w : BitVec 2) (s : BitVec 3) : Encoding.Statement (.vfmax d a b g w s) := by
  intro _ hw
  refine decode_of _ _ ?_ hw rfl
  show decodeMajor (fmtV 0x23#6 d a b g w 0x4#4 s) = _
  rw [decodeMajor_23 _ (fmtV_26_6 ..)]
  simp only [decodeVfp, fmtV_21_5, fmtV_16_5, fmtV_11_5, fmtV_9_2, fmtV_7_2, fmtV_3_4, fmtV_0_3]

theorem Encoding.vfdiv (d : BitVec 5) (a : BitVec 5) (b : BitVec 5) (g : BitVec 2) (w : BitVec 2) (s : BitVec 3) : Encoding.Statement (.vfdiv d a b g w s) := by
  intro _ hw
  refine decode_of _ _ ?_ hw rfl
  show decodeMajor (fmtV 0x23#6 d a b g w 0x5#4 s) = _
  rw [decodeMajor_23 _ (fmtV_26_6 ..)]
  simp only [decodeVfp, fmtV_21_5, fmtV_16_5, fmtV_11_5, fmtV_9_2, fmtV_7_2, fmtV_3_4, fmtV_0_3]

theorem Encoding.vfsqrt (d : BitVec 5) (a : BitVec 5) (g : BitVec 2) (w : BitVec 2) (s : BitVec 3) : Encoding.Statement (.vfsqrt d a g w s) := by
  intro _ hw
  refine decode_of _ _ ?_ hw rfl
  show decodeMajor (fmtV 0x23#6 d a 0#5 g w 0x6#4 s) = _
  rw [decodeMajor_23 _ (fmtV_26_6 ..)]
  simp only [decodeVfp, fmtV_21_5, fmtV_16_5, fmtV_9_2, fmtV_7_2, fmtV_3_4, fmtV_0_3]

theorem Encoding.vfrcp (d : BitVec 5) (a : BitVec 5) (g : BitVec 2) (w : BitVec 2) (s : BitVec 3) : Encoding.Statement (.vfrcp d a g w s) := by
  intro _ hw
  refine decode_of _ _ ?_ hw rfl
  show decodeMajor (fmtV 0x23#6 d a 0#5 g w 0x7#4 s) = _
  rw [decodeMajor_23 _ (fmtV_26_6 ..)]
  simp only [decodeVfp, fmtV_21_5, fmtV_16_5, fmtV_9_2, fmtV_7_2, fmtV_3_4, fmtV_0_3]

theorem Encoding.vfrsq (d : BitVec 5) (a : BitVec 5) (g : BitVec 2) (w : BitVec 2) (s : BitVec 3) : Encoding.Statement (.vfrsq d a g w s) := by
  intro _ hw
  refine decode_of _ _ ?_ hw rfl
  show decodeMajor (fmtV 0x23#6 d a 0#5 g w 0x8#4 s) = _
  rw [decodeMajor_23 _ (fmtV_26_6 ..)]
  simp only [decodeVfp, fmtV_21_5, fmtV_16_5, fmtV_9_2, fmtV_7_2, fmtV_3_4, fmtV_0_3]

theorem Encoding.vfexp2 (d : BitVec 5) (a : BitVec 5) (g : BitVec 2) (w : BitVec 2) (s : BitVec 3) : Encoding.Statement (.vfexp2 d a g w s) := by
  intro _ hw
  refine decode_of _ _ ?_ hw rfl
  show decodeMajor (fmtV 0x23#6 d a 0#5 g w 0x9#4 s) = _
  rw [decodeMajor_23 _ (fmtV_26_6 ..)]
  simp only [decodeVfp, fmtV_21_5, fmtV_16_5, fmtV_9_2, fmtV_7_2, fmtV_3_4, fmtV_0_3]

theorem Encoding.vflog2 (d : BitVec 5) (a : BitVec 5) (g : BitVec 2) (w : BitVec 2) (s : BitVec 3) : Encoding.Statement (.vflog2 d a g w s) := by
  intro _ hw
  refine decode_of _ _ ?_ hw rfl
  show decodeMajor (fmtV 0x23#6 d a 0#5 g w 0xA#4 s) = _
  rw [decodeMajor_23 _ (fmtV_26_6 ..)]
  simp only [decodeVfp, fmtV_21_5, fmtV_16_5, fmtV_9_2, fmtV_7_2, fmtV_3_4, fmtV_0_3]

theorem Encoding.vfma (d : BitVec 5) (a : BitVec 5) (b : BitVec 5) (g : BitVec 2) (w : BitVec 2) (s : BitVec 3) : Encoding.Statement (.vfma d a b g w s) := by
  intro _ hw
  refine decode_of _ _ ?_ hw rfl
  show decodeMajor (fmtV 0x24#6 d a b g w 0#4 s) = _
  rw [decodeMajor_24 _ (fmtV_26_6 ..)]
  simp only [decodeVfma, fmtV_21_5, fmtV_16_5, fmtV_11_5, fmtV_9_2, fmtV_7_2, fmtV_3_4, fmtV_0_3]

theorem Encoding.vfms (d : BitVec 5) (a : BitVec 5) (b : BitVec 5) (g : BitVec 2) (w : BitVec 2) (s : BitVec 3) : Encoding.Statement (.vfms d a b g w s) := by
  intro _ hw
  refine decode_of _ _ ?_ hw rfl
  show decodeMajor (fmtV 0x24#6 d a b g w 0x1#4 s) = _
  rw [decodeMajor_24 _ (fmtV_26_6 ..)]
  simp only [decodeVfma, fmtV_21_5, fmtV_16_5, fmtV_11_5, fmtV_9_2, fmtV_7_2, fmtV_3_4, fmtV_0_3]

theorem Encoding.vfnma (d : BitVec 5) (a : BitVec 5) (b : BitVec 5) (g : BitVec 2) (w : BitVec 2) (s : BitVec 3) : Encoding.Statement (.vfnma d a b g w s) := by
  intro _ hw
  refine decode_of _ _ ?_ hw rfl
  show decodeMajor (fmtV 0x24#6 d a b g w 0x2#4 s) = _
  rw [decodeMajor_24 _ (fmtV_26_6 ..)]
  simp only [decodeVfma, fmtV_21_5, fmtV_16_5, fmtV_11_5, fmtV_9_2, fmtV_7_2, fmtV_3_4, fmtV_0_3]

theorem Encoding.vcvt (d : BitVec 5) (a : BitVec 5) (p : BitVec 5) (g : BitVec 2) (e : BitVec 2) (r : BitVec 3) (s : BitVec 3) : Encoding.Statement (.vcvt d a p g e r s) := by
  intro _ hw
  refine decode_of _ _ ?_ hw rfl
  show decodeMajor (fmtV 0x25#6 d a p g e (0#1 ++ r) s) = _
  rw [decodeMajor_25 _ (fmtV_26_6 ..)]
  simp only [decodeVcvt, fmtV_21_5, fmtV_16_5, fmtV_11_5, fmtV_9_2, fmtV_7_2, fmtV_6_1, fmtV_3_3, fmtV_0_3, cat_1_3_0_3, cat_1_3_3_1]

theorem Encoding.vqmx (d : BitVec 5) (a : BitVec 5) (p : BitVec 5) (e : BitVec 2) (s : BitVec 3) : Encoding.Statement (.vqmx d a p e s) := by
  intro _ hw
  refine decode_of _ _ ?_ hw rfl
  show decodeMajor (fmtV 0x25#6 d a p 0#2 e 0x8#4 s) = _
  rw [decodeMajor_25 _ (fmtV_26_6 ..)]
  simp only [decodeVcvt, fmtV_21_5, fmtV_16_5, fmtV_11_5, fmtV_9_2, fmtV_7_2, fmtV_6_1, fmtV_3_3, fmtV_0_3]
  rfl

theorem Encoding.vdqmx (d : BitVec 5) (a : BitVec 5) (p : BitVec 5) (e : BitVec 2) (s : BitVec 3) : Encoding.Statement (.vdqmx d a p e s) := by
  intro _ hw
  refine decode_of _ _ ?_ hw rfl
  show decodeMajor (fmtV 0x25#6 d a p 0#2 e 0x9#4 s) = _
  rw [decodeMajor_25 _ (fmtV_26_6 ..)]
  simp only [decodeVcvt, fmtV_21_5, fmtV_16_5, fmtV_11_5, fmtV_9_2, fmtV_7_2, fmtV_6_1, fmtV_3_3, fmtV_0_3]
  rfl

theorem Encoding.vxdec (d : BitVec 5) (a : BitVec 5) (s : BitVec 3) : Encoding.Statement (.vxdec d a s) := by
  intro _ hw
  refine decode_of _ _ ?_ hw rfl
  show decodeMajor (fmtV 0x25#6 d a 0#5 0#2 0#2 0xA#4 s) = _
  rw [decodeMajor_25 _ (fmtV_26_6 ..)]
  simp only [decodeVcvt, fmtV_21_5, fmtV_16_5, fmtV_11_5, fmtV_9_2, fmtV_7_2, fmtV_6_1, fmtV_3_3, fmtV_0_3]
  rfl

theorem Encoding.vld (d : BitVec 5) (a : BitVec 5) (g : BitVec 2) (w : BitVec 2) (s : BitVec 3) : Encoding.Statement (.vld d a g w s) := by
  intro _ hw
  refine decode_of _ _ ?_ hw rfl
  show decodeMajor (fmtV 0x26#6 d a 0#5 g w 0#4 s) = _
  rw [decodeMajor_26 _ (fmtV_26_6 ..)]
  simp only [decodeVmem, fmtV_21_5, fmtV_16_5, fmtV_9_2, fmtV_7_2, fmtV_3_4, fmtV_0_3]

theorem Encoding.vst (d : BitVec 5) (a : BitVec 5) (g : BitVec 2) (w : BitVec 2) (s : BitVec 3) : Encoding.Statement (.vst d a g w s) := by
  intro _ hw
  refine decode_of _ _ ?_ hw rfl
  show decodeMajor (fmtV 0x26#6 d a 0#5 g w 0x1#4 s) = _
  rw [decodeMajor_26 _ (fmtV_26_6 ..)]
  simp only [decodeVmem, fmtV_21_5, fmtV_16_5, fmtV_9_2, fmtV_7_2, fmtV_3_4, fmtV_0_3]

theorem Encoding.vlds (d : BitVec 5) (a : BitVec 5) (b : BitVec 5) (g : BitVec 2) (w : BitVec 2) (s : BitVec 3) : Encoding.Statement (.vlds d a b g w s) := by
  intro _ hw
  refine decode_of _ _ ?_ hw rfl
  show decodeMajor (fmtV 0x26#6 d a b g w 0x2#4 s) = _
  rw [decodeMajor_26 _ (fmtV_26_6 ..)]
  simp only [decodeVmem, fmtV_21_5, fmtV_16_5, fmtV_11_5, fmtV_9_2, fmtV_7_2, fmtV_3_4, fmtV_0_3]

theorem Encoding.vsts (d : BitVec 5) (a : BitVec 5) (b : BitVec 5) (g : BitVec 2) (w : BitVec 2) (s : BitVec 3) : Encoding.Statement (.vsts d a b g w s) := by
  intro _ hw
  refine decode_of _ _ ?_ hw rfl
  show decodeMajor (fmtV 0x26#6 d a b g w 0x3#4 s) = _
  rw [decodeMajor_26 _ (fmtV_26_6 ..)]
  simp only [decodeVmem, fmtV_21_5, fmtV_16_5, fmtV_11_5, fmtV_9_2, fmtV_7_2, fmtV_3_4, fmtV_0_3]

theorem Encoding.vgather (d : BitVec 5) (a : BitVec 5) (b : BitVec 5) (g : BitVec 2) (w : BitVec 2) (s : BitVec 3) : Encoding.Statement (.vgather d a b g w s) := by
  intro _ hw
  refine decode_of _ _ ?_ hw rfl
  show decodeMajor (fmtV 0x26#6 d a b g w 0x4#4 s) = _
  rw [decodeMajor_26 _ (fmtV_26_6 ..)]
  simp only [decodeVmem, fmtV_21_5, fmtV_16_5, fmtV_11_5, fmtV_9_2, fmtV_7_2, fmtV_3_4, fmtV_0_3]

theorem Encoding.vscatter (d : BitVec 5) (a : BitVec 5) (b : BitVec 5) (g : BitVec 2) (w : BitVec 2) (s : BitVec 3) : Encoding.Statement (.vscatter d a b g w s) := by
  intro _ hw
  refine decode_of _ _ ?_ hw rfl
  show decodeMajor (fmtV 0x26#6 d a b g w 0x5#4 s) = _
  rw [decodeMajor_26 _ (fmtV_26_6 ..)]
  simp only [decodeVmem, fmtV_21_5, fmtV_16_5, fmtV_11_5, fmtV_9_2, fmtV_7_2, fmtV_3_4, fmtV_0_3]

theorem Encoding.vldb (d : BitVec 5) (a : BitVec 5) (n : BitVec 5) (g : BitVec 2) (w : BitVec 2) (s : BitVec 3) : Encoding.Statement (.vldb d a n g w s) := by
  intro _ hw
  refine decode_of _ _ ?_ hw rfl
  show decodeMajor (fmtV 0x26#6 d a n g w 0x6#4 s) = _
  rw [decodeMajor_26 _ (fmtV_26_6 ..)]
  simp only [decodeVmem, fmtV_21_5, fmtV_16_5, fmtV_11_5, fmtV_9_2, fmtV_7_2, fmtV_3_4, fmtV_0_3]

theorem Encoding.vstb (d : BitVec 5) (a : BitVec 5) (n : BitVec 5) (g : BitVec 2) (w : BitVec 2) (s : BitVec 3) : Encoding.Statement (.vstb d a n g w s) := by
  intro _ hw
  refine decode_of _ _ ?_ hw rfl
  show decodeMajor (fmtV 0x26#6 d a n g w 0x7#4 s) = _
  rw [decodeMajor_26 _ (fmtV_26_6 ..)]
  simp only [decodeVmem, fmtV_21_5, fmtV_16_5, fmtV_11_5, fmtV_9_2, fmtV_7_2, fmtV_3_4, fmtV_0_3]

theorem Encoding.vbcast (d : BitVec 5) (a : BitVec 5) (g : BitVec 2) (w : BitVec 2) (s : BitVec 3) : Encoding.Statement (.vbcast d a g w s) := by
  intro _ hw
  refine decode_of _ _ ?_ hw rfl
  show decodeMajor (fmtV 0x27#6 d a 0#5 g w 0#4 s) = _
  rw [decodeMajor_27 _ (fmtV_26_6 ..)]
  simp only [decodeVperm, fmtV_21_5, fmtV_16_5, fmtV_9_2, fmtV_7_2, fmtV_3_4, fmtV_0_3]

theorem Encoding.vmovg (d : BitVec 5) (a : BitVec 5) (b : BitVec 5) (g : BitVec 2) (w : BitVec 2) (s : BitVec 3) : Encoding.Statement (.vmovg d a b g w s) := by
  intro _ hw
  refine decode_of _ _ ?_ hw rfl
  show decodeMajor (fmtV 0x27#6 d a b g w 0x1#4 s) = _
  rw [decodeMajor_27 _ (fmtV_26_6 ..)]
  simp only [decodeVperm, fmtV_21_5, fmtV_16_5, fmtV_11_5, fmtV_9_2, fmtV_7_2, fmtV_3_4, fmtV_0_3]

theorem Encoding.vins (d : BitVec 5) (a : BitVec 5) (b : BitVec 5) (g : BitVec 2) (w : BitVec 2) (s : BitVec 3) : Encoding.Statement (.vins d a b g w s) := by
  intro _ hw
  refine decode_of _ _ ?_ hw rfl
  show decodeMajor (fmtV 0x27#6 d a b g w 0x2#4 s) = _
  rw [decodeMajor_27 _ (fmtV_26_6 ..)]
  simp only [decodeVperm, fmtV_21_5, fmtV_16_5, fmtV_11_5, fmtV_9_2, fmtV_7_2, fmtV_3_4, fmtV_0_3]

theorem Encoding.vperm (d : BitVec 5) (a : BitVec 5) (b : BitVec 5) (g : BitVec 2) (w : BitVec 2) (s : BitVec 3) : Encoding.Statement (.vperm d a b g w s) := by
  intro _ hw
  refine decode_of _ _ ?_ hw rfl
  show decodeMajor (fmtV 0x27#6 d a b g w 0x3#4 s) = _
  rw [decodeMajor_27 _ (fmtV_26_6 ..)]
  simp only [decodeVperm, fmtV_21_5, fmtV_16_5, fmtV_11_5, fmtV_9_2, fmtV_7_2, fmtV_3_4, fmtV_0_3]

theorem Encoding.vshuf (d : BitVec 5) (a : BitVec 5) (b : BitVec 5) (g : BitVec 2) (w : BitVec 2) (s : BitVec 3) : Encoding.Statement (.vshuf d a b g w s) := by
  intro _ hw
  refine decode_of _ _ ?_ hw rfl
  show decodeMajor (fmtV 0x27#6 d a b g w 0x4#4 s) = _
  rw [decodeMajor_27 _ (fmtV_26_6 ..)]
  simp only [decodeVperm, fmtV_21_5, fmtV_16_5, fmtV_11_5, fmtV_9_2, fmtV_7_2, fmtV_3_4, fmtV_0_3]

theorem Encoding.vred (d : BitVec 5) (a : BitVec 5) (o : BitVec 5) (g : BitVec 2) (w : BitVec 2) (s : BitVec 3) : Encoding.Statement (.vred d a o g w s) := by
  intro _ hw
  refine decode_of _ _ ?_ hw rfl
  show decodeMajor (fmtV 0x27#6 d a o g w 0x5#4 s) = _
  rw [decodeMajor_27 _ (fmtV_26_6 ..)]
  simp only [decodeVperm, fmtV_21_5, fmtV_16_5, fmtV_11_5, fmtV_9_2, fmtV_7_2, fmtV_3_4, fmtV_0_3]

theorem Encoding.vscan (d : BitVec 5) (a : BitVec 5) (o : BitVec 5) (g : BitVec 2) (w : BitVec 2) (s : BitVec 3) : Encoding.Statement (.vscan d a o g w s) := by
  intro _ hw
  refine decode_of _ _ ?_ hw rfl
  show decodeMajor (fmtV 0x27#6 d a o g w 0x6#4 s) = _
  rw [decodeMajor_27 _ (fmtV_26_6 ..)]
  simp only [decodeVperm, fmtV_21_5, fmtV_16_5, fmtV_11_5, fmtV_9_2, fmtV_7_2, fmtV_3_4, fmtV_0_3]

theorem Encoding.vcompress (d : BitVec 5) (a : BitVec 5) (g : BitVec 2) (w : BitVec 2) (s : BitVec 3) : Encoding.Statement (.vcompress d a g w s) := by
  intro _ hw
  refine decode_of _ _ ?_ hw rfl
  show decodeMajor (fmtV 0x27#6 d a 0#5 g w 0x7#4 s) = _
  rw [decodeMajor_27 _ (fmtV_26_6 ..)]
  simp only [decodeVperm, fmtV_21_5, fmtV_16_5, fmtV_9_2, fmtV_7_2, fmtV_3_4, fmtV_0_3]

theorem Encoding.vrbox (d : BitVec 5) (a : BitVec 5) (b : BitVec 5) (g : BitVec 2) (s : BitVec 3) : Encoding.Statement (.vrbox d a b g s) := by
  intro _ hw
  refine decode_of _ _ ?_ hw rfl
  show decodeMajor (fmtV 0x28#6 d a b g 0x2#2 0#4 s) = _
  rw [decodeMajor_28 _ (fmtV_26_6 ..)]
  simp only [decodeVray, fmtV_21_5, fmtV_16_5, fmtV_11_5, fmtV_9_2, fmtV_3_4, fmtV_0_3]

theorem Encoding.vrtri (d : BitVec 5) (a : BitVec 5) (b : BitVec 5) (g : BitVec 2) (s : BitVec 3) : Encoding.Statement (.vrtri d a b g s) := by
  intro _ hw
  refine decode_of _ _ ?_ hw rfl
  show decodeMajor (fmtV 0x28#6 d a b g 0x2#2 0x1#4 s) = _
  rw [decodeMajor_28 _ (fmtV_26_6 ..)]
  simp only [decodeVray, fmtV_21_5, fmtV_16_5, fmtV_11_5, fmtV_9_2, fmtV_3_4, fmtV_0_3]

theorem Encoding.vcmpEq (d : BitVec 5) (a : BitVec 5) (b : BitVec 5) (g : BitVec 2) (w : BitVec 2) (s : BitVec 3) : Encoding.Statement (.vcmpEq d a b g w s) := by
  intro _ hw
  refine decode_of _ _ ?_ hw rfl
  show decodeMajor (fmtV 0x29#6 d a b g w 0#4 s) = _
  rw [decodeMajor_29 _ (fmtV_26_6 ..)]
  simp only [decodeVcmp, fmtV_21_5, fmtV_16_5, fmtV_11_5, fmtV_9_2, fmtV_7_2, fmtV_3_4, fmtV_0_3]

theorem Encoding.vcmpNe (d : BitVec 5) (a : BitVec 5) (b : BitVec 5) (g : BitVec 2) (w : BitVec 2) (s : BitVec 3) : Encoding.Statement (.vcmpNe d a b g w s) := by
  intro _ hw
  refine decode_of _ _ ?_ hw rfl
  show decodeMajor (fmtV 0x29#6 d a b g w 0x1#4 s) = _
  rw [decodeMajor_29 _ (fmtV_26_6 ..)]
  simp only [decodeVcmp, fmtV_21_5, fmtV_16_5, fmtV_11_5, fmtV_9_2, fmtV_7_2, fmtV_3_4, fmtV_0_3]

theorem Encoding.vcmpLt (d : BitVec 5) (a : BitVec 5) (b : BitVec 5) (g : BitVec 2) (w : BitVec 2) (s : BitVec 3) : Encoding.Statement (.vcmpLt d a b g w s) := by
  intro _ hw
  refine decode_of _ _ ?_ hw rfl
  show decodeMajor (fmtV 0x29#6 d a b g w 0x2#4 s) = _
  rw [decodeMajor_29 _ (fmtV_26_6 ..)]
  simp only [decodeVcmp, fmtV_21_5, fmtV_16_5, fmtV_11_5, fmtV_9_2, fmtV_7_2, fmtV_3_4, fmtV_0_3]

theorem Encoding.vcmpLe (d : BitVec 5) (a : BitVec 5) (b : BitVec 5) (g : BitVec 2) (w : BitVec 2) (s : BitVec 3) : Encoding.Statement (.vcmpLe d a b g w s) := by
  intro _ hw
  refine decode_of _ _ ?_ hw rfl
  show decodeMajor (fmtV 0x29#6 d a b g w 0x3#4 s) = _
  rw [decodeMajor_29 _ (fmtV_26_6 ..)]
  simp only [decodeVcmp, fmtV_21_5, fmtV_16_5, fmtV_11_5, fmtV_9_2, fmtV_7_2, fmtV_3_4, fmtV_0_3]

theorem Encoding.vcmpLtz (d : BitVec 5) (a : BitVec 5) (b : BitVec 5) (g : BitVec 2) (w : BitVec 2) (s : BitVec 3) : Encoding.Statement (.vcmpLtz d a b g w s) := by
  intro _ hw
  refine decode_of _ _ ?_ hw rfl
  show decodeMajor (fmtV 0x29#6 d a b g w 0x4#4 s) = _
  rw [decodeMajor_29 _ (fmtV_26_6 ..)]
  simp only [decodeVcmp, fmtV_21_5, fmtV_16_5, fmtV_11_5, fmtV_9_2, fmtV_7_2, fmtV_3_4, fmtV_0_3]

theorem Encoding.vcmpLez (d : BitVec 5) (a : BitVec 5) (b : BitVec 5) (g : BitVec 2) (w : BitVec 2) (s : BitVec 3) : Encoding.Statement (.vcmpLez d a b g w s) := by
  intro _ hw
  refine decode_of _ _ ?_ hw rfl
  show decodeMajor (fmtV 0x29#6 d a b g w 0x5#4 s) = _
  rw [decodeMajor_29 _ (fmtV_26_6 ..)]
  simp only [decodeVcmp, fmtV_21_5, fmtV_16_5, fmtV_11_5, fmtV_9_2, fmtV_7_2, fmtV_3_4, fmtV_0_3]

theorem Encoding.vcmpFeq (d : BitVec 5) (a : BitVec 5) (b : BitVec 5) (g : BitVec 2) (w : BitVec 2) (s : BitVec 3) : Encoding.Statement (.vcmpFeq d a b g w s) := by
  intro _ hw
  refine decode_of _ _ ?_ hw rfl
  show decodeMajor (fmtV 0x29#6 d a b g w 0x6#4 s) = _
  rw [decodeMajor_29 _ (fmtV_26_6 ..)]
  simp only [decodeVcmp, fmtV_21_5, fmtV_16_5, fmtV_11_5, fmtV_9_2, fmtV_7_2, fmtV_3_4, fmtV_0_3]

theorem Encoding.vcmpFlt (d : BitVec 5) (a : BitVec 5) (b : BitVec 5) (g : BitVec 2) (w : BitVec 2) (s : BitVec 3) : Encoding.Statement (.vcmpFlt d a b g w s) := by
  intro _ hw
  refine decode_of _ _ ?_ hw rfl
  show decodeMajor (fmtV 0x29#6 d a b g w 0x7#4 s) = _
  rw [decodeMajor_29 _ (fmtV_26_6 ..)]
  simp only [decodeVcmp, fmtV_21_5, fmtV_16_5, fmtV_11_5, fmtV_9_2, fmtV_7_2, fmtV_3_4, fmtV_0_3]

theorem Encoding.vcmpFle (d : BitVec 5) (a : BitVec 5) (b : BitVec 5) (g : BitVec 2) (w : BitVec 2) (s : BitVec 3) : Encoding.Statement (.vcmpFle d a b g w s) := by
  intro _ hw
  refine decode_of _ _ ?_ hw rfl
  show decodeMajor (fmtV 0x29#6 d a b g w 0x8#4 s) = _
  rw [decodeMajor_29 _ (fmtV_26_6 ..)]
  simp only [decodeVcmp, fmtV_21_5, fmtV_16_5, fmtV_11_5, fmtV_9_2, fmtV_7_2, fmtV_3_4, fmtV_0_3]

theorem Encoding.vcmpFun (d : BitVec 5) (a : BitVec 5) (b : BitVec 5) (g : BitVec 2) (w : BitVec 2) (s : BitVec 3) : Encoding.Statement (.vcmpFun d a b g w s) := by
  intro _ hw
  refine decode_of _ _ ?_ hw rfl
  show decodeMajor (fmtV 0x29#6 d a b g w 0x9#4 s) = _
  rw [decodeMajor_29 _ (fmtV_26_6 ..)]
  simp only [decodeVcmp, fmtV_21_5, fmtV_16_5, fmtV_11_5, fmtV_9_2, fmtV_7_2, fmtV_3_4, fmtV_0_3]

theorem Encoding.fadd (d : BitVec 5) (a : BitVec 5) (b : BitVec 5) (z : BitVec 1) (r : BitVec 3) (s : BitVec 3) : Encoding.Statement (.fadd d a b z r s) := by
  intro _ hw
  refine decode_of _ _ ?_ hw rfl
  show decodeMajor (fmtA 0x2A#6 d a b (z ++ 0#4 ++ r) s) = _
  rw [decodeMajor_2A _ (fmtA_26_6 ..)]
  simp only [decodeFps, fmtA_21_5, fmtA_16_5, fmtA_11_5, fmtA_10_1, fmtA_6_4, fmtA_3_3, fmtA_0_3, cat_1_4_3_0_3, cat_1_4_3_3_4, cat_1_4_3_7_1]

theorem Encoding.fsub (d : BitVec 5) (a : BitVec 5) (b : BitVec 5) (z : BitVec 1) (r : BitVec 3) (s : BitVec 3) : Encoding.Statement (.fsub d a b z r s) := by
  intro _ hw
  refine decode_of _ _ ?_ hw rfl
  show decodeMajor (fmtA 0x2A#6 d a b (z ++ 0x1#4 ++ r) s) = _
  rw [decodeMajor_2A _ (fmtA_26_6 ..)]
  simp only [decodeFps, fmtA_21_5, fmtA_16_5, fmtA_11_5, fmtA_10_1, fmtA_6_4, fmtA_3_3, fmtA_0_3, cat_1_4_3_0_3, cat_1_4_3_3_4, cat_1_4_3_7_1]

theorem Encoding.fmul (d : BitVec 5) (a : BitVec 5) (b : BitVec 5) (z : BitVec 1) (r : BitVec 3) (s : BitVec 3) : Encoding.Statement (.fmul d a b z r s) := by
  intro _ hw
  refine decode_of _ _ ?_ hw rfl
  show decodeMajor (fmtA 0x2A#6 d a b (z ++ 0x2#4 ++ r) s) = _
  rw [decodeMajor_2A _ (fmtA_26_6 ..)]
  simp only [decodeFps, fmtA_21_5, fmtA_16_5, fmtA_11_5, fmtA_10_1, fmtA_6_4, fmtA_3_3, fmtA_0_3, cat_1_4_3_0_3, cat_1_4_3_3_4, cat_1_4_3_7_1]

theorem Encoding.fma (d : BitVec 5) (a : BitVec 5) (b : BitVec 5) (z : BitVec 1) (r : BitVec 3) (s : BitVec 3) : Encoding.Statement (.fma d a b z r s) := by
  intro _ hw
  refine decode_of _ _ ?_ hw rfl
  show decodeMajor (fmtA 0x2A#6 d a b (z ++ 0x3#4 ++ r) s) = _
  rw [decodeMajor_2A _ (fmtA_26_6 ..)]
  simp only [decodeFps, fmtA_21_5, fmtA_16_5, fmtA_11_5, fmtA_10_1, fmtA_6_4, fmtA_3_3, fmtA_0_3, cat_1_4_3_0_3, cat_1_4_3_3_4, cat_1_4_3_7_1]

theorem Encoding.fdiv (d : BitVec 5) (a : BitVec 5) (b : BitVec 5) (z : BitVec 1) (r : BitVec 3) (s : BitVec 3) : Encoding.Statement (.fdiv d a b z r s) := by
  intro _ hw
  refine decode_of _ _ ?_ hw rfl
  show decodeMajor (fmtA 0x2A#6 d a b (z ++ 0x4#4 ++ r) s) = _
  rw [decodeMajor_2A _ (fmtA_26_6 ..)]
  simp only [decodeFps, fmtA_21_5, fmtA_16_5, fmtA_11_5, fmtA_10_1, fmtA_6_4, fmtA_3_3, fmtA_0_3, cat_1_4_3_0_3, cat_1_4_3_3_4, cat_1_4_3_7_1]

theorem Encoding.fsqrt (d : BitVec 5) (a : BitVec 5) (z : BitVec 1) (r : BitVec 3) (s : BitVec 3) : Encoding.Statement (.fsqrt d a z r s) := by
  intro _ hw
  refine decode_of _ _ ?_ hw rfl
  show decodeMajor (fmtA 0x2A#6 d a 0#5 (z ++ 0x5#4 ++ r) s) = _
  rw [decodeMajor_2A _ (fmtA_26_6 ..)]
  simp only [decodeFps, fmtA_21_5, fmtA_16_5, fmtA_10_1, fmtA_6_4, fmtA_3_3, fmtA_0_3, cat_1_4_3_0_3, cat_1_4_3_3_4, cat_1_4_3_7_1]

theorem Encoding.fmin (d : BitVec 5) (a : BitVec 5) (b : BitVec 5) (z : BitVec 1) (s : BitVec 3) : Encoding.Statement (.fmin d a b z s) := by
  intro _ hw
  refine decode_of _ _ ?_ hw rfl
  show decodeMajor (fmtA 0x2A#6 d a b (z ++ 0x30#7) s) = _
  rw [decodeMajor_2A _ (fmtA_26_6 ..)]
  simp only [decodeFps, fmtA_21_5, fmtA_16_5, fmtA_11_5, fmtA_10_1, fmtA_6_4, fmtA_3_3, fmtA_0_3, cat_1_7_0_3, cat_1_7_3_4, cat_1_7_7_1]
  rfl

theorem Encoding.fmax (d : BitVec 5) (a : BitVec 5) (b : BitVec 5) (z : BitVec 1) (s : BitVec 3) : Encoding.Statement (.fmax d a b z s) := by
  intro _ hw
  refine decode_of _ _ ?_ hw rfl
  show decodeMajor (fmtA 0x2A#6 d a b (z ++ 0x38#7) s) = _
  rw [decodeMajor_2A _ (fmtA_26_6 ..)]
  simp only [decodeFps, fmtA_21_5, fmtA_16_5, fmtA_11_5, fmtA_10_1, fmtA_6_4, fmtA_3_3, fmtA_0_3, cat_1_7_0_3, cat_1_7_3_4, cat_1_7_7_1]
  rfl

theorem Encoding.fcmp (d : BitVec 5) (a : BitVec 5) (b : BitVec 5) (z : BitVec 1) (c : BitVec 3) (s : BitVec 3) : Encoding.Statement (.fcmp d a b z c s) := by
  intro _ hw
  refine decode_of _ _ ?_ hw rfl
  show decodeMajor (fmtA 0x2A#6 d a b (z ++ 0x8#4 ++ c) s) = _
  rw [decodeMajor_2A _ (fmtA_26_6 ..)]
  simp only [decodeFps, fmtA_21_5, fmtA_16_5, fmtA_11_5, fmtA_10_1, fmtA_6_4, fmtA_3_3, fmtA_0_3, cat_1_4_3_0_3, cat_1_4_3_3_4, cat_1_4_3_7_1]

theorem Encoding.fcvt (d : BitVec 5) (a : BitVec 5) (c : BitVec 5) (r : BitVec 3) (s : BitVec 3) : Encoding.Statement (.fcvt d a c r s) := by
  intro _ hw
  refine decode_of _ _ ?_ hw rfl
  show decodeMajor (fmtA 0x2A#6 d a c (0x9#5 ++ r) s) = _
  rw [decodeMajor_2A _ (fmtA_26_6 ..)]
  simp only [decodeFps, fmtA_21_5, fmtA_16_5, fmtA_11_5, fmtA_10_1, fmtA_6_4, fmtA_3_3, fmtA_0_3, cat_5_3_0_3, cat_5_3_3_4, cat_5_3_7_1]
  rfl

theorem Encoding.fclass (d : BitVec 5) (a : BitVec 5) (z : BitVec 1) (s : BitVec 3) : Encoding.Statement (.fclass d a z s) := by
  intro _ hw
  refine decode_of _ _ ?_ hw rfl
  show decodeMajor (fmtA 0x2A#6 d a 0#5 (z ++ 0x50#7) s) = _
  rw [decodeMajor_2A _ (fmtA_26_6 ..)]
  simp only [decodeFps, fmtA_21_5, fmtA_16_5, fmtA_11_5, fmtA_10_1, fmtA_6_4, fmtA_3_3, fmtA_0_3, cat_1_7_0_3, cat_1_7_3_4, cat_1_7_7_1]
  rfl

theorem Encoding.fdrop (a : BitVec 5) : Encoding.Statement (.fdrop a) := by
  intro _ hw
  refine decode_of _ _ ?_ hw rfl
  show decodeMajor (fmtY 0x3F#6 0x1#10 a 0#5 0#6) = _
  rw [decodeMajor_3F _ (fmtY_26_6 ..)]
  simp only [decodeEscape, fmtY_16_10, fmtY_11_5]

theorem Encoding.fseal (i : BitVec 6) : Encoding.Statement (.fseal i) := by
  intro _ hw
  refine decode_of _ _ ?_ hw rfl
  show decodeMajor (fmtY 0x3F#6 0x2#10 0#5 0#5 i) = _
  rw [decodeMajor_3F _ (fmtY_26_6 ..)]
  simp only [decodeEscape, fmtY_16_10, fmtY_0_6]

theorem Encoding.illegalWord (word : BitVec 32) : Encoding.Statement (.illegalWord word) := by
  intro h; cases h

theorem Encoding.heldAsyncTrapDelivery (core : Nat) (slot : Nat) : Encoding.Statement (.heldAsyncTrapDelivery core slot) := by
  intro h; cases h

theorem Encoding.replyLanding (core : Nat) (req : Nat) (data : BitVec 512) (abort : Bool) : Encoding.Statement (.replyLanding core req data abort) := by
  intro h; cases h

theorem Encoding.slotReady (core : Nat) (slot : Nat) : Encoding.Statement (.slotReady core slot) := by
  intro h; cases h

theorem Encoding.remoteAccessArrival (core : Nat) (req : Nat) : Encoding.Statement (.remoteAccessArrival core req) := by
  intro h; cases h

theorem Encoding.rd (core : Nat) (evict : List Nat) : Encoding.Statement (.rd core evict) := by
  intro h; cases h

theorem Encoding.rdx (core : Nat) (evict : List Nat) : Encoding.Statement (.rdx core evict) := by
  intro h; cases h

theorem Encoding.upg (core : Nat) : Encoding.Statement (.upg core) := by
  intro h; cases h

theorem Encoding.wb (core : Nat) : Encoding.Statement (.wb core) := by
  intro h; cases h

theorem Encoding.wt (core : Nat) : Encoding.Statement (.wt core) := by
  intro h; cases h

theorem Encoding.ureg (core : Nat) : Encoding.Statement (.ureg core) := by
  intro h; cases h

theorem Encoding.umrg (core : Nat) : Encoding.Statement (.umrg core) := by
  intro h; cases h

theorem Encoding.frsp (core : Nat) (toDir : Bool) : Encoding.Statement (.frsp core toDir) := by
  intro h; cases h

theorem Encoding.iack (core : Nat) : Encoding.Statement (.iack core) := by
  intro h; cases h

theorem Encoding.dataS (core : Nat) (evict : List Nat) : Encoding.Statement (.dataS core evict) := by
  intro h; cases h

theorem Encoding.dataE (core : Nat) (evict : List Nat) : Encoding.Statement (.dataE core evict) := by
  intro h; cases h

theorem Encoding.dataM (core : Nat) (evict : List Nat) : Encoding.Statement (.dataM core evict) := by
  intro h; cases h

theorem Encoding.grant (core : Nat) : Encoding.Statement (.grant core) := by
  intro h; cases h

theorem Encoding.inv (core : Nat) : Encoding.Statement (.inv core) := by
  intro h; cases h

theorem Encoding.urcl (core : Nat) : Encoding.Statement (.urcl core) := by
  intro h; cases h

theorem Encoding.fwdS (core : Nat) : Encoding.Statement (.fwdS core) := by
  intro h; cases h

theorem Encoding.fwdX (core : Nat) : Encoding.Statement (.fwdX core) := by
  intro h; cases h

theorem Encoding.wback (core : Nat) : Encoding.Statement (.wback core) := by
  intro h; cases h

theorem Encoding.subscriptionPush (bent : Nat) (home : Nat) : Encoding.Statement (.subscriptionPush bent home) := by
  intro h; cases h

theorem Encoding.leaseExpiry (bent : Nat) (page : Nat) : Encoding.Statement (.leaseExpiry bent page) := by
  intro h; cases h

theorem Encoding.ptInvalidation (bent : Nat) : Encoding.Statement (.ptInvalidation bent) := by
  intro h; cases h

theorem Encoding.ptWritePerform (die : Nat) (idx : Nat) : Encoding.Statement (.ptWritePerform die idx) := by
  intro h; cases h

theorem Encoding.tableWalkStart (bent : Nat) : Encoding.Statement (.tableWalkStart bent) := by
  intro h; cases h

theorem Encoding.tableWalkComplete (bent : Nat) (idx : Nat) (poisoned : Bool) : Encoding.Statement (.tableWalkComplete bent idx poisoned) := by
  intro h; cases h

theorem Encoding.missTableRetry (bent : Nat) : Encoding.Statement (.missTableRetry bent) := by
  intro h; cases h

theorem Encoding.rehomeCopyDone (die : Nat) (idx : Nat) : Encoding.Statement (.rehomeCopyDone die idx) := by
  intro h; cases h

theorem Encoding.rehomeRecopyDone (die : Nat) (idx : Nat) : Encoding.Statement (.rehomeRecopyDone die idx) := by
  intro h; cases h

theorem Encoding.pageRecall (die : Nat) (idx : Nat) (bent : Nat) : Encoding.Statement (.pageRecall die idx bent) := by
  intro h; cases h

theorem Encoding.rehomeSwitch (die : Nat) (idx : Nat) : Encoding.Statement (.rehomeSwitch die idx) := by
  intro h; cases h

theorem Encoding.featureCommit (pkg : Nat) : Encoding.Statement (.featureCommit pkg) := by
  intro h; cases h

theorem Encoding.qtailWrite (pkg : Nat) (queue : Nat) (value : BitVec 32) : Encoding.Statement (.qtailWrite pkg queue value) := by
  intro h; cases h

theorem Encoding.launchRecordRead (pkg : Nat) (queue : Nat) (record : BitVec 2048) : Encoding.Statement (.launchRecordRead pkg queue record) := by
  intro h; cases h

theorem Encoding.kernelPlacement (pkg : Nat) (kern : Nat) (cores : List Nat) : Encoding.Statement (.kernelPlacement pkg kern cores) := by
  intro h; cases h

theorem Encoding.contextLoadingDone (core : Nat) (kern : Nat) : Encoding.Statement (.contextLoadingDone core kern) := by
  intro h; cases h

theorem Encoding.rootTaskStart (pkg : Nat) (kern : Nat) : Encoding.Statement (.rootTaskStart pkg kern) := by
  intro h; cases h

theorem Encoding.preemptWrite (pkg : Nat) (kern : Nat) : Encoding.Statement (.preemptWrite pkg kern) := by
  intro h; cases h

theorem Encoding.resumeWrite (pkg : Nat) (kern : Nat) : Encoding.Statement (.resumeWrite pkg kern) := by
  intro h; cases h

theorem Encoding.abortWrite (pkg : Nat) (kern : Nat) (supervisor : Bool) : Encoding.Statement (.abortWrite pkg kern supervisor) := by
  intro h; cases h

theorem Encoding.kernelResumePlacement (pkg : Nat) (kern : Nat) (cores : List Nat) : Encoding.Statement (.kernelResumePlacement pkg kern cores) := by
  intro h; cases h

theorem Encoding.completionRecordWrite (pkg : Nat) (kern : Nat) : Encoding.Statement (.completionRecordWrite pkg kern) := by
  intro h; cases h

theorem Encoding.contextSaveComplete (core : Nat) (kern : Nat) : Encoding.Statement (.contextSaveComplete core kern) := by
  intro h; cases h

theorem Encoding.saveAreaAccessFailure (core : Nat) (kern : Nat) (cause : BitVec 8) (addr : BitVec 64) : Encoding.Statement (.saveAreaAccessFailure core kern cause addr) := by
  intro h; cases h

theorem Encoding.forcedStop (core : Nat) (kern : Nat) : Encoding.Statement (.forcedStop core kern) := by
  intro h; cases h

theorem Encoding.budgetWatchdogExpiry (core : Nat) (kern : Nat) : Encoding.Statement (.budgetWatchdogExpiry core kern) := by
  intro h; cases h

theorem Encoding.budgetArm (core : Nat) (slot : Nat) (value : BitVec 64) : Encoding.Statement (.budgetArm core slot value) := by
  intro h; cases h

theorem Encoding.supervisorQueueDelivery (core : Nat) (kern : Nat) : Encoding.Statement (.supervisorQueueDelivery core kern) := by
  intro h; cases h

theorem Encoding.restoreState (core : Nat) (kern : Nat) : Encoding.Statement (.restoreState core kern) := by
  intro h; cases h

theorem Encoding.restoreLeases (core : Nat) (kern : Nat) : Encoding.Statement (.restoreLeases core kern) := by
  intro h; cases h

theorem Encoding.restoreTruss (core : Nat) (kern : Nat) : Encoding.Statement (.restoreTruss core kern) := by
  intro h; cases h

theorem Encoding.restoreEngq (core : Nat) (kern : Nat) : Encoding.Statement (.restoreEngq core kern) := by
  intro h; cases h

theorem Encoding.restoreTasks (core : Nat) (kern : Nat) : Encoding.Statement (.restoreTasks core kern) := by
  intro h; cases h

theorem Encoding.restctlErrClear (core : Nat) (kern : Nat) : Encoding.Statement (.restctlErrClear core kern) := by
  intro h; cases h

theorem Encoding.cseqWrite (core : Nat) (kern : Nat) (chan : Nat) (value : BitVec 64) : Encoding.Statement (.cseqWrite core kern chan value) := by
  intro h; cases h

theorem Encoding.ptrootWrite (core : Nat) (kern : Nat) (value : BitVec 64) : Encoding.Statement (.ptrootWrite core kern value) := by
  intro h; cases h

theorem Encoding.yardWrite (core : Nat) (slot : Nat) (size : BitVec 2) : Encoding.Statement (.yardWrite core slot size) := by
  intro h; cases h

theorem Encoding.tracectlEnable (core : Nat) (kern : Nat) (value : BitVec 64) : Encoding.Statement (.tracectlEnable core kern value) := by
  intro h; cases h

theorem Encoding.monitorCsrWrite (core : Nat) (kern : Nat) (csr : BitVec 12) (value : BitVec 64) : Encoding.Statement (.monitorCsrWrite core kern csr value) := by
  intro h; cases h

theorem Encoding.ecodeRestart (core : Nat) (kern : Nat) : Encoding.Statement (.ecodeRestart core kern) := by
  intro h; cases h

theorem Encoding.ecodeDiscard (core : Nat) (kern : Nat) : Encoding.Statement (.ecodeDiscard core kern) := by
  intro h; cases h

theorem Encoding.cwmResume (core : Nat) (kern : Nat) (chan : Nat) (value : BitVec 64) : Encoding.Statement (.cwmResume core kern chan value) := by
  intro h; cases h

theorem Encoding.cwmHold (core : Nat) (kern : Nat) (chan : Nat) (value : BitVec 64) : Encoding.Statement (.cwmHold core kern chan value) := by
  intro h; cases h

theorem Encoding.ltmoWrite (die : Nat) (value : BitVec 64) : Encoding.Statement (.ltmoWrite die value) := by
  intro h; cases h

theorem Encoding.logheadWrite (die : Nat) (value : BitVec 64) : Encoding.Statement (.logheadWrite die value) := by
  intro h; cases h

theorem Encoding.registerWrite (pkg : Nat) (offset : Nat) (value : BitVec 64) : Encoding.Statement (.registerWrite pkg offset value) := by
  intro h; cases h

theorem Encoding.coreGate (core : Nat) : Encoding.Statement (.coreGate core) := by
  intro h; cases h

theorem Encoding.bentGate (bent : Nat) : Encoding.Statement (.bentGate bent) := by
  intro h; cases h

theorem Encoding.bentWakeComplete (bent : Nat) : Encoding.Statement (.bentWakeComplete bent) := by
  intro h; cases h

theorem Encoding.coreWakeComplete (core : Nat) : Encoding.Statement (.coreWakeComplete core) := by
  intro h; cases h

theorem Encoding.coreFailure (core : Nat) : Encoding.Statement (.coreFailure core) := by
  intro h; cases h

theorem Encoding.stealProbe (core : Nat) : Encoding.Statement (.stealProbe core) := by
  intro h; cases h

theorem Encoding.stealBackoffExpiry (core : Nat) : Encoding.Statement (.stealBackoffExpiry core) := by
  intro h; cases h

theorem Encoding.probeArrival (core : Nat) : Encoding.Statement (.probeArrival core) := by
  intro h; cases h

theorem Encoding.probeEmptyReply (core : Nat) : Encoding.Statement (.probeEmptyReply core) := by
  intro h; cases h

theorem Encoding.joinIncrement (core : Nat) : Encoding.Statement (.joinIncrement core) := by
  intro h; cases h

theorem Encoding.stealFrameSend (core : Nat) : Encoding.Statement (.stealFrameSend core) := by
  intro h; cases h

theorem Encoding.stolenTaskStart (core : Nat) : Encoding.Statement (.stolenTaskStart core) := by
  intro h; cases h

theorem Encoding.continuationResume (core : Nat) (slot : Nat) : Encoding.Statement (.continuationResume core slot) := by
  intro h; cases h

theorem Encoding.timeoutExamination (bent : Nat) : Encoding.Statement (.timeoutExamination bent) := by
  intro h; cases h

theorem Encoding.batchDispatch (bent : Nat) (idx : Nat) : Encoding.Statement (.batchDispatch bent idx) := by
  intro h; cases h

theorem Encoding.binLaunchOnBufferFree (bent : Nat) : Encoding.Statement (.binLaunchOnBufferFree bent) := by
  intro h; cases h

theorem Encoding.taskqReadyAppend (bent : Nat) (idx : Nat) : Encoding.Statement (.taskqReadyAppend bent idx) := by
  intro h; cases h

theorem Encoding.taskqAppendRetry (bent : Nat) (idx : Nat) : Encoding.Statement (.taskqAppendRetry bent idx) := by
  intro h; cases h

theorem Encoding.donationArrival (core : Nat) (req : Nat) : Encoding.Statement (.donationArrival core req) := by
  intro h; cases h

theorem Encoding.trussGrant (quad : Nat) : Encoding.Statement (.trussGrant quad) := by
  intro h; cases h

theorem Encoding.unitCommit (core : Nat) (stop : Bool) : Encoding.Statement (.unitCommit core stop) := by
  intro h; cases h

theorem Encoding.trussPortCommandComplete (core : Nat) : Encoding.Statement (.trussPortCommandComplete core) := by
  intro h; cases h

theorem Encoding.operandChunkSend (core : Nat) (sideB : Bool) : Encoding.Statement (.operandChunkSend core sideB) := by
  intro h; cases h

theorem Encoding.operandMessageArrival (core : Nat) : Encoding.Statement (.operandMessageArrival core) := by
  intro h; cases h

theorem Encoding.trussRuntimeFault (core : Nat) (code : BitVec 8) (addr : BitVec 64) : Encoding.Statement (.trussRuntimeFault core code addr) := by
  intro h; cases h

theorem Encoding.chainedOperationEntry (core : Nat) (kern : Nat) (chan : Nat) : Encoding.Statement (.chainedOperationEntry core kern chan) := by
  intro h; cases h

theorem Encoding.copyStart (core : Nat) (queue : Nat) : Encoding.Statement (.copyStart core queue) := by
  intro h; cases h

theorem Encoding.copyLanding (core : Nat) (kern : Nat) (chan : Nat) (first : Nat) (count : Nat) : Encoding.Statement (.copyLanding core kern chan first count) := by
  intro h; cases h

theorem Encoding.copyTranslationFault (core : Nat) (kern : Nat) (chan : Nat) : Encoding.Statement (.copyTranslationFault core kern chan) := by
  intro h; cases h

theorem Encoding.copyFault (core : Nat) (kern : Nat) (chan : Nat) (code : BitVec 8) (addr : BitVec 64) : Encoding.Statement (.copyFault core kern chan code addr) := by
  intro h; cases h

theorem Encoding.barrierArrival (bent : Nat) : Encoding.Statement (.barrierArrival bent) := by
  intro h; cases h

theorem Encoding.barrierByteCount (bent : Nat) : Encoding.Statement (.barrierByteCount bent) := by
  intro h; cases h

theorem Encoding.barrierExpect (bent : Nat) : Encoding.Statement (.barrierExpect bent) := by
  intro h; cases h

theorem Encoding.barrierWake (bent : Nat) : Encoding.Statement (.barrierWake bent) := by
  intro h; cases h

theorem Encoding.monitorCollect (bent : Nat) (index : Nat) : Encoding.Statement (.monitorCollect bent index) := by
  intro h; cases h

theorem Encoding.plumbVerdict (bent : Nat) (index : Nat) : Encoding.Statement (.plumbVerdict bent index) := by
  intro h; cases h

theorem Encoding.packetDelivery (core : Nat) : Encoding.Statement (.packetDelivery core) := by
  intro h; cases h

theorem Encoding.packetRetry (core : Nat) : Encoding.Statement (.packetRetry core) := by
  intro h; cases h

theorem Encoding.sendErrorReply (core : Nat) : Encoding.Statement (.sendErrorReply core) := by
  intro h; cases h

theorem Encoding.handlerStart (core : Nat) (kern : Nat) (queue : Nat) : Encoding.Statement (.handlerStart core kern queue) := by
  intro h; cases h

theorem Encoding.wakeTaskStart (core : Nat) (kern : Nat) (queue : Nat) : Encoding.Statement (.wakeTaskStart core kern queue) := by
  intro h; cases h

theorem Encoding.receiveArrival (core : Nat) : Encoding.Statement (.receiveArrival core) := by
  intro h; cases h

theorem Encoding.clearToSend (die : Nat) (idx : Nat) : Encoding.Statement (.clearToSend die idx) := by
  intro h; cases h

theorem Encoding.messageLanding (die : Nat) (idx : Nat) (count : Nat) : Encoding.Statement (.messageLanding die idx count) := by
  intro h; cases h

theorem Encoding.landingFault (die : Nat) (idx : Nat) : Encoding.Statement (.landingFault die idx) := by
  intro h; cases h

theorem Encoding.linkTrainingStart (link : Nat) : Encoding.Statement (.linkTrainingStart link) := by
  intro h; cases h

theorem Encoding.linkTrained (link : Nat) (width : BitVec 8) : Encoding.Statement (.linkTrained link width) := by
  intro h; cases h

theorem Encoding.ltmoExpiry (link : Nat) : Encoding.Statement (.ltmoExpiry link) := by
  intro h; cases h

theorem Encoding.laneFailure (link : Nat) (lane : BitVec 16) (far : Bool) (module : Nat) : Encoding.Statement (.laneFailure link lane far module) := by
  intro h; cases h

theorem Encoding.flitCrcError (link : Nat) : Encoding.Statement (.flitCrcError link) := by
  intro h; cases h

theorem Encoding.quiesceCommand (link : Nat) : Encoding.Statement (.quiesceCommand link) := by
  intro h; cases h

theorem Encoding.quiesceDrained (link : Nat) : Encoding.Statement (.quiesceDrained link) := by
  intro h; cases h

theorem Encoding.quiesceRelease (link : Nat) : Encoding.Statement (.quiesceRelease link) := by
  intro h; cases h

theorem Encoding.linkFailedSettle (link : Nat) : Encoding.Statement (.linkFailedSettle link) := by
  intro h; cases h

theorem Encoding.linkReset (link : Nat) : Encoding.Statement (.linkReset link) := by
  intro h; cases h

theorem Encoding.planeMaskUpdate (pkg : Nat) (mask : BitVec 36) : Encoding.Statement (.planeMaskUpdate pkg mask) := by
  intro h; cases h

theorem Encoding.dieWarmReset (die : Nat) : Encoding.Statement (.dieWarmReset die) := by
  intro h; cases h

theorem Encoding.resetWaitExpiry (die : Nat) : Encoding.Statement (.resetWaitExpiry die) := by
  intro h; cases h

theorem Encoding.dieRecallComplete (die : Nat) : Encoding.Statement (.dieRecallComplete die) := by
  intro h; cases h

theorem Encoding.dieResetComplete (die : Nat) (spares : List Nat) : Encoding.Statement (.dieResetComplete die spares) := by
  intro h; cases h

theorem Encoding.dieReturnToPlacement (die : Nat) : Encoding.Statement (.dieReturnToPlacement die) := by
  intro h; cases h

theorem Encoding.coldReset (pkg : Nat) : Encoding.Statement (.coldReset pkg) := by
  intro h; cases h

theorem Encoding.managementTakeover (pkg : Nat) : Encoding.Statement (.managementTakeover pkg) := by
  intro h; cases h

theorem Encoding.launchControllerTakeover (pkg : Nat) : Encoding.Statement (.launchControllerTakeover pkg) := by
  intro h; cases h

theorem Encoding.thermalDutyStep (die : Nat) (region : Nat) (restore : Bool) : Encoding.Statement (.thermalDutyStep die region restore) := by
  intro h; cases h

theorem Encoding.regionDegraded (die : Nat) (region : Nat) : Encoding.Statement (.regionDegraded die region) := by
  intro h; cases h

theorem Encoding.fluxWrite (die : Nat) (region : Nat) (value : BitVec 64) : Encoding.Statement (.fluxWrite die region value) := by
  intro h; cases h

theorem Encoding.patrolScrub (core : Nat) (store : BitVec 2) (word : Nat) : Encoding.Statement (.patrolScrub core store word) := by
  intro h; cases h

theorem Encoding.correctedError (core : Nat) : Encoding.Statement (.correctedError core) := by
  intro h; cases h

theorem Encoding.uncorrectableError (core : Nat) (store : BitVec 2) (word : Nat) : Encoding.Statement (.uncorrectableError core store word) := by
  intro h; cases h

theorem Encoding.getCertificate (pkg : Nat) (doe : Bool) : Encoding.Statement (.getCertificate pkg doe) := by
  intro h; cases h

theorem Encoding.challenge (pkg : Nat) (doe : Bool) (nonce : BitVec 256) : Encoding.Statement (.challenge pkg doe nonce) := by
  intro h; cases h

theorem Encoding.getMeasurements (pkg : Nat) (doe : Bool) : Encoding.Statement (.getMeasurements pkg doe) := by
  intro h; cases h

theorem Encoding.coreResetComplete (core : Nat) : Encoding.Statement (.coreResetComplete core) := by
  intro h; cases h

theorem Encoding.homeAgentRequest (die : Nat) (stack : Nat) : Encoding.Statement (.homeAgentRequest die stack) := by
  intro h; cases h

theorem Encoding.trussOperandsPresent (core : Nat) : Encoding.Statement (.trussOperandsPresent core) := by
  intro h; cases h

end Sys2Proof.Laws
end

