-- ==== Sys2Proof/Laws/State.lean ====
section
/-!
SUPPORT. Laws of maps and of the updates of the state: what each update reads as and what it leaves alone.
-/
namespace Sys2Proof.Machine

open Sys2Proof

/-! ### Maps -/

@[simp] theorem AMap.find?_set {α : Type} (m : AMap α) (k : Nat) (x : α) (j : Nat) :
    AMap.find? (AMap.set m k x) j = if j = k then some x else AMap.find? m j := by
  induction m with
  | nil => simp [AMap.set, AMap.find?, eq_comm]
  | cons p r ih =>
    obtain ⟨i, y⟩ := p
    simp only [AMap.set]
    split
    · simp only [AMap.find?, eq_comm]
    · split
      · next h => subst h; simp only [AMap.find?, eq_comm]; split <;> simp_all
      · next h => simp only [AMap.find?, ih]; split <;> simp_all; omega

@[simp] theorem AMap.getD_set {α : Type} (m : AMap α) (k : Nat) (x d : α) (j : Nat) :
    AMap.getD (AMap.set m k x) j d = if j = k then x else AMap.getD m j d := by
  simp only [AMap.getD, AMap.find?_set]; split <;> rfl

@[simp] theorem AMap.has_set {α : Type} (m : AMap α) (k : Nat) (x : α) (j : Nat) :
    AMap.has (AMap.set m k x) j = (decide (j = k) || AMap.has m j) := by
  simp only [AMap.has, AMap.find?_set]; split <;> simp_all

/-! ### Objects by key -/

@[simp] theorem State.coreAt_modCoreAt (s : State) (k : Nat) (f : Core → Core) (j : Nat) :
    (s.modCoreAt k f).coreAt j = if j = k then f (s.coreAt k) else s.coreAt j := by
  simp only [State.coreAt, State.modCoreAt, AMap.find?_set]; split <;> rfl

@[simp] theorem State.bentAt_modBentAt (s : State) (k : Nat) (f : Bent → Bent) (j : Nat) :
    (s.modBentAt k f).bentAt j = if j = k then f (s.bentAt k) else s.bentAt j := AMap.getD_set ..

@[simp] theorem State.dieAt_modDieAt (s : State) (k : Nat) (f : Die → Die) (j : Nat) :
    (s.modDieAt k f).dieAt j = if j = k then f (s.dieAt k) else s.dieAt j := AMap.getD_set ..

@[simp] theorem State.pkgAt_modPkgAt (s : State) (k : Nat) (f : Pkg → Pkg) (j : Nat) :
    (s.modPkgAt k f).pkgAt j = if j = k then f (s.pkgAt k) else s.pkgAt j := AMap.getD_set ..

@[simp] theorem State.coreAt_modBentAt (s : State) (k : Nat) (f : Bent → Bent) (j : Nat) : (s.modBentAt k f).coreAt j = s.coreAt j := rfl
@[simp] theorem State.coreAt_modDieAt (s : State) (k : Nat) (f : Die → Die) (j : Nat) : (s.modDieAt k f).coreAt j = s.coreAt j := rfl
@[simp] theorem State.coreAt_modPkgAt (s : State) (k : Nat) (f : Pkg → Pkg) (j : Nat) : (s.modPkgAt k f).coreAt j = s.coreAt j := rfl
@[simp] theorem State.bentAt_modCoreAt (s : State) (k : Nat) (f : Core → Core) (j : Nat) : (s.modCoreAt k f).bentAt j = s.bentAt j := rfl
@[simp] theorem State.bentAt_modDieAt (s : State) (k : Nat) (f : Die → Die) (j : Nat) : (s.modDieAt k f).bentAt j = s.bentAt j := rfl
@[simp] theorem State.bentAt_modPkgAt (s : State) (k : Nat) (f : Pkg → Pkg) (j : Nat) : (s.modPkgAt k f).bentAt j = s.bentAt j := rfl
@[simp] theorem State.dieAt_modCoreAt (s : State) (k : Nat) (f : Core → Core) (j : Nat) : (s.modCoreAt k f).dieAt j = s.dieAt j := rfl
@[simp] theorem State.dieAt_modBentAt (s : State) (k : Nat) (f : Bent → Bent) (j : Nat) : (s.modBentAt k f).dieAt j = s.dieAt j := rfl
@[simp] theorem State.dieAt_modPkgAt (s : State) (k : Nat) (f : Pkg → Pkg) (j : Nat) : (s.modPkgAt k f).dieAt j = s.dieAt j := rfl
@[simp] theorem State.pkgAt_modCoreAt (s : State) (k : Nat) (f : Core → Core) (j : Nat) : (s.modCoreAt k f).pkgAt j = s.pkgAt j := rfl
@[simp] theorem State.pkgAt_modBentAt (s : State) (k : Nat) (f : Bent → Bent) (j : Nat) : (s.modBentAt k f).pkgAt j = s.pkgAt j := rfl
@[simp] theorem State.pkgAt_modDieAt (s : State) (k : Nat) (f : Die → Die) (j : Nat) : (s.modDieAt k f).pkgAt j = s.pkgAt j := rfl

/-! ### Fields that an update leaves alone -/

@[simp] theorem State.modCoreAt_agenda (s : State) (k : Nat) (f : Core → Core) : (s.modCoreAt k f).agenda = s.agenda := rfl
@[simp] theorem State.modCoreAt_cur (s : State) (k : Nat) (f : Core → Core) : (s.modCoreAt k f).cur = s.cur := rfl
@[simp] theorem State.modCoreAt_cycle (s : State) (k : Nat) (f : Core → Core) : (s.modCoreAt k f).cycle = s.cycle := rfl
@[simp] theorem State.modCoreAt_fresh (s : State) (k : Nat) (f : Core → Core) : (s.modCoreAt k f).fresh = s.fresh := rfl
@[simp] theorem State.modCoreAt_mem (s : State) (k : Nat) (f : Core → Core) : (s.modCoreAt k f).mem = s.mem := rfl
@[simp] theorem State.modCoreAt_poison (s : State) (k : Nat) (f : Core → Core) : (s.modCoreAt k f).poison = s.poison := rfl
@[simp] theorem State.modCoreAt_domain (s : State) (k : Nat) (f : Core → Core) : (s.modCoreAt k f).domain = s.domain := rfl
@[simp] theorem State.modCoreAt_bents (s : State) (k : Nat) (f : Core → Core) : (s.modCoreAt k f).bents = s.bents := rfl
@[simp] theorem State.modCoreAt_dies (s : State) (k : Nat) (f : Core → Core) : (s.modCoreAt k f).dies = s.dies := rfl
@[simp] theorem State.modCoreAt_pkgs (s : State) (k : Nat) (f : Core → Core) : (s.modCoreAt k f).pkgs = s.pkgs := rfl

@[simp] theorem State.modBentAt_agenda (s : State) (k : Nat) (f : Bent → Bent) : (s.modBentAt k f).agenda = s.agenda := rfl
@[simp] theorem State.modBentAt_cur (s : State) (k : Nat) (f : Bent → Bent) : (s.modBentAt k f).cur = s.cur := rfl
@[simp] theorem State.modBentAt_cycle (s : State) (k : Nat) (f : Bent → Bent) : (s.modBentAt k f).cycle = s.cycle := rfl
@[simp] theorem State.modBentAt_fresh (s : State) (k : Nat) (f : Bent → Bent) : (s.modBentAt k f).fresh = s.fresh := rfl
@[simp] theorem State.modBentAt_mem (s : State) (k : Nat) (f : Bent → Bent) : (s.modBentAt k f).mem = s.mem := rfl
@[simp] theorem State.modBentAt_poison (s : State) (k : Nat) (f : Bent → Bent) : (s.modBentAt k f).poison = s.poison := rfl
@[simp] theorem State.modBentAt_cores (s : State) (k : Nat) (f : Bent → Bent) : (s.modBentAt k f).cores = s.cores := rfl
@[simp] theorem State.modBentAt_domain (s : State) (k : Nat) (f : Bent → Bent) : (s.modBentAt k f).domain = s.domain := rfl
@[simp] theorem State.modBentAt_dies (s : State) (k : Nat) (f : Bent → Bent) : (s.modBentAt k f).dies = s.dies := rfl
@[simp] theorem State.modBentAt_pkgs (s : State) (k : Nat) (f : Bent → Bent) : (s.modBentAt k f).pkgs = s.pkgs := rfl

@[simp] theorem State.modDieAt_agenda (s : State) (k : Nat) (f : Die → Die) : (s.modDieAt k f).agenda = s.agenda := rfl
@[simp] theorem State.modDieAt_cur (s : State) (k : Nat) (f : Die → Die) : (s.modDieAt k f).cur = s.cur := rfl
@[simp] theorem State.modDieAt_cycle (s : State) (k : Nat) (f : Die → Die) : (s.modDieAt k f).cycle = s.cycle := rfl
@[simp] theorem State.modDieAt_fresh (s : State) (k : Nat) (f : Die → Die) : (s.modDieAt k f).fresh = s.fresh := rfl
@[simp] theorem State.modDieAt_mem (s : State) (k : Nat) (f : Die → Die) : (s.modDieAt k f).mem = s.mem := rfl
@[simp] theorem State.modDieAt_poison (s : State) (k : Nat) (f : Die → Die) : (s.modDieAt k f).poison = s.poison := rfl
@[simp] theorem State.modDieAt_cores (s : State) (k : Nat) (f : Die → Die) : (s.modDieAt k f).cores = s.cores := rfl
@[simp] theorem State.modDieAt_domain (s : State) (k : Nat) (f : Die → Die) : (s.modDieAt k f).domain = s.domain := rfl
@[simp] theorem State.modDieAt_bents (s : State) (k : Nat) (f : Die → Die) : (s.modDieAt k f).bents = s.bents := rfl
@[simp] theorem State.modDieAt_pkgs (s : State) (k : Nat) (f : Die → Die) : (s.modDieAt k f).pkgs = s.pkgs := rfl

@[simp] theorem State.modPkgAt_agenda (s : State) (k : Nat) (f : Pkg → Pkg) : (s.modPkgAt k f).agenda = s.agenda := rfl
@[simp] theorem State.modPkgAt_cur (s : State) (k : Nat) (f : Pkg → Pkg) : (s.modPkgAt k f).cur = s.cur := rfl
@[simp] theorem State.modPkgAt_cycle (s : State) (k : Nat) (f : Pkg → Pkg) : (s.modPkgAt k f).cycle = s.cycle := rfl
@[simp] theorem State.modPkgAt_fresh (s : State) (k : Nat) (f : Pkg → Pkg) : (s.modPkgAt k f).fresh = s.fresh := rfl
@[simp] theorem State.modPkgAt_mem (s : State) (k : Nat) (f : Pkg → Pkg) : (s.modPkgAt k f).mem = s.mem := rfl
@[simp] theorem State.modPkgAt_poison (s : State) (k : Nat) (f : Pkg → Pkg) : (s.modPkgAt k f).poison = s.poison := rfl
@[simp] theorem State.modPkgAt_cores (s : State) (k : Nat) (f : Pkg → Pkg) : (s.modPkgAt k f).cores = s.cores := rfl
@[simp] theorem State.modPkgAt_domain (s : State) (k : Nat) (f : Pkg → Pkg) : (s.modPkgAt k f).domain = s.domain := rfl
@[simp] theorem State.modPkgAt_bents (s : State) (k : Nat) (f : Pkg → Pkg) : (s.modPkgAt k f).bents = s.bents := rfl
@[simp] theorem State.modPkgAt_dies (s : State) (k : Nat) (f : Pkg → Pkg) : (s.modPkgAt k f).dies = s.dies := rfl

@[simp] theorem State.modCore_agenda (s : State) (f : Core → Core) : (s.modCore f).agenda = s.agenda := rfl
@[simp] theorem State.modCore_cur (s : State) (f : Core → Core) : (s.modCore f).cur = s.cur := rfl
@[simp] theorem State.modCore_cycle (s : State) (f : Core → Core) : (s.modCore f).cycle = s.cycle := rfl
@[simp] theorem State.modCore_fresh (s : State) (f : Core → Core) : (s.modCore f).fresh = s.fresh := rfl
@[simp] theorem State.modCore_mem (s : State) (f : Core → Core) : (s.modCore f).mem = s.mem := rfl
@[simp] theorem State.modCore_poison (s : State) (f : Core → Core) : (s.modCore f).poison = s.poison := rfl
@[simp] theorem State.modCore_domain (s : State) (f : Core → Core) : (s.modCore f).domain = s.domain := rfl
@[simp] theorem State.modCore_bents (s : State) (f : Core → Core) : (s.modCore f).bents = s.bents := rfl
@[simp] theorem State.modCore_dies (s : State) (f : Core → Core) : (s.modCore f).dies = s.dies := rfl
@[simp] theorem State.modCore_pkgs (s : State) (f : Core → Core) : (s.modCore f).pkgs = s.pkgs := rfl

@[simp] theorem State.modSlot_agenda (s : State) (f : Slot → Slot) : (s.modSlot f).agenda = s.agenda := rfl
@[simp] theorem State.modSlot_cur (s : State) (f : Slot → Slot) : (s.modSlot f).cur = s.cur := rfl
@[simp] theorem State.modSlot_cycle (s : State) (f : Slot → Slot) : (s.modSlot f).cycle = s.cycle := rfl
@[simp] theorem State.modSlot_fresh (s : State) (f : Slot → Slot) : (s.modSlot f).fresh = s.fresh := rfl
@[simp] theorem State.modSlot_mem (s : State) (f : Slot → Slot) : (s.modSlot f).mem = s.mem := rfl
@[simp] theorem State.modSlot_poison (s : State) (f : Slot → Slot) : (s.modSlot f).poison = s.poison := rfl
@[simp] theorem State.modSlot_domain (s : State) (f : Slot → Slot) : (s.modSlot f).domain = s.domain := rfl
@[simp] theorem State.modSlot_bents (s : State) (f : Slot → Slot) : (s.modSlot f).bents = s.bents := rfl
@[simp] theorem State.modSlot_dies (s : State) (f : Slot → Slot) : (s.modSlot f).dies = s.dies := rfl
@[simp] theorem State.modSlot_pkgs (s : State) (f : Slot → Slot) : (s.modSlot f).pkgs = s.pkgs := rfl

@[simp] theorem State.modSlotOf_agenda (s : State) (core slot : Nat) (f : Slot → Slot) : (s.modSlotOf core slot f).agenda = s.agenda := rfl
@[simp] theorem State.modSlotOf_cur (s : State) (core slot : Nat) (f : Slot → Slot) : (s.modSlotOf core slot f).cur = s.cur := rfl
@[simp] theorem State.modSlotOf_cycle (s : State) (core slot : Nat) (f : Slot → Slot) : (s.modSlotOf core slot f).cycle = s.cycle := rfl
@[simp] theorem State.modSlotOf_fresh (s : State) (core slot : Nat) (f : Slot → Slot) : (s.modSlotOf core slot f).fresh = s.fresh := rfl
@[simp] theorem State.modSlotOf_mem (s : State) (core slot : Nat) (f : Slot → Slot) : (s.modSlotOf core slot f).mem = s.mem := rfl
@[simp] theorem State.modSlotOf_poison (s : State) (core slot : Nat) (f : Slot → Slot) : (s.modSlotOf core slot f).poison = s.poison := rfl
@[simp] theorem State.modSlotOf_domain (s : State) (core slot : Nat) (f : Slot → Slot) : (s.modSlotOf core slot f).domain = s.domain := rfl
@[simp] theorem State.modSlotOf_bents (s : State) (core slot : Nat) (f : Slot → Slot) : (s.modSlotOf core slot f).bents = s.bents := rfl
@[simp] theorem State.modSlotOf_dies (s : State) (core slot : Nat) (f : Slot → Slot) : (s.modSlotOf core slot f).dies = s.dies := rfl
@[simp] theorem State.modSlotOf_pkgs (s : State) (core slot : Nat) (f : Slot → Slot) : (s.modSlotOf core slot f).pkgs = s.pkgs := rfl

@[simp] theorem State.modBent_agenda (s : State) (f : Bent → Bent) : (s.modBent f).agenda = s.agenda := rfl
@[simp] theorem State.modBent_cur (s : State) (f : Bent → Bent) : (s.modBent f).cur = s.cur := rfl
@[simp] theorem State.modBent_cycle (s : State) (f : Bent → Bent) : (s.modBent f).cycle = s.cycle := rfl
@[simp] theorem State.modBent_fresh (s : State) (f : Bent → Bent) : (s.modBent f).fresh = s.fresh := rfl
@[simp] theorem State.modBent_mem (s : State) (f : Bent → Bent) : (s.modBent f).mem = s.mem := rfl
@[simp] theorem State.modBent_poison (s : State) (f : Bent → Bent) : (s.modBent f).poison = s.poison := rfl
@[simp] theorem State.modBent_cores (s : State) (f : Bent → Bent) : (s.modBent f).cores = s.cores := rfl
@[simp] theorem State.modBent_domain (s : State) (f : Bent → Bent) : (s.modBent f).domain = s.domain := rfl
@[simp] theorem State.modBent_dies (s : State) (f : Bent → Bent) : (s.modBent f).dies = s.dies := rfl
@[simp] theorem State.modBent_pkgs (s : State) (f : Bent → Bent) : (s.modBent f).pkgs = s.pkgs := rfl

@[simp] theorem State.bump_agenda (s : State) : (s.bump).agenda = s.agenda := rfl
@[simp] theorem State.bump_cur (s : State) : (s.bump).cur = s.cur := rfl
@[simp] theorem State.bump_cycle (s : State) : (s.bump).cycle = s.cycle := rfl
@[simp] theorem State.bump_mem (s : State) : (s.bump).mem = s.mem := rfl
@[simp] theorem State.bump_poison (s : State) : (s.bump).poison = s.poison := rfl
@[simp] theorem State.bump_cores (s : State) : (s.bump).cores = s.cores := rfl
@[simp] theorem State.bump_domain (s : State) : (s.bump).domain = s.domain := rfl
@[simp] theorem State.bump_bents (s : State) : (s.bump).bents = s.bents := rfl
@[simp] theorem State.bump_dies (s : State) : (s.bump).dies = s.dies := rfl
@[simp] theorem State.bump_pkgs (s : State) : (s.bump).pkgs = s.pkgs := rfl

@[simp] theorem Core.count_phys (c : Core) (ctr n : Nat) : (c.count ctr n).phys = c.phys := rfl
@[simp] theorem Core.count_schk (c : Core) (ctr n : Nat) : (c.count ctr n).schk = c.schk := rfl
@[simp] theorem Core.count_fencetrap (c : Core) (ctr n : Nat) : (c.count ctr n).fencetrap = c.fencetrap := rfl
@[simp] theorem Core.count_yard (c : Core) (ctr n : Nat) : (c.count ctr n).yard = c.yard := rfl
@[simp] theorem Core.count_curSlot (c : Core) (ctr n : Nat) : (c.count ctr n).curSlot = c.curSlot := rfl
@[simp] theorem Core.count_switchAt (c : Core) (ctr n : Nat) : (c.count ctr n).switchAt = c.switchAt := rfl
@[simp] theorem Core.count_ctxs (c : Core) (ctr n : Nat) : (c.count ctr n).ctxs = c.ctxs := rfl
@[simp] theorem Core.count_wstore (c : Core) (ctr n : Nat) : (c.count ctr n).wstore = c.wstore := rfl
@[simp] theorem Core.count_astore (c : Core) (ctr n : Nat) : (c.count ctr n).astore = c.astore := rfl
@[simp] theorem Core.count_cstore (c : Core) (ctr n : Nat) : (c.count ctr n).cstore = c.cstore := rfl
@[simp] theorem Core.count_slots (c : Core) (ctr n : Nat) : (c.count ctr n).slots = c.slots := rfl
@[simp] theorem Core.count_l1 (c : Core) (ctr n : Nat) : (c.count ctr n).l1 = c.l1 := rfl
@[simp] theorem Core.count_l1i (c : Core) (ctr n : Nat) : (c.count ctr n).l1i = c.l1i := rfl
@[simp] theorem Core.count_utlb (c : Core) (ctr n : Nat) : (c.count ctr n).utlb = c.utlb := rfl
@[simp] theorem Core.count_requests (c : Core) (ctr n : Nat) : (c.count ctr n).requests = c.requests := rfl
@[simp] theorem Core.count_nextReq (c : Core) (ctr n : Nat) : (c.count ctr n).nextReq = c.nextReq := rfl
@[simp] theorem Core.count_truss (c : Core) (ctr n : Nat) : (c.count ctr n).truss = c.truss := rfl
@[simp] theorem Core.count_deque (c : Core) (ctr n : Nat) : (c.count ctr n).deque = c.deque := rfl
@[simp] theorem Core.count_copyq (c : Core) (ctr n : Nat) : (c.count ctr n).copyq = c.copyq := rfl

@[simp] theorem State.retireAt_agenda (s : State) (next : Word) (a b : Nat) : (s.retireAt next a b).agenda = s.agenda := rfl
@[simp] theorem State.retireAt_cur (s : State) (next : Word) (a b : Nat) : (s.retireAt next a b).cur = s.cur := rfl
@[simp] theorem State.retireAt_cycle (s : State) (next : Word) (a b : Nat) : (s.retireAt next a b).cycle = s.cycle := rfl
@[simp] theorem State.retireAt_fresh (s : State) (next : Word) (a b : Nat) : (s.retireAt next a b).fresh = s.fresh := rfl
@[simp] theorem State.retireAt_mem (s : State) (next : Word) (a b : Nat) : (s.retireAt next a b).mem = s.mem := rfl
@[simp] theorem State.retireAt_poison (s : State) (next : Word) (a b : Nat) : (s.retireAt next a b).poison = s.poison := rfl
@[simp] theorem State.retireAt_domain (s : State) (next : Word) (a b : Nat) : (s.retireAt next a b).domain = s.domain := rfl
@[simp] theorem State.retireAt_bents (s : State) (next : Word) (a b : Nat) : (s.retireAt next a b).bents = s.bents := rfl
@[simp] theorem State.retireAt_dies (s : State) (next : Word) (a b : Nat) : (s.retireAt next a b).dies = s.dies := rfl
@[simp] theorem State.retireAt_pkgs (s : State) (next : Word) (a b : Nat) : (s.retireAt next a b).pkgs = s.pkgs := rfl

@[simp] theorem State.putG_agenda (s : State) (r : BitVec 5) (x : Word) (lat : Nat) (fixed taint : Bool) :
    (s.putG r x lat fixed taint).agenda = s.agenda := by unfold State.putG; split <;> rfl
@[simp] theorem State.putG_cur (s : State) (r : BitVec 5) (x : Word) (lat : Nat) (fixed taint : Bool) :
    (s.putG r x lat fixed taint).cur = s.cur := by unfold State.putG; split <;> rfl
@[simp] theorem State.putG_cycle (s : State) (r : BitVec 5) (x : Word) (lat : Nat) (fixed taint : Bool) :
    (s.putG r x lat fixed taint).cycle = s.cycle := by unfold State.putG; split <;> rfl
@[simp] theorem State.putG_fresh (s : State) (r : BitVec 5) (x : Word) (lat : Nat) (fixed taint : Bool) :
    (s.putG r x lat fixed taint).fresh = s.fresh := by unfold State.putG; split <;> rfl
@[simp] theorem State.putG_mem (s : State) (r : BitVec 5) (x : Word) (lat : Nat) (fixed taint : Bool) :
    (s.putG r x lat fixed taint).mem = s.mem := by unfold State.putG; split <;> rfl
@[simp] theorem State.putG_poison (s : State) (r : BitVec 5) (x : Word) (lat : Nat) (fixed taint : Bool) :
    (s.putG r x lat fixed taint).poison = s.poison := by unfold State.putG; split <;> rfl
@[simp] theorem State.putG_domain (s : State) (r : BitVec 5) (x : Word) (lat : Nat) (fixed taint : Bool) :
    (s.putG r x lat fixed taint).domain = s.domain := by unfold State.putG; split <;> rfl
@[simp] theorem State.putG_bents (s : State) (r : BitVec 5) (x : Word) (lat : Nat) (fixed taint : Bool) :
    (s.putG r x lat fixed taint).bents = s.bents := by unfold State.putG; split <;> rfl
@[simp] theorem State.putG_dies (s : State) (r : BitVec 5) (x : Word) (lat : Nat) (fixed taint : Bool) :
    (s.putG r x lat fixed taint).dies = s.dies := by unfold State.putG; split <;> rfl
@[simp] theorem State.putG_pkgs (s : State) (r : BitVec 5) (x : Word) (lat : Nat) (fixed taint : Bool) :
    (s.putG r x lat fixed taint).pkgs = s.pkgs := by unfold State.putG; split <;> rfl

/-! ### The current core and slot -/

@[simp] theorem State.core_modCore (s : State) (f : Core → Core) : (s.modCore f).core = f s.core := by
  simp [State.core, State.modCore]

@[simp] theorem State.slot_modSlot (s : State) (f : Slot → Slot) : (s.modSlot f).slot = f s.slot := by
  simp [State.slot, State.modSlot]

@[simp] theorem State.core_modSlot (s : State) (f : Slot → Slot) :
    (s.modSlot f).core = { s.core with slots := s.core.slots.set s.core.curSlot (f s.slot) } := by
  simp [State.modSlot, State.slot]

theorem State.coreAt_modCore_of_ne (s : State) (f : Core → Core) (j : Nat) (h : j ≠ s.cur) : (s.modCore f).coreAt j = s.coreAt j := by
  simp [State.modCore, h]

theorem State.coreAt_modSlot_of_ne (s : State) (f : Slot → Slot) (j : Nat) (h : j ≠ s.cur) : (s.modSlot f).coreAt j = s.coreAt j :=
  State.coreAt_modCore_of_ne s _ j h

@[simp] theorem Core.slotAt_modSlotAt (c : Core) (n : Nat) (f : Slot → Slot) (j : Nat) :
    (c.modSlotAt n f).slotAt j = if j = n ∧ n < 8 then f (c.slotAt n) else c.slotAt j := by
  unfold Core.slotAt Core.modSlotAt
  split <;> split <;> simp_all [Vector.getElem_set] <;> split <;> simp_all <;> omega

@[simp] theorem State.slotOf_modSlotOf (s : State) (core n : Nat) (f : Slot → Slot) (j : Nat) :
    (s.modSlotOf core n f).slotOf core j = if j = n ∧ n < 8 then f (s.slotOf core n) else s.slotOf core j := by
  simp [State.slotOf, State.modSlotOf]

@[simp] theorem Core.ctxAt_modCtxAt (c : Core) (k : Nat) (f : Ctx → Ctx) (j : Nat) :
    (c.modCtxAt k f).ctxAt j = if j = k then f (c.ctxAt k) else c.ctxAt j := AMap.getD_set ..

end Sys2Proof.Machine
end

