-- ==== Sys2Proof/Laws/Registers.lean ====
section
/-!
SUPPORT. Laws of registers: writing one and reading another, results in flight and their landing, and what delivering a
result and retiring leave alone.
-/
namespace Sys2Proof.Machine

open Sys2Proof Sys2Proof.Safety

/-! ### Writing one register -/

@[simp] theorem Slot.readG_zero (sl : Slot) : sl.readG 0 = 0 := rfl

theorem Slot.readG_setG (sl : Slot) (r : BitVec 5) (x : Word) (taint : Bool) (q : BitVec 5) :
    (sl.setG r x taint).readG q = if q = r ∧ q ≠ 0 then x else sl.readG q := by
  unfold Slot.setG
  by_cases h0 : r = 0
  · rw [if_pos h0]; subst h0; grind
  · rw [if_neg h0]
    unfold Slot.readG
    by_cases hq : q = 0
    · simp only [hq, if_true, ne_eq, not_true, and_false, if_false]
    · by_cases h : q = r
      · subst h; simp only [hq, if_false, Vector.getElem_set_self, ne_eq, not_false_iff, and_self, if_true]
      · have : r.toNat ≠ q.toNat := fun e => h (BitVec.eq_of_toNat_eq e.symm)
        simp only [hq, h, if_false, false_and, Vector.getElem_set_ne _ _ this]

theorem Slot.readTaint_setG (sl : Slot) (r : BitVec 5) (x : Word) (taint : Bool) (q : BitVec 5) :
    (sl.setG r x taint).readTaint q = if q = r ∧ q ≠ 0 then taint && sl.te else sl.readTaint q := by
  unfold Slot.setG
  by_cases h0 : r = 0
  · rw [if_pos h0]; subst h0; grind
  · rw [if_neg h0]
    unfold Slot.readTaint
    by_cases hq : q = 0
    · simp only [hq, if_true, ne_eq, not_true, and_false, if_false]
    · have hq2 := q.isLt
      by_cases h : q = r
      · subst h
        have hx : (1#32 <<< q.toNat).getLsbD q.toNat = true := by simp; omega
        simp only [hq, if_false, ne_eq, not_false_iff, and_self, if_true]
        cases taint <;> cases sl.te <;> simp [hx]
      · have : q.toNat ≠ r.toNat := fun e => h (BitVec.eq_of_toNat_eq e)
        have hx : (1#32 <<< r.toNat).getLsbD q.toNat = false := by
          simp only [BitVec.getLsbD_shiftLeft, BitVec.getLsbD_one]; grind
        simp only [hq, h, if_false, false_and]
        split <;> simp only [BitVec.getLsbD_or, BitVec.getLsbD_and, BitVec.getLsbD_not, hx] <;> simp <;> omega

theorem Slot.readV_setG (sl : Slot) (r : BitVec 5) (x : Word) (taint : Bool) (q : BitVec 5) :
    (sl.setG r x taint).readV q = sl.readV q := by unfold Slot.setG; split <;> rfl

theorem Slot.readV_setV (sl : Slot) (r : BitVec 5) (x mask : Vec) (q : BitVec 5) :
    (sl.setV r x mask).readV q = if q = r ∧ q.toNat < 24 then (sl.readV q &&& ~~~mask) ||| (x &&& mask) else sl.readV q := by
  unfold Slot.setV Slot.readV
  by_cases hq : q.toNat < 24
  · by_cases h : q = r
    · subst h; simp [hq]
    · have : r.toNat ≠ q.toNat := fun e => h (BitVec.eq_of_toNat_eq e.symm)
      by_cases hr : r.toNat < 24 <;> simp [hr, hq, h, this]
  · by_cases hr : r.toNat < 24 <;> simp [hq]

theorem Slot.readG_setV (sl : Slot) (r : BitVec 5) (x mask : Vec) (q : BitVec 5) :
    (sl.setV r x mask).readG q = sl.readG q := by unfold Slot.setV; split <;> rfl

theorem Slot.readTaint_setV (sl : Slot) (r : BitVec 5) (x mask : Vec) (q : BitVec 5) :
    (sl.setV r x mask).readTaint q = sl.readTaint q := by unfold Slot.setV; split <;> rfl

/-! ### A result that lands -/

theorem Slot.readG_apply (sl : Slot) (p : Pending) (q : BitVec 5) :
    (sl.apply p).readG q = if p.reg = .g q ∧ q ≠ 0 then p.value.setWidth 64 else sl.readG q := by
  unfold Slot.apply
  split
  · next r e => rw [Slot.readG_setG, e]; simp only [Reg.g.injEq, eq_comm (a := q) (b := r)]
  · next r e => rw [Slot.readG_setV, e]; simp

theorem Slot.readTaint_apply (sl : Slot) (p : Pending) (q : BitVec 5) :
    (sl.apply p).readTaint q = if p.reg = .g q ∧ q ≠ 0 then p.taint && sl.te else sl.readTaint q := by
  unfold Slot.apply
  split
  · next r e => rw [Slot.readTaint_setG, e]; simp only [Reg.g.injEq, eq_comm (a := q) (b := r)]
  · next r e => rw [Slot.readTaint_setV, e]; simp

theorem Slot.readV_apply (sl : Slot) (p : Pending) (q : BitVec 5) :
    (sl.apply p).readV q = if p.reg = .v q ∧ q.toNat < 24 then (sl.readV q &&& ~~~p.mask) ||| (p.value &&& p.mask) else sl.readV q := by
  unfold Slot.apply
  split
  · next r e => rw [Slot.readV_setG, e]; simp
  · next r e => rw [Slot.readV_setV, e]; simp only [Reg.v.injEq, eq_comm (a := q) (b := r)]

/-- A landing result changes nothing but registers and taint. -/
theorem Slot.apply_frame (sl : Slot) (p : Pending) :
    sl.apply p = { sl with g := (sl.apply p).g, taint := (sl.apply p).taint, v := (sl.apply p).v } := by
  unfold Slot.apply Slot.setG Slot.setV; split <;> split <;> rfl

@[simp] theorem Slot.te_apply (sl : Slot) (p : Pending) : (sl.apply p).te = sl.te := by rw [Slot.apply_frame]
@[simp] theorem Slot.pend_apply (sl : Slot) (p : Pending) : (sl.apply p).pend = sl.pend := by rw [Slot.apply_frame]

/-- Results that land one after another change nothing but registers and taint. -/
theorem Slot.foldl_apply_frame (l : List Pending) (sl : Slot) :
    l.foldl Slot.apply sl =
      { sl with g := (l.foldl Slot.apply sl).g, taint := (l.foldl Slot.apply sl).taint, v := (l.foldl Slot.apply sl).v } := by
  induction l generalizing sl with
  | nil => rfl
  | cons p l ih => rw [List.foldl_cons, ih, Slot.apply_frame]

/-- Landing every result in flight changes nothing but registers, taint and the list of results in flight. -/
theorem Slot.landAll_frame (sl : Slot) :
    sl.landAll = { sl with g := sl.landAll.g, taint := sl.landAll.taint, v := sl.landAll.v, pend := sl.landAll.pend } := by
  unfold Slot.landAll
  rw [Slot.foldl_apply_frame]

/-- A register that no result in flight names holds its value after they have landed. -/
theorem Slot.readG_foldl_apply (l : List Pending) (sl : Slot) (q : BitVec 5) (h : ∀ p ∈ l, p.reg ≠ .g q) :
    (l.foldl Slot.apply sl).readG q = sl.readG q := by
  induction l generalizing sl with
  | nil => rfl
  | cons p l ih =>
    have hp := h p (by simp)
    rw [List.foldl_cons, ih _ (fun x hx => h x (by simp [hx])), Slot.readG_apply]; simp [hp]

theorem Slot.readTaint_foldl_apply (l : List Pending) (sl : Slot) (q : BitVec 5) (h : ∀ p ∈ l, p.reg ≠ .g q) :
    (l.foldl Slot.apply sl).readTaint q = sl.readTaint q := by
  induction l generalizing sl with
  | nil => rfl
  | cons p l ih =>
    have hp := h p (by simp)
    rw [List.foldl_cons, ih _ (fun x hx => h x (by simp [hx])), Slot.readTaint_apply]; simp [hp]

theorem Slot.readV_foldl_apply (l : List Pending) (sl : Slot) (q : BitVec 5) (h : ∀ p ∈ l, p.reg ≠ .v q) :
    (l.foldl Slot.apply sl).readV q = sl.readV q := by
  induction l generalizing sl with
  | nil => rfl
  | cons p l ih =>
    have hp := h p (by simp)
    rw [List.foldl_cons, ih _ (fun x hx => h x (by simp [hx])), Slot.readV_apply]; simp [hp]

/-- What a register reads after results landed depends on nothing but the register and taint enable before. -/
theorem Slot.readG_foldl_congr (l : List Pending) (a b : Slot) (q : BitVec 5) (h : a.readG q = b.readG q) :
    (l.foldl Slot.apply a).readG q = (l.foldl Slot.apply b).readG q := by
  induction l generalizing a b with
  | nil => exact h
  | cons p l ih => exact ih _ _ (by rw [Slot.readG_apply, Slot.readG_apply, h])

theorem Slot.readTaint_foldl_congr (l : List Pending) (a b : Slot) (q : BitVec 5) (h : a.readTaint q = b.readTaint q) (ht : a.te = b.te) :
    (l.foldl Slot.apply a).readTaint q = (l.foldl Slot.apply b).readTaint q := by
  induction l generalizing a b with
  | nil => exact h
  | cons p l ih => exact ih _ _ (by rw [Slot.readTaint_apply, Slot.readTaint_apply, h, ht]) (by simp [ht])

theorem Slot.readV_foldl_congr (l : List Pending) (a b : Slot) (q : BitVec 5) (h : a.readV q = b.readV q) :
    (l.foldl Slot.apply a).readV q = (l.foldl Slot.apply b).readV q := by
  induction l generalizing a b with
  | nil => exact h
  | cons p l ih => exact ih _ _ (by rw [Slot.readV_apply, Slot.readV_apply, h])

/-! ### Delivering a result -/

/-- Delivering a result changes nothing but registers, taint and the list of results in flight. -/
theorem Slot.deliver_frame (sl : Slot) (t lat : Nat) (fixed : Bool) (r : Reg) (x mask : Vec) (taint : Bool) :
    sl.deliver t lat fixed r x mask taint =
      { sl with
        g := (sl.deliver t lat fixed r x mask taint).g, taint := (sl.deliver t lat fixed r x mask taint).taint
        v := (sl.deliver t lat fixed r x mask taint).v, pend := (sl.deliver t lat fixed r x mask taint).pend } := by
  unfold Slot.deliver
  split
  · rw [Slot.apply_frame]
  · rfl

/-- Once everything in flight has landed, the register holds the delivered result and the others what they would have held. -/
theorem Slot.landAll_deliver_readG (sl : Slot) (t lat : Nat) (fixed : Bool) (r : Reg) (x mask : Vec) (taint : Bool) (q : BitVec 5) :
    (sl.deliver t lat fixed r x mask taint).landAll.readG q = if r = .g q ∧ q ≠ 0 then x.setWidth 64 else sl.landAll.readG q := by
  unfold Slot.deliver
  split
  · next h =>
    simp only [Bool.and_eq_true, List.all_eq_true, decide_eq_true_eq] at h
    change ((sl.apply _).pend.foldl Slot.apply (sl.apply _)).readG q = if _ then _ else (sl.pend.foldl Slot.apply sl).readG q
    rw [Slot.pend_apply]
    by_cases hr : r = .g q
    · rw [Slot.readG_foldl_apply _ _ _ (by rw [← hr]; exact fun p hp => by simpa using h.2 p hp), Slot.readG_apply]
      by_cases h0 : q = 0
      · subst h0; rfl
      · rw [if_pos ⟨hr, h0⟩, if_pos ⟨hr, h0⟩]
    · rw [Slot.readG_foldl_congr _ _ sl q (by rw [Slot.readG_apply]; simp [hr])]; simp [hr]
  · change (List.foldl Slot.apply _ (sl.pend ++ [_])).readG q = if _ then _ else (sl.pend.foldl Slot.apply sl).readG q
    rw [List.foldl_append]
    simp only [List.foldl_cons, List.foldl_nil, Slot.readG_apply]
    split
    · rfl
    · exact Slot.readG_foldl_congr _ _ _ _ rfl

theorem Slot.landAll_deliver_readTaint (sl : Slot) (t lat : Nat) (fixed : Bool) (r : Reg) (x mask : Vec) (taint : Bool) (q : BitVec 5) :
    (sl.deliver t lat fixed r x mask taint).landAll.readTaint q =
      if r = .g q ∧ q ≠ 0 then taint && sl.te else sl.landAll.readTaint q := by
  unfold Slot.deliver
  split
  · next h =>
    simp only [Bool.and_eq_true, List.all_eq_true, decide_eq_true_eq] at h
    change ((sl.apply _).pend.foldl Slot.apply (sl.apply _)).readTaint q = if _ then _ else (sl.pend.foldl Slot.apply sl).readTaint q
    rw [Slot.pend_apply]
    by_cases hr : r = .g q
    · rw [Slot.readTaint_foldl_apply _ _ _ (by rw [← hr]; exact fun p hp => by simpa using h.2 p hp), Slot.readTaint_apply]
      by_cases h0 : q = 0
      · subst h0; rfl
      · rw [if_pos ⟨hr, h0⟩, if_pos ⟨hr, h0⟩]
    · rw [Slot.readTaint_foldl_congr _ _ sl q (by rw [Slot.readTaint_apply]; simp [hr]) (by simp)]; simp [hr]
  · change (List.foldl Slot.apply _ (sl.pend ++ [_])).readTaint q = if _ then _ else (sl.pend.foldl Slot.apply sl).readTaint q
    rw [List.foldl_append]
    simp only [List.foldl_cons, List.foldl_nil, Slot.readTaint_apply]
    split
    · rw [Slot.foldl_apply_frame]
    · exact Slot.readTaint_foldl_congr _ _ _ _ rfl rfl

theorem Slot.landAll_deliver_readV (sl : Slot) (t lat : Nat) (fixed : Bool) (r : Reg) (x mask : Vec) (taint : Bool) (q : BitVec 5) :
    (sl.deliver t lat fixed r x mask taint).landAll.readV q =
      if r = .v q ∧ q.toNat < 24 then (sl.landAll.readV q &&& ~~~mask) ||| (x &&& mask) else sl.landAll.readV q := by
  unfold Slot.deliver
  split
  · next h =>
    simp only [Bool.and_eq_true, List.all_eq_true, decide_eq_true_eq] at h
    change ((sl.apply _).pend.foldl Slot.apply (sl.apply _)).readV q =
      if _ then ((sl.pend.foldl Slot.apply sl).readV q &&& ~~~mask) ||| _ else (sl.pend.foldl Slot.apply sl).readV q
    rw [Slot.pend_apply]
    by_cases hr : r = .v q
    · have hp : ∀ p ∈ sl.pend, p.reg ≠ .v q := by rw [← hr]; exact fun p hp => by simpa using h.2 p hp
      rw [Slot.readV_foldl_apply _ _ _ hp, Slot.readV_foldl_apply _ sl _ hp, Slot.readV_apply]
    · rw [Slot.readV_foldl_congr _ _ sl q (by rw [Slot.readV_apply]; simp [hr])]; simp [hr]
  · change (List.foldl Slot.apply _ (sl.pend ++ [_])).readV q =
      if _ then ((sl.pend.foldl Slot.apply sl).readV q &&& ~~~mask) ||| _ else (sl.pend.foldl Slot.apply sl).readV q
    rw [List.foldl_append]
    have e : ∀ l, (sl.pend.foldl Slot.apply { sl with pend := l }).readV q = (sl.pend.foldl Slot.apply sl).readV q :=
      fun l => Slot.readV_foldl_congr _ _ _ _ rfl
    simp only [List.foldl_cons, List.foldl_nil, Slot.readV_apply, e]

/-! ### Delivering and retiring -/

theorem State.slot_putG (s : State) (r : BitVec 5) (x : Word) (lat : Nat) (fixed taint : Bool) :
    (s.putG r x lat fixed taint).slot = if r = 0 then s.slot else s.slot.deliver s.cycle lat fixed (.g r) (x.setWidth 512) allBits taint := by
  unfold State.putG; split <;> simp

theorem State.slot_modCore_keep (s : State) (f : Core → Core) (h : ∀ c, (f c).slots = c.slots ∧ (f c).curSlot = c.curSlot) :
    (s.modCore f).slot = s.slot := by
  obtain ⟨h1, h2⟩ := h s.core
  unfold State.slot
  simp only [State.core_modCore, h1, h2]

theorem State.slot_retireAt (s : State) (next : Word) (st ex : Nat) :
    (s.retireAt next st ex).slot =
      { (if s.slot.parked then s.slot.landAll else s.slot) with
        pc := next, nextIssue := s.cycle + 1 + st + ex, run := .ready, fill := [], fillErr := [], mark := none, parked := false, half := none, bwait := none, walkFault := none } := by
  unfold State.retireAt
  rw [State.slot_modCore_keep _ _ (fun c => by split <;> exact ⟨rfl, rfl⟩), State.slot_modSlot]

/-- A state in which only the core of a state and the cycle are replaced, and of the core only slots and counters. -/
theorem State.core_retireAt (s : State) (next : Word) (st ex : Nat) :
    (s.retireAt next st ex).core = { s.core with slots := (s.retireAt next st ex).core.slots, perf := (s.retireAt next st ex).core.perf } := by
  unfold State.retireAt
  simp only [State.core_modCore, State.core_modSlot]
  split <;> rfl

theorem State.slots_retireAt (s : State) (next : Word) (st ex : Nat) :
    (s.retireAt next st ex).core.slots = s.core.slots.set s.core.curSlot (s.retireAt next st ex).slot := by
  rw [State.slot_retireAt]
  unfold State.retireAt
  simp only [State.core_modCore, State.core_modSlot]
  split <;> rfl

theorem State.core_putG (s : State) (r : BitVec 5) (x : Word) (lat : Nat) (fixed taint : Bool) :
    (s.putG r x lat fixed taint).core = { s.core with slots := s.core.slots.set s.core.curSlot (s.putG r x lat fixed taint).slot } := by
  unfold State.putG
  split
  · simp [State.slot]
  · simp

theorem State.coreAt_retireAt (s : State) (next : Word) (st ex k : Nat) (h : k ≠ s.cur) :
    (s.retireAt next st ex).coreAt k = s.coreAt k := by
  unfold State.retireAt
  rw [State.coreAt_modCore_of_ne _ _ _ (by simpa using h), State.coreAt_modSlot_of_ne _ _ _ h]

theorem State.coreAt_putG (s : State) (r : BitVec 5) (x : Word) (lat : Nat) (fixed taint : Bool) (k : Nat) (h : k ≠ s.cur) :
    (s.putG r x lat fixed taint).coreAt k = s.coreAt k := by
  unfold State.putG
  split
  · rfl
  · exact State.coreAt_modSlot_of_ne _ _ _ h

/-- Landing the results in flight of a retired slot gives the registers that landing them before gave. -/
theorem State.landAll_retireAt (s : State) (next : Word) (st ex : Nat) (q : BitVec 5) :
    landedG (s.retireAt next st ex) q = landedG s q ∧ landedTaint (s.retireAt next st ex) q = landedTaint s q ∧
      landedV (s.retireAt next st ex) q = landedV s q := by
  unfold landedG landedTaint landedV
  rw [State.slot_retireAt]
  split
  · exact ⟨rfl, rfl, rfl⟩
  · exact ⟨Slot.readG_foldl_congr _ _ _ _ rfl, Slot.readTaint_foldl_congr _ _ _ _ rfl rfl, Slot.readV_foldl_congr _ _ _ _ rfl⟩

theorem State.landedG_putG (s : State) (r : BitVec 5) (x : Word) (lat : Nat) (fixed taint : Bool) (q : BitVec 5) :
    landedG (s.putG r x lat fixed taint) q = if r = q ∧ q ≠ 0 then x else landedG s q := by
  unfold landedG
  rw [State.slot_putG]
  split
  · next h => subst h; rw [if_neg (fun e => e.2 e.1.symm)]
  · rw [Slot.landAll_deliver_readG]; simp

theorem State.landedTaint_putG (s : State) (r : BitVec 5) (x : Word) (lat : Nat) (fixed taint : Bool) (q : BitVec 5) :
    landedTaint (s.putG r x lat fixed taint) q = if r = q ∧ q ≠ 0 then taint && s.slot.te else landedTaint s q := by
  unfold landedTaint
  rw [State.slot_putG]
  split
  · next h => subst h; rw [if_neg (fun e => e.2 e.1.symm)]
  · rw [Slot.landAll_deliver_readTaint]; simp

theorem State.landedV_putG (s : State) (r : BitVec 5) (x : Word) (lat : Nat) (fixed taint : Bool) (q : BitVec 5) :
    landedV (s.putG r x lat fixed taint) q = landedV s q := by
  unfold landedV
  rw [State.slot_putG]
  split
  · rfl
  · rw [Slot.landAll_deliver_readV]; simp

@[simp] theorem Slot.readTaint_zero (sl : Slot) : sl.readTaint 0 = false := rfl

/-- Delivering a general result and retiring write that register and nothing else (02 R35 to R39). -/
theorem State.onlyWrites_putG_retireAt (p : State) (d : BitVec 5) (x : Word) (lat : Nat) (fixed taint : Bool) (next : Word) (st ex : Nat) :
    OnlyWrites [.g d] p ((p.putG d x lat fixed taint).retireAt next st ex) where
  device := by
    cases p; unfold State.putG; split <;> rfl
  cores k h := by rw [State.coreAt_retireAt _ _ _ _ _ (by simpa using h), State.coreAt_putG _ _ _ _ _ _ _ h]
  core := by rw [State.core_retireAt, State.core_putG]
  slots n h := by
    have hn : (p.core.curSlot : Nat) ≠ n := fun e => h (Fin.ext e.symm)
    have := State.slots_retireAt (p.putG d x lat fixed taint) next st ex
    simp only [State.core_putG, Vector.set_set] at this
    simp only [Fin.getElem_fin] at *
    simp only [this, Vector.getElem_set_ne _ _ hn]
  slot := by
    rw [State.slot_retireAt, State.slot_putG]
    split
    · split
      · rw [Slot.landAll_frame]
      · rfl
    · split
      · rw [Slot.landAll_frame, Slot.deliver_frame]
      · rw [Slot.deliver_frame]
  general r h := by
    simp only [List.mem_singleton, Reg.g.injEq] at h
    obtain ⟨h1, h2, h3⟩ := State.landAll_retireAt (p.putG d x lat fixed taint) next st ex r
    rw [h1, h2, State.landedG_putG, State.landedTaint_putG]
    have : ¬(d = r ∧ r ≠ 0) := fun e => h e.1.symm
    simp only [this, if_false, and_self]
  vector r h := by
    obtain ⟨h1, h2, h3⟩ := State.landAll_retireAt (p.putG d x lat fixed taint) next st ex r
    rw [h3, State.landedV_putG]

/-- An instruction whose outcome is a delivered general result and its retirement. -/
theorem writesG_of_eq (i : Instr) (s p : State) (d : BitVec 5) (x : Word) (taint : Bool) (next : Word) (lat st ex : Nat) (fixed : Bool)
    (h : exec i s = .next ((p.putG d x lat fixed taint).retireAt next st ex)) : WritesG i s p d x taint next := by
  refine ⟨_, h, ?_, ?_, State.onlyWrites_putG_retireAt .., ?_, ?_⟩
  · rw [State.slot_retireAt]
  · rw [State.slot_retireAt]
  · rw [(State.landAll_retireAt _ _ _ _ _).1, State.landedG_putG]
    by_cases h0 : d = 0
    · subst h0; rfl
    · simp only [ne_eq, h0, not_false_iff, and_self, if_true, if_false]
  · rw [(State.landAll_retireAt _ _ _ _ _).2.1, State.landedTaint_putG]
    by_cases h0 : d = 0
    · subst h0; rfl
    · simp only [ne_eq, h0, not_false_iff, and_self, if_true, decide_true, Bool.true_and]

/-! ### Physical registers -/

/-- What binding, spilling and filling back registers keeps of a core (19 R347, R348). -/
structure Core.Rebound (c d : Core) : Prop where
  frame : d = { c with slots := d.slots, perf := d.perf }
  slots : ∀ n : Nat, unbound (d.slotAt n) = unbound (c.slotAt n)

theorem Core.Rebound.refl (c : Core) : Core.Rebound c c := ⟨rfl, fun _ => rfl⟩

theorem Core.Rebound.trans {c d e : Core} (h : Core.Rebound c d) (k : Core.Rebound d e) : Core.Rebound c e where
  frame := by rw [k.frame, h.frame]
  slots n := (k.slots n).trans (h.slots n)

/-- An update of where a slot's registers are held. -/
theorem Core.Rebound.modSlotAt (c : Core) (k : Nat) (f : Slot → Slot) (hf : ∀ sl, unbound (f sl) = unbound sl) :
    Core.Rebound c (c.modSlotAt k f) where
  frame := by unfold Core.modSlotAt; split <;> rfl
  slots n := by
    rw [Core.slotAt_modSlotAt]
    split
    · next h => rw [hf, h.1]
    · rfl

theorem Core.Rebound.count (c : Core) (ctr n : Nat) : Core.Rebound c (c.count ctr n) := ⟨rfl, fun _ => rfl⟩

theorem Core.Rebound.countIssue (c : Core) (t : Nat) : Core.Rebound c (c.countIssue t) := by
  unfold Core.countIssue
  split
  · exact .refl c
  · exact .count c 0x1 1

theorem Core.Rebound.spill (c : Core) (n : Nat) (vec : Bool) : Core.Rebound c (c.spill n vec) := by
  unfold Core.spill
  simp only []
  refine .trans ?_ (.count ..)
  exact .modSlotAt _ _ _ fun _ => rfl

theorem Core.Rebound.makeRoom (c : Core) (vec : Bool) (n k : Nat) : Core.Rebound c (c.makeRoom vec n k) := by
  induction k generalizing c with
  | zero => exact .refl c
  | succ k ih =>
    unfold Core.makeRoom
    by_cases h : c.boundCount vec + n ≤ (if vec then 48 else 160)
    · rw [if_pos h]; exact .refl c
    · rw [if_neg h]
      cases c.spillVictim vec with
      | some v => exact (Core.Rebound.spill c v vec).trans (ih _)
      | none => exact .refl c

theorem Core.Rebound.bind (c : Core) (r : Reg) : Core.Rebound c (c.bind r) := by
  unfold Core.bind
  cases r <;> simp only []
  all_goals
    split
    · exact .refl c
    · exact (Core.Rebound.makeRoom c _ _ _).trans (.modSlotAt _ _ _ fun _ => rfl)

theorem Core.Rebound.fillBack (c : Core) : Core.Rebound c c.fillBack := by
  unfold Core.fillBack
  simp only []
  split
  · exact .refl c
  · refine .trans ?_ (.count ..)
    refine .trans ?_ (.modSlotAt _ _ _ fun _ => rfl)
    exact .trans (.makeRoom c ..) (.makeRoom ..)

/-- What an update of the current core that only moves registers keeps of the state. -/
structure Rebound (s t : State) : Prop where
  device : t = { s with cores := t.cores }
  cores : ∀ k, k ≠ s.cur → t.coreAt k = s.coreAt k
  core : Core.Rebound s.core t.core

theorem Rebound.refl (s : State) : Rebound s s := ⟨rfl, fun _ _ => rfl, .refl _⟩

theorem Rebound.cur_eq {s t : State} (h : Rebound s t) : t.cur = s.cur := by rw [h.device]

theorem Rebound.modCore {s t : State} (h : Rebound s t) (f : Core → Core) (hf : ∀ c, Core.Rebound c (f c)) : Rebound s (t.modCore f) where
  device := by
    have := h.device
    rw [State.modCore, State.modCoreAt, this]
  cores k hk := by rw [State.coreAt_modCore_of_ne _ _ _ (by rw [h.cur_eq]; exact hk), h.cores k hk]
  core := by rw [State.core_modCore]; exact h.core.trans (hf _)

theorem Rebound.foldl {s : State} (l : List Reg) (t : State) (h : Rebound s t) :
    Rebound s (l.foldl (fun s r => s.modCore fun c => c.bind r) t) := by
  induction l generalizing t with
  | nil => exact h
  | cons r l ih => exact ih _ (h.modCore _ fun c => .bind c r)

/-- The current slot by its number. -/
theorem State.slot_eq_slotAt (s : State) : s.slot = s.core.slotAt s.core.curSlot.val := by
  unfold State.slot Core.slotAt
  rw [dif_pos s.core.curSlot.isLt]; rfl

theorem Slot.landUpTo_frame (sl : Slot) (t : Nat) :
    sl.landUpTo t = { sl with g := (sl.landUpTo t).g, taint := (sl.landUpTo t).taint, v := (sl.landUpTo t).v, pend := (sl.landUpTo t).pend } := by
  unfold Slot.landUpTo
  rw [Slot.foldl_apply_frame]

theorem le_foldl_max (l : List Pending) (p : Pending → Bool) (t : Nat) :
    t ≤ l.foldl (fun t x => if p x then Nat.max t x.land else t) t ∧
      ∀ x ∈ l, p x = true → x.land ≤ l.foldl (fun t x => if p x then Nat.max t x.land else t) t := by
  induction l generalizing t with
  | nil => simp
  | cons y l ih =>
    simp only [List.foldl_cons, List.mem_cons]
    obtain ⟨h1, h2⟩ := ih (if p y then Nat.max t y.land else t)
    refine ⟨?_, ?_⟩
    · refine Nat.le_trans ?_ h1
      split
      · exact Nat.le_max_left ..
      · exact Nat.le_refl _
    · rintro x (rfl | hx) hp
      · refine Nat.le_trans ?_ h1
        rw [if_pos hp]; exact Nat.le_max_right ..
      · exact h2 x hx hp

/-- The cycle at which an instruction of the current slot issues. -/
def State.issueCycle (s : State) (regs : List Reg) : Nat :=
  let t0 := Nat.max s.cycle s.slot.nextIssue
  if s.slot.parked then s.slot.lastLanding t0 else s.slot.interlock regs t0

/-- It is no earlier than the slot's next issue, and every interlocked result of the registers has landed by then. -/
theorem State.le_issueCycle (s : State) (regs : List Reg) :
    Nat.max s.cycle s.slot.nextIssue ≤ s.issueCycle regs ∧
      ∀ x ∈ s.slot.pend, x.fixed = false → x.reg ∈ regs → x.land ≤ s.issueCycle regs := by
  unfold State.issueCycle
  simp only []
  split
  · have := le_foldl_max s.slot.pend (fun _ => true) (Nat.max s.cycle s.slot.nextIssue)
    exact ⟨this.1, fun x hx _ _ => this.2 x hx rfl⟩
  · have := le_foldl_max s.slot.pend (fun x => !x.fixed && regs.contains x.reg) (Nat.max s.cycle s.slot.nextIssue)
    exact ⟨this.1, fun x hx hf hr => this.2 x hx (by simp only [hf, List.contains_eq_mem]; simpa using hr)⟩

/-- The state of an issue before registers move. -/
def State.landed (s : State) (t : Nat) : State :=
  { s with cycle := t }.modSlot fun sl => { (if sl.parked then sl else { sl.landUpTo t with lastIssue := t + 1 }) with stop := 0 }

theorem State.slot_landed (s : State) (t : Nat) :
    (s.landed t).slot = { (if s.slot.parked then s.slot else { s.slot.landUpTo t with lastIssue := t + 1 }) with stop := 0 } := by
  unfold State.landed
  rw [State.slot_modSlot]; rfl

theorem State.rebound_prepare (s : State) (reads writes : List Reg) :
    Rebound (s.landed (s.issueCycle (reads ++ writes))) (s.prepare reads writes) :=
  Rebound.foldl writes _ (((Rebound.refl _).modCore _ fun c => Core.Rebound.countIssue c _).modCore _ Core.Rebound.fillBack)

theorem State.prepare_cycle (s : State) (reads writes : List Reg) : (s.prepare reads writes).cycle = s.issueCycle (reads ++ writes) := by
  rw [(State.rebound_prepare s reads writes).device]; rfl

/-- The issue changes what it may and no more (02 R36, R38; 19 R347, R348). -/
theorem State.prepared_prepare (s : State) (reads writes : List Reg) : Prepared reads writes s (s.prepare reads writes) := by
  have hb := State.rebound_prepare s reads writes
  have hc := State.prepare_cycle s reads writes
  generalize s.prepare reads writes = p at hb hc
  rw [← hc] at hb
  have hm := State.le_issueCycle s (reads ++ writes)
  rw [← hc] at hm
  have hl : (s.landed p.cycle).core = { s.core with slots := s.core.slots.set s.core.curSlot (s.landed p.cycle).slot } := by
    rw [State.slot_landed]
    unfold State.landed
    rw [State.core_modSlot]; rfl
  have hcs : p.core.curSlot = s.core.curSlot := by rw [hb.core.frame, hl]
  refine ⟨?_, ?_, ?_, ?_, ?_, ?_, ?_⟩
  · have := hb.device
    rw [this]; rfl
  · intro k hk
    rw [hb.cores k hk]
    unfold State.landed
    refine (State.coreAt_modSlot_of_ne _ _ _ ?_).trans rfl; exact hk
  · rw [hb.core.frame, hl]
  · intro n hn
    rw [hb.core.slots, hl]
    unfold Core.slotAt
    split
    · rw [Vector.getElem_set_ne _ _ (fun e => hn e.symm)]
    · rfl
  · have := hb.core.slots s.core.curSlot.val
    rw [State.slot_eq_slotAt, hcs, this]
    have h2 : (s.landed p.cycle).core.slotAt s.core.curSlot.val = (s.landed p.cycle).slot := by
      rw [State.slot_eq_slotAt, hl]
    rw [h2, State.slot_landed]; rfl
  · exact ⟨Nat.le_trans (Nat.le_max_left ..) hm.1, Nat.le_trans (Nat.le_max_right ..) hm.1⟩
  · exact hm.2

theorem State.parked_prepare (s : State) (reads writes : List Reg) : (s.prepare reads writes).slot.parked = s.slot.parked := by
  have := congrArg Slot.parked (State.prepared_prepare s reads writes).slot
  refine Eq.trans this ?_
  split
  · rfl
  · rw [Slot.landUpTo_frame]; rfl

/-! ### The issue -/

/-- An issue that spills no register to a task record goes on at once. -/
theorem State.afterSpills_of_recorded {s before : State} (h : Core.recorded before.core s.core = []) (body : State → State) :
    s.afterSpills before body = body s := by
  unfold State.afterSpills
  rw [h]; rfl

/-- Where an instruction takes its own effect, issue runs its body on the prepared state. -/
theorem issue_of_issues {i : Instr} {reads writes : List Reg} {s : State} (h : Issues i reads writes s) (body : State → State) :
    issue i reads writes s body = .next (body (s.prepare reads writes)) := by
  obtain ⟨hp, hk, hr, hv⟩ := h
  have e : (if s.slot.parked && s.slot.half.isNone && vectorFormat i then s.landSlot s.cur s.core.curSlot.val else s) = s := by
    cases hs : s.slot.parked
    · rfl
    · cases hh : s.slot.half
      · rw [hv hs hh]; rfl
      · rfl
  have hq : (s.prepare reads writes).slot.parked = s.slot.parked := State.parked_prepare ..
  unfold issue
  simp only [hp, if_true, e, hq]
  cases hs : s.core.schk <;> cases hs' : s.slot.parked
  · exact congrArg _ (State.afterSpills_of_recorded hr body)
  · exact congrArg _ (State.afterSpills_of_recorded hr body)
  · rw [if_pos (by rfl), hk hs hs']
    exact congrArg _ (State.afterSpills_of_recorded hr body)
  · exact congrArg _ (State.afterSpills_of_recorded hr body)

theorem State.pc_putG (s : State) (r : BitVec 5) (x : Word) (lat : Nat) (fixed taint : Bool) :
    (s.putG r x lat fixed taint).slot.pc = s.slot.pc := by
  rw [State.slot_putG]
  split
  · rfl
  · rw [Slot.deliver_frame]

theorem State.pc_prepare (s : State) (reads writes : List Reg) : (s.prepare reads writes).slot.pc = s.slot.pc := by
  have := congrArg Slot.pc (State.prepared_prepare s reads writes).slot
  refine Eq.trans this ?_
  split
  · rfl
  · rw [Slot.landUpTo_frame]; rfl

/-- An instruction whose body delivers one general result and goes on at PC + 4. -/
theorem writesG_of_issue {i : Instr} {reads : List Reg} {d : BitVec 5} {s : State} (lat : State → Nat) (fixed : Bool) (st : Nat)
    (v : State → Word) (taint : State → Bool)
    (hx : exec i s = issue i reads [.g d] s fun s => (s.putG d (v s) (lat s) fixed (taint s)).retire st) (h : Issues i reads [.g d] s) :
    WritesG i s (s.prepare reads [.g d]) d (v (s.prepare reads [.g d])) (taint (s.prepare reads [.g d])) (s.slot.pc + 4) := by
  refine writesG_of_eq _ _ _ _ _ _ _ (lat (s.prepare reads [.g d])) st 0 fixed ?_
  rw [hx, issue_of_issues h, State.retire, State.pc_putG, State.pc_prepare]

end Sys2Proof.Machine
end

