-- ==== Sys2Proof/Tests/Slice0.lean ====
section
/-!
SUPPORT. Tests: the smoke test of WellFormed, words written out from the encoding tables of the manual, a witness for the hypotheses of
every statement, and single steps whose results are worked out by hand from the rules.
-/
set_option Elab.async false
set_option maxRecDepth 4096

namespace Sys2Proof.Tests

open Sys2Proof Sys2Proof.Machine Sys2Proof.Safety

/-! ### WellFormed: an ill-formed term for each check -/

/-- 02 R48, 04 R98, R100: scope code 7, order codes from 4, UPD sizes from 2. -/
theorem test_illFormed_scope_order : (Instr.fenceAcq 0 7).wellFormed = false ∧ (Instr.amoAdd 1 2 3 0 7 0).wellFormed = false ∧
    (Instr.amoAdd 1 2 3 0 2 4).wellFormed = false ∧ (Instr.updAdd 1 2 2 1).wellFormed = false ∧ (Instr.updAdd 1 2 0 7).wellFormed = false := by
  decide

/-- 04 R86, 07 R165, R167, 26 R410: zero skips, empty QFENCE and FSEAL, cache operations below bent scope. -/
theorem test_illFormed_system : (Instr.skipEqz 4 0).wellFormed = false ∧ (Instr.qfence 0).wellFormed = false ∧ (Instr.fseal 0).wellFormed = false ∧
    (Instr.cclean 4 1).wellFormed = false ∧ (Instr.cinv 4 7).wellFormed = false ∧ (Instr.cflush 4 0).wellFormed = false := by decide

/-- 14 R263, 15 R285, R286: register numbers past the last one of MG, CX and a shape record. -/
theorem test_illFormed_registers : (Instr.mset 4 13).wellFormed = false ∧ (Instr.mget 13 4).wellFormed = false ∧ (Instr.cput 0 4 9).wellFormed = false ∧
    (Instr.cget 0 9 4).wellFormed = false ∧ (Instr.shapeGet 4 0 9 0).wellFormed = false := by decide

/-- 02 R42, R46, 05 R112, R124, R130: vector register fields, widths and blocks. -/
theorem test_illFormed_vector : (Instr.vfma 24 0 1 0 2 0).wellFormed = false ∧ (Instr.vfrcp 0 1 0 3 0).wellFormed = false ∧
    (Instr.vld 24 4 0 2 0).wellFormed = false ∧ (Instr.vgather 0 4 24 0 2 0).wellFormed = false ∧ (Instr.vscatter 0 4 1 0 1 0).wellFormed = false ∧
    (Instr.vldb 0 4 8 0 0 0).wellFormed = false ∧ (Instr.vstb 0 4 31 0 1 0).wellFormed = false ∧ (Instr.vrbox 0 1 0 0 0).wellFormed = false ∧
    (Instr.vrtri 2 0 8 0 0).wellFormed = false ∧ (Instr.vrtri 0 0 24 0 0).wellFormed = false := by decide

/-- 03 R73, 05 R119 to R122, R129: reserved conversion pairs, rounding codes, MX formats, odd pairs and reductions. -/
theorem test_illFormed_conversions : (Instr.vcvt 0 1 8 0 3 0 0).wellFormed = false ∧ (Instr.vcvt 0 1 0 0 0 4 0).wellFormed = false ∧
    (Instr.vcvt 0 1 4 0 0 5 0).wellFormed = false ∧ (Instr.vcvt 0 1 4 0 0 6 0).wellFormed = false ∧ (Instr.vqmx 0 1 24 0 0).wellFormed = false ∧
    (Instr.vqmx 0 1 0 2 0).wellFormed = false ∧ (Instr.vdqmx 3 1 0 2 0).wellFormed = false ∧ (Instr.vqmx 0 1 0 1 0).wellFormed = false ∧
    (Instr.vred 0 1 8 0 0 0).wellFormed = false ∧ (Instr.vscan 0 1 14 0 2 0).wellFormed = false ∧ (Instr.vred 0 1 11 0 2 0).wellFormed = false ∧
    (Instr.fadd 1 2 3 0 4 0).wellFormed = false ∧ (Instr.fcmp 1 2 3 0 4 0).wellFormed = false ∧ (Instr.fcvt 1 2 14 0 0).wellFormed = false ∧
    (Instr.fcvt 1 2 0 4 0).wellFormed = false := by decide

/-- What is not ill formed passes: at the last legal value of each field. -/
theorem test_wellFormed_edges : (Instr.fenceAcq 0 6).wellFormed = true ∧ (Instr.amoAdd 1 2 3 0 6 3).wellFormed = true ∧
    (Instr.updAdd 1 2 1 6).wellFormed = true ∧ (Instr.cclean 4 2).wellFormed = true ∧ (Instr.mget 12 4).wellFormed = true ∧
    (Instr.cget 0 8 4).wellFormed = true ∧ (Instr.vfma 23 24 31 0 2 0).wellFormed = true ∧ (Instr.vldb 0 4 7 0 0 0).wellFormed = true ∧
    (Instr.vldb 0 4 31 0 3 0).wellFormed = true ∧ (Instr.vqmx 0 30 0 2 0).wellFormed = true ∧ (Instr.vred 0 1 10 0 1 0).wellFormed = true := by decide

/-! ### Words from the manual's encoding tables and examples -/

/-- 02 table 2.4, 04 R84 to R106: one word of each scalar family; csel.nez, skip.nez, paddi, luk, ori, st.w, ldc.d, ldbit, amo.cas, upd
and fma.s are the manual's own examples. -/
theorem test_decode_scalar :
    decode 0x04A63800#32 = some (.add 5 6 7 0) ∧ decode 0x04A63B40#32 = some (.cselNez 5 6 7 8 0) ∧ decode 0x08A63808#32 = some (.mulh 5 6 7 0) ∧
    decode 0x0CA6FFFF#32 = some (.addi 5 6 0xFFFF) ∧ decode 0x14A50345#32 = some (.ori 5 5 0x345) ∧ decode 0x28A60040#32 = some (.paddi 5 6 64) ∧
    decode 0x2CA00024#32 = some (.luk 5 0x24) ∧ decode 0x38C24002#32 = some (.stW 6 2 2) ∧ decode 0x3C856001#32 = some (.ldcD 4 5 1) ∧
    decode 0x40A63828#32 = some (.ldbit 5 6 7 5 0) ∧ decode 0x44863CDB#32 = some (.amoCas 4 6 7 1 3 3) ∧
    decode 0x48063910#32 = some (.updFadd 6 7 0 2) ∧ decode 0x58802003#32 = some (.skipNez 4 3) ∧ decode 0xA8A638C0#32 = some (.fma 5 6 7 0 0 0) ∧
    decode 0x5C020003#32 = some (.qfence 3) := by decide +kernel

/-- 04 R105, R106, 19 R353, 26 R411: system and firmware words. -/
theorem test_decode_system :
    decode 0x60000000#32 = some .nop ∧ decode 0x60050000#32 = some .halt ∧ decode 0x60010005#32 = some (.trap 5) ∧ decode 0x60020000#32 = some .tret ∧
    decode 0x60C4280B#32 = some (.csrs 4 5 0 11) ∧ decode 0xFC012800#32 = some (.fdrop 5) ∧ decode 0xFC020003#32 = some (.fseal 3) := by
  decide +kernel

/-- 05: words of the vector families from the manual's examples. -/
theorem test_decode_vector :
    decode 0x88611100#32 = some (.vadd 3 1 2 0 2 0) ∧ decode 0x8C400913#32 = some (.vfmul 2 0 1 0 2 3) ∧
    decode 0x94A40083#32 = some (.vcvt 5 4 0 0 1 0 3) ∧ decode 0x98050100#32 = some (.vld 0 5 0 2 0) ∧
    decode 0x9C62412F#32 = some (.vred 3 2 8 0 2 7) ∧ decode 0x9C832109#32 = some (.vmovg 4 3 4 0 2 1) := by decide +kernel

/-- 11, 13, 16, 17, 18: the words in the encoding tables of the task, queue, barrier, message and monitor families. -/
theorem test_decode_units :
    decode 0x66112808#32 = some (.spawn 16 17 5 0) ∧ decode 0x64000010#32 = some (.rets 0 0) ∧ decode 0x64100018#32 = some (.sync 16 0) ∧
    decode 0x64063838#32 = some (.publish 6 7 3 0) ∧ decode 0x64A00048#32 = some (.tself 5 0) ∧ decode 0x68A63838#32 = some (.taskq 5 6 7 0) ∧
    decode 0x6CA63808#32 = some (.binit 5 6 7 0) ∧ decode 0x6C060010#32 = some (.barrive 6 0) ∧ decode 0x6C063818#32 = some (.bexpect 6 7 0) ∧
    decode 0x6CA60020#32 = some (.bwait 5 6 0) ∧ decode 0x6CA60028#32 = some (.btest 5 6 0) ∧ decode 0x6C060030#32 = some (.bfree 6 0) ∧
    decode 0x70063808#32 = some (.sendi 6 7 0) ∧ decode 0x70A63810#32 = some (.sendb 5 6 7 0) ∧ decode 0x70A63818#32 = some (.rpost 5 6 7 0) ∧
    decode 0x70A60020#32 = some (.rcancel 5 6 0) ∧ decode 0x70063828#32 = some (.qwake 6 7 0) ∧ decode 0x74A63808#32 = some (.monset 5 6 7 0) ∧
    decode 0x74063810#32 = some (.monarm 6 7 0) ∧ decode 0x74063818#32 = some (.monref 6 7 0) ∧ decode 0x74A63820#32 = some (.monread 5 6 7 0) ∧
    decode 0x74060028#32 = some (.monclr 6 0) := by decide +kernel

/-- 08 R184, 14 R272, 15 R285: SUBS (major 0x1E, fn 1), MMA (major 0x1F, fn 3), CPUT, CGET and CLAUNCH. -/
theorem test_decode_engines :
    decode 0x78A63808#32 = some (.subs 5 6 7 0) ∧ decode 0x78060010#32 = some (.unsubs 6 0) ∧ decode 0x7C0331C0#32 = some (.mma 6 7) ∧
    decode 0x80012800#32 = some (.cput 0 5 0) ∧ decode 0x81813040#32 = some (.cput 3 6 1) ∧ decode 0x8002014A#32 = some (.cget 0 5 5) ∧
    decode 0x8003000A#32 = some (.claunch 0 5) := by decide +kernel

/-- 02 R30, R48: reserved words decode to nothing: the zero word, a nonzero unused field of NOP, scope code 7 of a fence, QFENCE of no
queue. -/
theorem test_decode_reserved :
    decode 0#32 = none ∧ decode 0x60000001#32 = none ∧ decode 0x5C020000#32 = none ∧ decode (encode (.fenceAcq 5 7)) = none ∧
    decode 0xFFFFFFFF#32 = none := by decide +kernel

/-! ### Small states and decidable forms of hypotheses -/

/-- Issues, as a truth value. -/
def wIssues (i : Instr) (reads writes : List Reg) (s : State) : Bool :=
  s.permitted i && (!s.core.schk || s.slot.parked || ((s.prepare reads writes).slot.pendingReg (reads ++ writes)).isNone) &&
    (Core.recorded s.core (s.prepare reads writes).core).isEmpty && (!s.slot.parked || s.slot.half.isSome || !vectorFormat i)

theorem wIssues_iff (i : Instr) (reads writes : List Reg) (s : State) (h : wIssues i reads writes s = true) : Issues i reads writes s := by
  simp only [wIssues, Bool.and_eq_true, Bool.or_eq_true, Bool.not_eq_true', Option.isNone_iff_eq_none, List.isEmpty_iff] at h
  obtain ⟨⟨⟨h1, h2⟩, h3⟩, h4⟩ := h
  refine ⟨h1, fun e p => h2.resolve_left (by simp [e, p]), h3, fun p q => ?_⟩
  simpa [p, q] using h4

/-- LocalAccess, as a truth value. -/
def wLocal (s : State) (a : Word) (n code off : Nat) : Bool :=
  !s.copyStall a n && descriptorOk s.hasFeature a && a.toNat % n == 0 && spaceOf a != 0 &&
    match s.spaceCheck a with
    | .ok t => t == .own code off
    | .error _ => false

theorem wLocal_iff (s : State) (a : Word) (n code off : Nat) (h : wLocal s a n code off = true) : LocalAccess s a n code off := by
  unfold wLocal at h
  split at h
  · rename_i t e; simp at h; exact ⟨h.1.1.1.1, h.1.1.1.2, h.1.1.2, h.1.2, by rw [e, h.2]⟩
  · simp at h

/-- Package 0 with every feature committed. -/
def tPkg : Pkg := { Pkg.reset with feat := 0x3FF, committed := true }

/-- The device after a commit: core 0 runs firmware at address 0. -/
def tFw : State := { State.reset with pkgs := [(0, tPkg)] }

/-- Sets general registers of the current slot. -/
def wG (s : State) (l : List (Nat × Word)) : State :=
  s.modSlot fun sl => l.foldl (fun sl p => { sl with g := Vector.ofFn fun i => if i.val = p.1 then p.2 else sl.g[i] }) sl

/-- Sets a vector register of the current slot. -/
def wV (s : State) (n : Fin 24) (v : Vec) : State := s.modSlot fun sl => { sl with v := sl.v.set n.val v n.isLt }

/-- A level-1 leaf that maps the lowest addresses to themselves for every use. -/
def tLeaf : TlbEntry := ⟨0, 1, 0, 0xF800000000000000, []⟩

/-- A running context of kernel 1 with windows, queues and a handler address. -/
def tCtx : Ctx :=
  { state := .running, kernid := 1, slots := 2, chan := 2, barriers := 4, wwin := ⟨0, 0x2000⟩, awin := ⟨0, 0x2000⟩, cwin := ⟨0, 0x4000⟩
    tvec := 0x8000, saveptr := 0x100000, trussSeq := 4, chans := [(0, {}), (1, {})] }

/-- A slot of that context in task mode. -/
def tSlot : Slot := { run := .ready, ctx := some 1, pc := 0x1000, te := true }

/-- A core with that context and its first slot. -/
def tCore : Core := { slots := (Vector.replicate 8 ({} : Slot)).set 0 tSlot, ctxs := [(1, tCtx)], utlb := [tLeaf] }

/-- A kernel that runs on core 0. -/
def tKernel : Kernel := { kernid := 1, record := 0, state := .running, cores := [0], rooted := true }

/-- The device with that kernel on core 0. -/
def tTask : State :=
  { State.reset with
    pkgs := [(0, { tPkg with kernels := [(1, tKernel)], nextKern := 2 })]
    cores := [(0, tCore)]
    bents := [(0, { tlb := [tLeaf], seqOwner := [(1, (0, 4))], joinOwner := [(1, 1)], binOwner := [(1, 2)] })] }

/-- Changes the context. -/
def wCtx (s : State) (f : Ctx → Ctx) : State := s.modCtxOf 0 1 f

/-! ### Witnesses: registers, branches, memory -/

theorem test_wit_IntegerResults : wIssues (.add 5 6 7 0) [.g 6, .g 7] [.g 5] (wG tFw [(6, 3), (7, 4)]) = true ∧
    wIssues (.addi 5 6 1) [.g 6] [.g 5] (wG tFw [(6, 3)]) = true := by decide +kernel

theorem test_wit_SelectAndConstantResults : wIssues (.cselEqz 5 6 7 8 0) [.g 6, .g 7, .g 8] [.g 5] tFw = true ∧
    wIssues (.luk 5 1) [] [.g 5] tFw = true ∧ wIssues (.addpc 5 1) [] [.g 5] tFw = true := by decide +kernel

/-- The offset at its first and last values, and one past on either side. -/
theorem test_wit_PointerMoves :
    let off (x : Word) (d : Word) : Int := (bits ((wG tFw [(6, x)]).prepare [.g 6] [.g 5] |>.readG 6) 0 48).toNat + d.toInt
    wIssues (.paddi 5 6 1) [.g 6] [.g 5] (wG tFw [(6, 0xFFFFFFFFFFFE)]) = true ∧ wIssues (.padd 5 6 7 0) [.g 6, .g 7] [.g 5] tFw = true ∧
    off 0xFFFFFFFFFFFE 1 = 2 ^ 48 - 1 ∧ off 0xFFFFFFFFFFFF 1 = 2 ^ 48 ∧ off 1 (-1) = 0 ∧ off 0 (-1) = -1 := by decide +kernel

theorem test_wit_BranchesAndJumps : wIssues (.beq 5 6 4) [.g 5, .g 6] [] tFw = true ∧ wIssues (.skipEqz 5 1) [.g 5] [] tFw = true ∧
    wIssues (.jal 1 4) [] [.g 1] tFw = true ∧ wIssues (.jalr 1 5 0) [.g 5] [.g 1] (wG tFw [(5, 0xFFFFFFFFFFFC)]) = true ∧
    wIssues (.jalr 1 5 0) [.g 5] [.g 1] (wG tFw [(5, 2)]) = true ∧ wIssues (.jalr 1 5 0) [.g 5] [.g 1] (wG tFw [(5, 0x1000000000000)]) = true := by
  decide +kernel

theorem test_wit_ScalarFloatResults : wIssues (.fadd 5 6 7 0 0 0) [.g 6, .g 7] [.g 5] tFw = true ∧
    wIssues (.fma 5 6 7 1 3 0) [.g 6, .g 7, .g 5] [.g 5] tFw = true := by decide +kernel

/-- A task with the last doubleword of its A-store window in g6. -/
def tLocal : State := wG tTask [(6, 0x2000000000001FF8), (7, 0x55)]

theorem test_wit_LoadsFromLocalStores :
    let p := tLocal.prepare [.g 6] [.g 5]
    wIssues (.ldD 5 6 0) [.g 6] [.g 5] tLocal = true ∧ wIssues (.ldcD 5 6 0) [.g 6] [.g 5] tLocal = true ∧
    addOffset (p.readG 6) 0 = some 0x2000000000001FF8 ∧ wLocal p 0x2000000000001FF8 8 1 0x1FF8 = true ∧
    p.core.storePoisoned 1 0x1FF8 8 = false ∧ p.slot.te = true ∧
    ((tLocal.modSlot fun sl => { sl with te := false }).prepare [.g 6] [.g 5]).slot.te = false := by decide +kernel

/-- A task whose L1D holds the sector at address 0x3000 in M. -/
def tCached : State :=
  (wG tTask [(6, 0x3008), (7, 0x55)]).modCore fun c =>
    { c with l1 := [(0x30, { sec := (Vector.replicate 4 ({} : Sector)).set 0 { st := .m, data := 7, dirty := 1 } })] }

/-- What the checks of an access at g6 answer: no copy covers it, it names memory at its own address, and nothing waits at its home. -/
def wCachedOk (p : State) (use : PageUse) (n : Nat) : Bool :=
  !p.copyStall (p.readG 6) n &&
    match p.checkAccess use n (p.readG 6) with
    | (q, .ok (.mem pa false)) => pa == 0x3008 && !q.homePending q.cur pa n && (AMap.find? q.slot.fillErr (pa / 64)).isNone &&
        (AMap.find? q.slot.fill (pa / 64)).isNone && !q.poisoned pa n && !q.writesThrough pa false && decide ((q.core.sector (pa / 64)).st = .m)
    | _ => false

theorem test_wit_LoadsFromCachedMemory : wIssues (.ldD 5 6 0) [.g 6] [.g 5] tCached = true ∧
    wCachedOk (tCached.prepare [.g 6] [.g 5]) .load 8 = true := by decide +kernel

theorem test_wit_StoresToCachedMemory : wIssues (.stD 7 6 0) [.g 6, .g 7] [] tCached = true ∧
    wCachedOk (tCached.prepare [.g 6, .g 7] []) .store 8 = true := by decide +kernel

theorem test_wit_StoresToLocalStoresOnly : wIssues (.stD 7 6 0) [.g 6, .g 7] [] tLocal = true ∧
    wLocal (tLocal.prepare [.g 6, .g 7] []) 0x2000000000001FF8 8 1 0x1FF8 = true ∧ coreWf (tLocal.coreAt 0) = true := by decide +kernel

/-- The window's last bit (65,535) fits and one bit more does not; space 2 and an address with a set bit 48 are refused. -/
theorem test_wit_BitFieldAccesses :
    let s := wG tTask [(6, 0x2000000000000000), (7, 65535)]
    let p := s.prepare [.g 6, .g 7] [.g 5]
    wIssues (.ldbit 5 6 7 0 0) [.g 6, .g 7] [.g 5] s = true ∧ wIssues (.ldbitS 5 6 7 1 0) [.g 6, .g 7] [.g 5] s = true ∧
    wIssues (.ldbit 5 6 7 0 0) [.g 6, .g 7] [.g 5] (wG tTask [(6, 0x4000000000000000)]) = true ∧ wIssues (.stbit 5 6 7 0 0) [.g 6, .g 7, .g 5] [] s = true ∧
    offsetOf (p.readG 6) * 8 + (p.readG 7).toNat + 1 = p.ctx.awin.size * 8 ∧ spaceOf 0x2000000000000000 = 1 ∧ spaceOf 0x4000000000000000 = 2 ∧
    descriptorOk p.hasFeature 0x2000000000000000 = true ∧ descriptorOk p.hasFeature 0x2001000000000000 = false ∧
    p.copyStall 0x2000000000001FFF 9 = false ∧ p.core.storePoisoned 1 0x1FF8 8 = false ∧ coreWf p.core = true := by decide +kernel

/-- A misaligned address, an undefined descriptor, an offset below 0 and past 2^48 - 1, a local store past its window, and a page fault. -/
theorem test_wit_AccessChecksInOrder :
    let at0 (x : Word) : State := (wG tTask [(6, x)]).prepare [.g 6] [.g 5]
    wIssues (.ldD 5 6 0) [.g 6] [.g 5] (wG tTask [(6, 0x3004)]) = true ∧ descriptorOk (at0 0x3004).hasFeature 0x3004 = true ∧
    (0x3004#64).toNat % 8 ≠ 0 ∧ (at0 0x3004).copyStall 0x3004 8 = false ∧ descriptorOk (at0 0).hasFeature 0x2001000000000000 = false ∧
    ((offsetOf 0 : Int) + (-1) * 8 < 0) ∧ (2 : Int) ^ 48 ≤ (offsetOf 0xFFFFFFFFFFF8 : Int) + 8 ∧
    (match (at0 0).spaceCheck 0x2000000000002000 with
     | .error c => c == 1
     | .ok _ => false) = true ∧
    (match ((at0 0x3000).modSlot fun sl => { sl with walkFault := some (0, 0x11) }).translate .load 0x3000 with
     | (_, .fault k) => k == 0x11
     | _ => false) = true := by decide +kernel

/-! ### Witnesses: remote accesses, atomics, fences, traps, registers -/

/-- A task with a space-4 pointer to core 1's A-store in g6. -/
def tRemote : State := wG tTask [(6, 0x8000000028000000), (7, 0x55)]

theorem test_wit_RemoteAccessesSendRequests :
    let p := tRemote.prepare [.g 6] [.g 5]
    wIssues (.ldD 5 6 0) [.g 6] [.g 5] tRemote = true ∧ wIssues (.stD 7 6 0) [.g 6, .g 7] [] tRemote = true ∧
    addOffset (p.readG 6) 0 = some 0x8000000028000000 ∧ p.copyStall 0x8000000028000000 8 = false ∧
    descriptorOk p.hasFeature 0x8000000028000000 = true ∧ spaceOf 0x8000000028000000 = 4 ∧ p.core.requests.length < 64 ∧
    (match p.spaceCheck 0x8000000028000000 with
     | .ok t => t == .away
     | .error _ => false) = true := by decide +kernel

/-- An atomic without and with a release, on the last word of a window; an update there. -/
theorem test_wit_LocalAtomicsAndUpdates :
    let s := wG tTask [(6, 0x2000000000001FFC), (7, 1)]
    let p := s.prepare [.g 6, .g 7] [.g 5]
    wIssues (.amoAdd 5 6 7 0 2 0) [.g 6, .g 7] [.g 5] s = true ∧ wIssues (.amoCas 5 6 7 0 2 3) [.g 6, .g 7, .g 5] [.g 5] s = true ∧
    wIssues (.updAdd 6 7 0 2) [.g 6, .g 7] [] s = true ∧ wLocal p 0x2000000000001FFC 4 1 0x1FFC = true ∧
    p.releaseReady p.cur p.core.curSlot.val 2 = true ∧ (p.release p.cur 2).core.storePoisoned 1 0x1FFC 4 = false := by decide +kernel

theorem test_wit_MemoryAtomicsSendRequests :
    let s := wG tTask [(6, 0x3008), (7, 1)]
    let p := s.prepare [.g 6, .g 7] [.g 5]
    wIssues (.amoAdd 5 6 7 1 3 0) [.g 6, .g 7] [.g 5] s = true ∧ p.copyStall (p.readG 6) 8 = false ∧ spaceOf (p.readG 6) = 0 ∧
    (match p.checkAccess .store 8 (p.readG 6) with
     | (q, .ok (.mem pa _)) => !q.homePending q.cur pa 8 && q.lineFree pa && decide (q.core.requests.length < 64) &&
         decide ((q.dropLine (bentOf q.cur) (pa / 256)).core.requests.length < 64)
     | _ => false) = true := by decide +kernel

/-- A slot with a posted error and a lost write over link 9. -/
def tErr : State := tTask.modSlot fun sl => { sl with perr := { cause := 0x15, addr := 0x3000, count := 1, lost := 1, link := 9 } }

theorem test_wit_FencesAndQueueFences :
    let p := tErr.prepare [] [.g 5]
    wIssues (.fenceAcq 5 4) [] [.g 5] tErr = true ∧ wIssues (.fenceRel 5 4) [] [.g 5] tErr = true ∧ wIssues (.fenceFull 5 2) [] [.g 5] tErr = true ∧
    p.releaseReady p.cur p.core.curSlot.val 4 = true ∧ p.lostLines p.cur = [] ∧ ((p.release p.cur 4).acquire 0 4).core.fencetrap = false ∧
    wIssues (.qfence 3) [] [] tErr = true := by decide +kernel

theorem test_wit_CacheOperationsComplete :
    let s := wG tTask [(6, 0x3008)]
    let p := s.prepare [.g 6] []
    wIssues (.cclean 6 3) [.g 6] [] s = true ∧ wIssues (.cinv 6 2) [.g 6] [] s = true ∧ wIssues (.cflush 6 6) [.g 6] [] s = true ∧
    spaceOf (p.readG 6) = 0 ∧ (match p.checkAccess .load 1 (p.readG 6) with
     | (q, .ok (.mem pa _)) => q.lineFree pa && decide (q.homeRoute (bentOf q.cur) pa = .go)
     | _ => false) = true ∧ wIssues (.cclean 6 3) [.g 6] [] (wG tTask [(6, 0xC000000000000000)]) = true ∧ spaceOf 0xC000000000000000 = 6 ∧
    spaceOf 0x2000000000000000 = 1 := by decide +kernel

theorem test_wit_SystemAndSoftwareTraps :
    wIssues .nop [] [] tTask = true ∧ wIssues .wfe [] [] tTask = true ∧ wIssues .wfe [] [] (tTask.modSlot fun sl => { sl with evt := true }) = true ∧
    wIssues .halt [] [] tFw = true ∧ (tFw.prepare [] []).coreSettled 0 = true ∧ wIssues (.fseal 63) [] [] tFw = true ∧
    wIssues (.trap 63) [] [] tTask = true ∧ wIssues .break [] [] tTask = true := by decide +kernel

/-- Depths 0 and 1 of a task, and depth 2 of firmware without a context. -/
theorem test_wit_TrapEntryAndThirdLevel :
    (tTask.slotOf 0 0).td ≠ 2 ∧ (tTask.slotOf 0 0).handler = none ∧ ((tTask.modSlot fun sl => { sl with td := 1 }).slotOf 0 0).td ≠ 2 ∧
    ((tFw.modSlot fun sl => { sl with td := 2 }).slotOf 0 0).td = 2 ∧ ((tFw.modSlot fun sl => { sl with td := 2 }).coreAt 0).ctxs = [] ∧
    ((tFw.modSlot fun sl => { sl with td := 2 }).slotOf 0 0).ctx = none := by decide +kernel

/-- A supervisor slot at depth d with saved status x in its bank. -/
def tHandler (d : Fin 3) (x : Word) : State :=
  tTask.modSlot fun sl => { sl with mode := .supervisor, td := d, bank0 := { tstat := x, tepc := 0x1004 }, bank1 := { tstat := x, tepc := 0x1008 } }

/-- A return to task mode with TE, one to depth 1, a bad mode, a bad depth and a reserved bit. -/
theorem test_wit_TrapReturn :
    wIssues .tret [] [] (tHandler 0 0) = true ∧ wIssues .tret [] [] (tHandler 1 0x20) = true ∧ wIssues .tret [] [] (tHandler 2 0x25) = true ∧
    bits (0x20#64) 7 57 = 0 ∧ bits (0x20#64) 0 2 = 0 ∧ (bits (0x20#64) 2 2).toNat = 0 ∧ (0x20#64).getLsbD 6 = false ∧
    (bits (0x25#64) 0 2).toNat ≤ Mode.supervisor.code ∧ (bits (0x25#64) 2 2).toNat = 1 ∧ bits (0x3#64) 0 2 = 3 ∧ Mode.supervisor.code < (bits (0x2#64) 0 2).toNat ∧
    bits (0x120#64) 7 57 ≠ 0 := by decide +kernel

theorem test_wit_FirmwareDrop : wIssues (.fdrop 5) [.g 5] [] (wG tFw [(5, 0xFFFFFFFFFFFC)]) = true ∧
    wIssues (.fdrop 5) [.g 5] [] (wG tFw [(5, 2)]) = true ∧ wIssues (.fdrop 5) [.g 5] [] (wG tFw [(5, 0x1000000000000)]) = true ∧
    bits (0xFFFFFFFFFFFC#64) 48 16 = 0 ∧ bits (0x1000000000000#64) 48 16 ≠ 0 ∧ bits (2#64) 0 2 ≠ 0 := by decide +kernel

theorem test_wit_ExcludedAndIllegalWordsTrap :
    Instr.isEvent .tret = false ∧ tTask.permitted .tret = false ∧ decode 0#32 = none ∧ tTask.core.canIssue tTask.core.curSlot.val = true ∧
    (let s := tTask.modSlot fun sl => { sl with held := [⟨0x0C, 0, 0⟩] }
     (s.slotOf 0 0).held = [⟨0x0C, 0, 0⟩] ∧ (s.slotOf 0 0).td ≠ 2 ∧ (s.slotOf 0 0).run = .ready ∧ (s.coreAt 0).awaits 0 = false) := by decide +kernel

theorem test_wit_CsrInstructionsComplete :
    let s := (wG tTask [(5, 0x30)]).modSlot fun sl => { sl with mode := .supervisor }
    let p := s.prepare [.g 5] [.g 6]
    wIssues (.csrr 0 6 4) [] [.g 6] s = true ∧ wIssues (.csrw 0 5 6 4) [.g 5] [.g 6] s = true ∧ wIssues (.csrs 0 0 6 4) [.g 0] [.g 6] s = true ∧
    (p.csrWrite p.cur p.core.curSlot.val 4 (p.readG 5)).any (fun q => !p.reloaded q p.cur p.core.curSlot.val 4) = true := by decide +kernel

theorem test_wit_CsrFields : (tTask.slotOf 0 0).ctx = some 1 ∧ tTask.hasCtx 0 1 = true := by decide +kernel

/-! ### Witnesses: vector instructions -/

/-- VIssues, as a truth value. -/
def wVIssues (i : Instr) (g : BitVec 2) (srcs dsts : List (BitVec 5)) (gr gw : List Reg) (s : State) : Bool :=
  let p := s.prepare (maskReads g ++ gr ++ vRegs srcs) (vRegs dsts ++ gw)
  wIssues i (maskReads g ++ gr ++ vRegs srcs) (vRegs dsts ++ gw) s && p.queueLegal srcs dsts && p.queueReady srcs dsts &&
    srcs.all fun r => !(isQ r) || !p.popPoisoned (r.toNat - 24)

theorem wVIssues_iff (i : Instr) (g : BitVec 2) (srcs dsts : List (BitVec 5)) (gr gw : List Reg) (s : State)
    (h : wVIssues i g srcs dsts gr gw s = true) : VIssues i g srcs dsts gr gw s := by
  simp only [wVIssues, Bool.and_eq_true, List.all_eq_true, Bool.or_eq_true, Bool.not_eq_true'] at h
  exact ⟨wIssues_iff _ _ _ _ h.1.1.1, h.1.1.2, h.1.2, fun r hr hq => (h.2 r hr).resolve_left (by simp [hq])⟩

/-- A ring of two 64-byte slots in the A-store with one record, bound to register 0, and one with room bound to register 1. -/
def tRings : State := wCtx tTask fun c =>
  { c with bindings := [(0, { word := 0x1046000000000002, bound := true, fill := 1, free := 1 }), (1, { word := 0x1046000000000002, bound := true, free := 2 })] }

/-- Registers as sources and destination, a masked form, a queue register as source (q0) and one as destination (q1). -/
theorem test_wit_VectorLaneResults :
    wVIssues (.vadd 3 1 2 0 2 0) 0 [1, 2] [3] [] [] tTask = true ∧ wVIssues (.vfma 3 1 2 3 3 0) 3 [1, 2, 3] [3] [] [] tTask = true ∧
    wVIssues (.vfexp2 3 1 0 1 0) 0 [1] [3] [] [] tTask = true ∧ wVIssues (.vxor 25 24 2 0 0 0) 0 [24, 2] [25] [] [] tRings = true := by
  decide +kernel

theorem test_wit_VectorCompareAndPermuteResults :
    wVIssues (.vcmpFun 5 1 2 0 1 0) 0 [1, 2] [] [] [.g 5] tTask = true ∧ wVIssues (.vshuf 3 1 2 0 0 0) 0 [1, 2] [3] [] [] tTask = true ∧
    wVIssues (.vrbox 3 0 16 0 0) 0 (raySources 0 16) [3] [] [] tTask = true ∧ wVIssues (.vbcast 3 5 0 3 0) 0 [] [3] [.g 5] [] tTask = true ∧
    wVIssues (.vmovg 5 1 2 0 0 0) 0 [1, 2] [] [] [.g 5] tTask = true := by decide +kernel

theorem test_wit_VectorConversionResults :
    wVIssues (.vcvt 3 1 0 0 1 0 0) 0 [1] [3] [] [] tTask = true ∧ wVIssues (.vcvt 3 1 0 0 1 4 0) 0 [1] [3] [] [] tTask = true ∧
    wVIssues (.vqmx 3 22 2 1 0) 0 (pairRegs 22) [3] [] [] tTask = true ∧ wVIssues (.vdqmx 3 1 0 0 0) 0 [1] [3] [] [] tTask = true ∧
    wVIssues (.vdqmx 22 1 0 1 0) 0 [1] (pairRegs 22) [] [] tTask = true ∧ wVIssues (.vxdec 3 1 0) 0 [1] [3] [] [] tTask = true ∧
    wVIssues (.vrtri 16 0 8 0 0) 0 (raySources 0 8) [16, 17, 18, 19] [] [] tTask = true := by decide +kernel

/-- A load of the last 64 bytes of the window, and a bit stream there: all their pieces are local and can be read. -/
theorem test_wit_VectorLoadResults :
    let s := wG tTask [(5, 0x2000000000001FC0)]
    let p := (sourcesOf s 0 [] [3] [.g 5] []).1
    let ok (n w : Nat) (ps : List Piece) : Bool :=
      match p.checkPieces .load n (p.readG 5) ps with
      | (q, .ok ps) => !ps.any (fun x => q.copyStall x.addr x.bytes) && !ps.any (fun x => x.target = .away) && decide (0 < w) &&
          match q.readPieces ps with
          | (_, .ok _) => true
          | _ => false
      | _ => false
    wVIssues (.vld 3 5 0 2 0) 0 [] [3] [.g 5] [] s = true ∧ wVIssues (.vldb 3 5 0 0 0 0) 0 [] [3] [.g 5] [] s = true ∧
    ok 32 32 ((p.lanesOn 0 32).flatMap fun j => [elementPiece (p.readG 5) (j * 4 : Nat) 4 j]) = true ∧
    ok 1 8 ((p.lanesOn 0 8).flatMap (streamPieces (p.readG 5) 1)) = true := by decide +kernel

theorem test_wit_VectorDeliveryFrame : (23#5).toNat < 24 ∧ 64 ∈ [8, 16, 32, 64] ∧ 8 ∈ [8, 16, 32, 64] := by decide

/-- A store of the last 64 bytes of the window, and a bit stream there. -/
theorem test_wit_VectorStores :
    let s := wG tTask [(5, 0x2000000000001FC0)]
    let p := (sourcesOf s 0 [3] [] [.g 5] []).1
    let at0 (j : Nat) : Word := BitVec.ofNat 64 (0x2000000000001FC0 + 4 * j)
    wVIssues (.vst 3 5 0 2 0) 0 [3] [] [.g 5] [] s = true ∧ wVIssues (.vstb 3 5 0 0 0 0) 0 [3] [] [.g 5] [] s = true ∧
    (∀ j ∈ p.lanesOn 0 32, addOffset (p.readG 5) ((j * (32 / 8) : Nat) : Int) = some (at0 j) ∧ formatAgrees (at0 j) 32 = true ∧ spaceOf (at0 j) < 5 ∧
      wLocal p (at0 j) 4 1 (0x1FC0 + 4 * j) = true) ∧
    (match p.checkPieces .store 1 (p.readG 5) ((p.lanesOn 0 8).flatMap (streamPieces (p.readG 5) 1)) with
     | (q, .ok ps) => !ps.any (fun x => q.copyStall x.addr x.bytes) && ps.all fun x => match x.target with
        | .own _ _ => true
        | _ => false
     | _ => false) = true := by decide +kernel

/-! ### Witnesses: fork and join, steals, queues -/

/-- Whether an instruction answers a next state that passes a check. -/
def wNext (i : Instr) (s : State) (f : State → Bool) : Bool :=
  match exec i s with
  | .next t => f t
  | _ => false

/-- Whether an access to a frame for one use passes its check and can be read, and what the checks after that say. -/
def wFrame (p : State) (use : PageUse) (a : Word) (f : State → Nat → Bool) : Bool :=
  match p.frameCheck use a with
  | (q, .ok pa table) =>
    match q.readTarget a (.mem pa table) 128 with
    | (r, .ok v) => r.storeReady pa && f r v
    | _ => false
  | _ => false

/-- A task whose frame at 0x5000 (its continuation at 0x1010, g16 in it 7) lies on top of its deque. -/
def tFrame : State :=
  let s := wG { tTask with mem := Memory.writeNat (Memory.writeNat [] 0x5000 8 0x1010) 0x5040 8 7 } [(1, 0x5000), (6, 0x5000), (7, 0x2000)]
  s.modCore fun c => { c with deque := { owner := some 0, top := 0, bot := 1, entries := [(0, 0x5000)] } }

/-- A tile of no bytes, one that ends with its window, a spawn, a return into the slot's own frame, a sync without a handle and an end. -/
theorem test_wit_ForkAndJoinComplete :
    let s := tFrame
    let x := wG tTask [(6, 0x2000000000001FC0), (7, 64)]
    let p := s.prepare ([.g 6, .g 7] ++ savedRegs.map .g) [.g 5, .g 1]
    wIssues (.publish 6 7 3 0) [.g 6, .g 7] [] x = true ∧ offsetOf ((x.prepare [.g 6, .g 7] []).readG 6) + 64 = (x.ctx.window 1).size ∧
    wIssues (.tself 5 0) [] [.g 5] s = true ∧ wIssues (.spawn 5 6 7 0) ([.g 6, .g 7] ++ savedRegs.map .g) [.g 5, .g 1] s = true ∧
    wFrame p .store 0x5000 (fun _ _ => true) = true ∧ (p.readG 7).toNat = 0x2000 ∧
    wNext (.spawn 5 6 7 0) s (fun t => t.slot.pc = 0x2000 && t.core.deque.bot = 2 && landedG t 1 = 0x5000 && landedG t 5 = 0) = true ∧
    wIssues (.rets 5 0) [.g 1] ([.g 5, .g 1] ++ savedRegs.map .g) s = true ∧
    wFrame (s.prepare [.g 1] ([.g 5, .g 1] ++ savedRegs.map .g)) .load 0x5000 (fun r f =>
      r.core.deque.owner = some r.core.curSlot.val && decide (r.core.deque.top < r.core.deque.bot) &&
        AMap.getD r.core.deque.entries (r.core.deque.bot - 1) 0 = 0x5000 && f % 4 = 0 && decide (frameWord f 0 < 2 ^ 48)) = true ∧
    wNext (.rets 5 0) s (fun t => t.slot.pc = 0x1010 && t.core.deque.bot = 0 && landedG t 16 = 7) = true ∧
    wIssues (.sync 6 0) ([.g 6] ++ savedRegs.map .g) [] s = true ∧
    wFrame (s.prepare ([.g 6] ++ savedRegs.map .g) []) .store 0x5000 (fun _ f => frameWord f 3 % 8 = 0 && frameWord f 2 / 2 ^ 63 = 0) = true ∧
    wIssues (.tend 0) [] [] tTask = true ∧ (tTask.prepare [] []).core.deque.owner ≠ some 0 ∧ (tTask.prepare [] []).endReady 0 0 = true := by
  decide +kernel

/-- A state in which the links between the dies of package 0 are Up. -/
def wLinks (s : State) : State := s.modPkgAt 0 fun p => { p with links := [1, 2, 3, 4, 5, 6].map fun i => (i, { st := .up }) }

/-- Tasks of kernel 1 on cores 0 and 1 of a bent, core 0 with a frame at 0x5000 (join handle 5) on its deque and core 1 idle. -/
def tSteal (ph : StealPhase) : State :=
  let rec0 := recordSetByte (recordSetByte (recordSetByte 0 0x28 1) 0x60 2) 0x64 1
  { tFrame with
    mem := Memory.writeNat tFrame.mem 0x5010 8 (2 ^ 63 + 5)
    pkgs := [(0, { tPkg with kernels := [(1, { tKernel with cores := [0, 1], record := rec0 })], nextKern := 2 })]
    cores := tFrame.cores ++ [(1, { tCore with slots := (Vector.replicate 8 ({} : Slot)).set 0 { tSlot with run := .free }
                                               ctxs := [(1, { tCtx with rank := 1 })], steal := { phase := ph } })] }

/-- Whether a frame translates to a settled line of a bent and what the checks after that say. -/
def wXlat (s : State) (core : Nat) (a : Word) (f : State → Nat → Bool) : Bool :=
  match s.frameXlat core 1 a with
  | (u, .ok pa) => u.quietRange (bentOf core) pa 128 && u.homeRoute (bentOf core) pa ≠ .wait && f u pa
  | _ => false

theorem test_wit_StealsComplete_probe :
    let s := tSteal .idle
    let q := wLinks (tSteal (.probing 0 1))
    ((s.coreAt 1).steal.phase = .idle ∧ (s.coreAt 1).steal.blocked = 0 ∧ (s.coreAt 1).active = true ∧ s.sweep 1 = [(0, 1)]) ∧
    ((q.coreAt 0).deque.owner = some 0 ∧ ((q.coreAt 0).slotAt 0).ctx = some 1 ∧ (q.coreAt 0).deque.top < (q.coreAt 0).deque.bot ∧
      q.hasCtx 0 1 = true ∧ (q.ctxOf 0 1).state = .running ∧ q.recordReady 0 1 = true) ∧
    wXlat q 0 0x5000 (fun u pa =>
      let f := u.frameImage 0 pa
      f.1.sameUnit 1 0 1 (frameWord f.2 3 / 16 % 8) && malformedTiles (f.1.ctxOf 0 1) f.2 = 0 && joinHandle 0 (frameWord f.2 2) = some (0, 5)) = true ∧
    wNext (.probeArrival 1) q (fun t => (t.coreAt 1).steal.phase = .taken 0 1 0x5000 false 0 5 && (t.coreAt 0).deque.top = 1) = true := by
  decide +kernel

theorem test_wit_StealsComplete_backoff :
    let s := (tSteal .idle).setSteal 1 { blocked := 5 }
    let t := { s with cycle := 5 }
    (0 < (t.coreAt 1).steal.blocked ∧ (t.coreAt 1).steal.blocked ≤ t.cycle) ∧ ((tSteal .idle).setSteal 1 { pos := 1 }).seekers 1 ≠ [] ∧
    (((tSteal .idle).setSteal 1 { pos := 1 }).sweep 1).length ≤ 1 ∧ ((tSteal (.probing 0 1)).setSteal 1 { phase := .probing 1 1 } |>.coreAt 1).deque.bot = 0 ∧
    ((tSteal .empty).coreAt 1).steal.phase = .empty := by decide +kernel

/-- The count at the join table, the transfer, the start at the thief, and a resumption. -/
theorem test_wit_StealsComplete_transfer :
    let s := tSteal (.taken 0 1 0x5000 false 0 5)
    let q := tSteal (.counted 0 1 0x5000)
    let l := tSteal (.landed 1 0x5000 (BitVec.ofNat 1024 (Memory.readNat s.mem 0x5000 128)) 2 false)
    let r := s.modSlotOf 0 1 fun sl => { sl with run := .resuming 0x5000 0x5000, ctx := some 1 }
    wXlat s 0 0x5000 (fun u _ => u.route 0 0 ≠ .wait) = true ∧
    wNext (.joinIncrement 1) s (fun t => (t.coreAt 1).steal.phase = .counted 0 1 0x5000 && t.joinEntry 0 5 = 2 ^ 41) = true ∧
    wXlat q 0 0x5000 (fun u pa => (List.range 8).all fun n => (u.frameImage 0 pa).1.releaseReady 0 n 2) = true ∧
    (l.coreAt 1).freeSlot 1 = some 0 ∧
    wNext (.stolenTaskStart 1) l (fun t => (t.slotOf 1 0).pc = 0x1010 && (t.slotOf 1 0).readG 16 = 7) = true ∧
    (r.slotOf 0 1).run = .resuming 0x5000 0x5000 ∧ r.quietRange 0 0x5000 128 = true ∧ r.homeRoute 0 0x5000 ≠ .wait ∧
    wNext (.continuationResume 0 1) r (fun t => (t.slotOf 0 1).pc = 0x1010 && (t.slotOf 0 1).kind = 2) = true := by decide +kernel

/-- The queue that a descriptor names. -/
def wNames (s : State) (a : Word) (bins : Bool) : Option (State × NamedQueue) :=
  match s.readDescriptor a with
  | (u, .ok pa image) =>
    let h := descWord image 5
    match AMap.find? (u.bentAt (handleBent h)).queues (h % 256) with
    | some q =>
      if h / 2 ^ 63 = 1 ∧ u.route (dieOf u.cur) (dieOfBent (handleBent h)) = .go ∧ ((q.kind = 1) = (bins = true)) ∧ u.queueSaved q = false ∧
          u.quietRange (handleBent h) pa 64 = true then some (u, ⟨handleBent h, h % 256, q, pa + 24, true⟩)
      else none
    | none => none
  | _ => none

theorem wNames_iff (s : State) (a : Word) (bins : Bool) (u : State) (n : NamedQueue) (h : wNames s a bins = some (u, n)) : NamesQueue s a bins u n := by
  unfold wNames at h
  split at h
  · rename_i u1 pa image e
    simp only at h
    split at h
    · rename_i q eq
      split at h
      · rename_i c; obtain ⟨h1, h2, h3, h4, h5⟩ := c; cases h
        have h6 : descWord image 5 / 9223372036854775808 = 1 := h1
        intro body; unfold State.withQueue; simp [e, h1, h6, h2, eq, h3, h4, h5]
      · cases h
    · cases h
  · cases h

/-- What holds of the queue that a descriptor names. -/
def wQueue (s : State) (a : Word) (bins : Bool) (f : State → NamedQueue → Bool) : Bool :=
  match wNames s a bins with
  | some (u, n) => f u n
  | none => false

/-- CFG of a queue of 16 slots of 16 bytes at bent scope with batches of 4, and of a set of 16 buffers of 16 records. -/
def tCfg (kind : Nat) : Nat := kind * 2 ^ 62 + 2 * 2 ^ 59 + 2 ^ 32 + (if kind = 1 then 16 else 4) * 2 ^ 24 + 4 * 2 ^ 16 + 1

/-- That queue with its ring at 0x7000 and its task at 0x2000. -/
def tQueue (kind : Nat) : OpenQueue := { desc := 0x6000, core := 0, kern := 1, cfg := BitVec.ofNat 64 (tCfg kind), ring := 0x7000, entry := 0x2000 }

/-- A task whose descriptor at 0x6000 names the open queue 3 of its bent, with a record block at 0x6100 and a wait block at 0x6200. -/
def tQ (kind : Nat) (q : OpenQueue) (a b : Word) : State :=
  let s := wG tTask [(6, a), (7, b)]
  { s with
    mem := Memory.writeNat (Memory.writeNat [] 0x6028 8 (queueHandle 0 3 (tCfg kind))) 0x6100 16 0x1234
    bents := [(0, { tlb := [tLeaf], seqOwner := [(1, (0, 4))], joinOwner := [(1, 1)], binOwner := [(1, 1)], queues := [(3, q)] })] }

/-- A bind, a push and a pop of a ring and of stages, and a counter next to its largest value. -/
theorem test_wit_QueueRegistersAndQueues_rings :
    let bind (w : Word) (b : Binding) : State := wG (wCtx tTask fun c => { c with bindings := [(0, { b with word := w, bound := true })] }) [(5, 0x2000000000000000)]
    let s := wG tTask [(5, 0x1043000000000002)]
    let p := s.prepare [.g 5] []
    let r := bind 0x1043000000000002 { free := 1, fill := 1 }
    let g := bind 0x184B000000000002 { fill := 1, free := 0, held := 1, head := 1 }
    let c : State := { wG tTask [(6, 0), (7, 5)] with
      bents := [(0, { tlb := [tLeaf], seqOwner := [(1, (0, 4))], sram := Memory.writeNat [] 0x8000 8 (2 ^ 64 - 2) })]
      pkgs := [(0, { tPkg with kernels := [(1, { tKernel with record := recordSetByte 0 0x40 4 })] })] }
    let q := c.prepare [.g 6, .g 7] [.g 5]
    wIssues (.qbind 0 5 0) [.g 5] [] s = true ∧ bindReserved (p.readG 5) = false ∧ (p.binding 0).bound = false ∧
    wIssues (.qpush 0 5 0) [.g 5] [] r = true ∧ (r.binding 0).kind = 1 ∧ (r.binding 0).stage = false ∧ (r.binding 0).sz = 3 ∧ (r.binding 0).free ≠ 0 ∧
    wIssues (.qpop 5 0 0) [] [.g 5] r = true ∧ (r.prepare [] [.g 5]).popPoisoned 0 = false ∧
    (g.binding 0).stage = true ∧ (g.binding 0).held ≠ 0 ∧ (g.binding 0).pointer ((1 + 2 - 1) % 2) = (g.prepare [.g 5] []).readG 5 ∧
    wNext (.qpush 0 5 0) g (fun t => t.slot.pc = 0x1004 && (t.binding 0).held = 0) = true ∧
    wIssues (.sqinc 5 6 7 0) [.g 6, .g 7] [.g 5] c = true ∧ q.seqRefused 0 1 0 = false ∧ q.route 0 0 = .go ∧ (q.seqAddress 0 1 0).isSome = true ∧
    q.releaseReady 0 0 2 = true ∧ ((q.release 0 2).seqAddress 0 1 0).isSome = true ∧ Memory.wf ((q.release 0 2).bentAt 0).sram = true ∧
    wNext (.sqinc 5 6 7 0) c (fun t => t.seqValue 0 1 0 = 2 ^ 64 - 1 && landedG t 5 = -1) = true ∧
    wIssues (.sqread 5 6 0) [.g 6] [.g 5] c = true := by decide +kernel

/-- ENQ with and without a record, SPAWNB into a new and an old bin, BINFLUSH, TASKQ with no pairs and DONATE of the least record. -/
theorem test_wit_QueueRegistersAndQueues_queues :
    let s := tQ 0 (tQueue 0) 0x6000 0x6100
    let b := tQ 1 (tQueue 1) 0x6000 0x6100
    let o := b.modBentAt 0 fun x => { x with bins := [(64, { kern := 1, set := 3, key := 0x1234, recs := [], arrivals := [] })] }
    let w := tQ 0 (tQueue 0) 0x6200 0x6000
    let d := tQ 0 (tQueue 0) 0x8000000100000200 0x6100
    wIssues (.enq 5 6 7 0) [.g 6, .g 7] [.g 5] s = true ∧
    wQueue (s.prepare [.g 6, .g 7] [.g 5]) 0x6000 false (fun u n =>
      match u.readBlock (u.readG 7) n.q.size 16 true with
      | (r, .ok _) => r.releaseReady 0 0 n.q.scope && !n.q.full &&
          match (r.release 0 n.q.scope).engineRange 0 ((r.release 0 n.q.scope).queueSpace 0 n.q) .store (n.q.slotAddress n.q.enqcnt) n.q.size 2 with
          | (_, .ok _) => true
          | _ => false
      | _ => false) = true ∧
    wNext (.enq 5 6 7 0) s (fun t => landedG t 5 = 0 && (AMap.find? (t.bentAt 0).queues 3).map OpenQueue.enqcnt = some 1) = true ∧
    [b, o].all (fun b => wIssues (.spawnb 5 6 7 0) [.g 6, .g 7] [.g 5] b &&
      wQueue (b.prepare [.g 6, .g 7] [.g 5]) 0x6000 true (fun u n =>
        match u.readBlock (u.readG 7) n.q.size 16 true with
        | (r, .ok v) => !((r.bentAt 0).binsOf 1).isEmpty && r.releaseReady 0 0 n.q.scope && v % 2 ^ 16 = 0x1234
        | _ => false) && wNext (.spawnb 5 6 7 0) b (fun t => landedG t 5 = 1) && wIssues (.binflush 6 0) [.g 6] [] b) = true ∧
    wIssues (.taskq 5 6 7 0) [.g 6, .g 7] [.g 5] w = true ∧
    (match (w.prepare [.g 6, .g 7] [.g 5]).readBlock 0x6200 64 64 false with
     | (u, .ok v) => taskPairs v = [] && wQueue u 0x6000 false (fun x n =>
        match x.readBlock 0x6240 n.q.size 16 false with
        | (r, .ok _) => r.releaseReady 0 0 n.q.scope && decide ((r.release 0 n.q.scope).bent.waits.length < 256)
        | _ => false)
     | _ => false) = true ∧
    wIssues (.donate 5 6 7 0) [.g 6, .g 7] [.g 5] (tQ 0 (tQueue 0) 0x8000002000000200 0x6100) = true ∧
    (0x8000002000000200 / 2 ^ 32 % 32 = 0 ∧ 0x8000000100000200 / 2 ^ 32 % 32 = 1 ∧ 0x8000000100000200 / 2 ^ 8 % 16 = 2) ∧
    (match (d.prepare [.g 6, .g 7] [.g 5]).readBlock 0x6100 16 16 true with
     | (r, .ok _) => r.releaseReady 0 0 5
     | _ => false) = true ∧
    wNext (.donate 5 6 7 0) d (fun t => t.core.donations.length = 1) = true := by decide +kernel

/-- A queue with a record due, with a batch cut, with a ready wait and a failed one, and donated records with and without a queue. -/
theorem test_wit_QueueEventsComplete :
    let old := { tQ 0 { tQueue 0 with enqcnt := 1, arrivals := [0] } 0 0 with cycle := 128 }
    let cut := (tQ 0 { tQueue 0 with enqcnt := 1, cut := 1, batches := [{ first := 0, count := 1 }] } 0 0).modSlotOf 0 1 fun sl => { sl with ctx := some 1, num := 1 }
    let bin := (tQ 1 (tQueue 1) 0 0).modBentAt 0 fun x => { x with bins := [(64, { kern := 1, set := 3, key := 7, recs := [[1, 2]], arrivals := [0], due := true })] }
    let wait (f : Option Nat) := (tQ 0 (tQueue 0) 0 0).modBentAt 0 fun x => { x with waits := [⟨0, 1, 0x6000, 0, [], List.replicate 16 0, f, none⟩] }
    let mark : TaskWait := ⟨0, 1, 0x6000, 0, [], List.replicate 16 0, none, some (0, 1)⟩
    let two := (tQ 0 (tQueue 0) 0 0).modBentAt 0 fun x => { x with waits := [mark, mark] }
    let give (h : Word) := (tQ 2 { tQueue 0 with cfg := BitVec.ofNat 64 (tCfg 2) } 0 0).modCore fun c =>
      { c with donations := [⟨9, 0, 5, h, List.replicate 16 0⟩] }
    (tQueue 0).timeout ≤ old.cycle / 64 * 64 ∧ wNext (.timeoutExamination 0) old (fun t => (AMap.find? (t.bentAt 0).queues 3).map OpenQueue.cut = some 1) = true ∧
    cut.dispatchCore 0 (tQueue 0) = some (0, 1) ∧ wNext (.batchDispatch 0 3) cut (fun t => (t.slotOf 0 1).pc = 0x2000 && (t.slotOf 0 1).readG 5 = 1) = true ∧
    (bin.bentAt 0).binsOldestFirst (fun y => y.due) = [64] ∧ (bin.launchBin 0 64).isSome = true ∧
    (wait none).findQueue 0 = some (0, 3, tQueue 0) ∧
    wNext (.taskqReadyAppend 0 0) (wait none) (fun t => (t.bentAt 0).waits = [] && (AMap.find? (t.bentAt 0).queues 3).map OpenQueue.enqcnt = some 1) = true ∧
    two.waitTurn 0 0 mark = true ∧ two.waitTurn 0 1 mark = false ∧ wNext (.taskqReadyAppend 0 1) two (fun t => (t.bentAt 0).waits = [mark, mark]) = true ∧
    (wLinks (wait (some 0))).recordReady 0 1 = true ∧ (wLinks (wait (some 0))).recordOutstanding 0 1 0 = false ∧
    wNext (.donationArrival 0 9) (give (BitVec.ofNat 64 (queueHandle 0 4 1))) (fun t => (t.slotOf 0 0).run = .ready && (t.slotOf 0 0).readG 5 = 2 ^ 63 + 2) = true ∧
    wNext (.donationArrival 0 9) (give (BitVec.ofNat 64 (queueHandle 0 3 1))) (fun t => (t.slotOf 0 0).run = .ready && (t.slotOf 0 0).readG 5 = 0) = true := by
  decide +kernel

/-! ### Witnesses: barriers and monitors -/

/-- A task whose handle 3 names entry 2 of its bent, which holds e. -/
def tBar (e : BarEntry) (a b : Word) : State :=
  let s := wG (wCtx tTask fun c => { c with bmap := [(3, barName 0 2)] }) [(6, a), (7, b)]
  (s.modBentAt 0 fun x => { x with bars := [(2, { kern := 1, core := 0, handle := 3 })] }).putBar 0 2 e

/-- An open entry of two arrivals. -/
def tOpen : BarEntry := ⟨0, 2, 0, 0, 0, 0, 2, 1, false, 0⟩

/-- BINIT of the last handle, mapped and not, and the other instructions before and after the end of phase 0, and on a Faulted entry. -/
theorem test_wit_BarriersComplete_instructions :
    let s := tBar tOpen 3 (-1)
    let n := wCtx (wG s [(7, 0x0000000100000000)]) fun c => { c with bmap := [] }
    let p := n.prepare [.g 6, .g 7] [.g 5]
    wIssues (.binit 5 6 7 0) [.g 6, .g 7] [.g 5] s = true ∧ (3 < s.ctx.barriers ∧ s.ctx.barriers = 4) ∧ AMap.getD s.ctx.bmap 3 0 = barName 0 2 ∧
    p.reservedBar 0 1 3 = some (0, 2) ∧ (p.barInfo 0 2).freed = false ∧ p.route 0 0 = .go ∧ p.releaseReady 0 0 2 = true ∧
    wNext (.binit 5 6 7 0) n (fun t => landedG t 5 = barName 0 2 && (t.bentAt 0).barEntry 2 = ⟨0, 1, 0, 0, 0, 0, 2, 1, false, 0⟩) = true ∧
    wIssues (.barrive 6 0) [.g 6] [] s = true ∧ (s.prepare [.g 6] []).releaseReady 0 0 2 = true ∧ wIssues (.bexpect 6 7 0) [.g 6, .g 7] [] s = true ∧
    wIssues (.bfree 6 0) [.g 6] [] s = true ∧ wIssues (.bwait 5 6 0) [.g 6] [.g 5] s = true ∧ wIssues (.btest 5 6 0) [.g 6] [.g 5] s = true ∧
    wNext (.bwait 5 6 0) s (fun t => t.slot.run = .waiting) = true ∧
    wNext (.bwait 5 6 0) (tBar { tOpen with phase := 1 } 3 0) (fun t => t.slot.pc = 0x1004 && landedG t 5 = 2 ^ 63 + 1) = true ∧
    wNext (.bwait 5 6 0) (tBar { tOpen with state := 3, fkind := 1 } 3 0) (fun t => t.slot.td = 1) = true := by decide +kernel

/-- An arrival before the last, the last one, one too many, bytes up to the expectation and past the field, and a wake. -/
theorem test_wit_BarriersComplete_events :
    let s (e : BarEntry) (kind : Nat) (n : Int) := (tBar e 0 0).modBentAt 0 fun x => { x with barIn := [{ kind := kind, index := 2, n := n, source := 0, kern := 1 }] }
    let one (k : Nat) : BarMsg := { kind := 2, index := 2, n := 1, source := k, kern := 1 }
    let pair := (tBar { tOpen with arrivals := 3 } 0 0).modBentAt 0 fun x => { x with barIn := [one 16, one 17] }
    let w := ((tBar tOpen 0 0).modBentAt 0 fun x => { x with wakes := [(barName 0 2, true)] }).modSlot fun sl => { sl with run := .waiting }
    ((s tOpen 2 1).barInfo 0 2).check = none ∧ (s tOpen 2 1).route 0 0 = .go ∧ Memory.wf ((s tOpen 2 1).bentAt 0).sram = true ∧
    wNext (.barrierArrival 0) (s tOpen 2 1) (fun t => (t.bentAt 0).barEntry 2 = { tOpen with state := 2, arrived := 1 }) = true ∧
    wNext (.barrierArrival 0) (s { tOpen with state := 2, arrived := 1 } 2 1) (fun t => (t.bentAt 0).barEntry 2 = { tOpen with state := 2, phase := 1 }) = true ∧
    wNext (.barrierArrival 0) (s { tOpen with state := 2, arrived := 2, expb := 8 } 2 1) (fun t => (t.bentAt 0).barEntry 2 =
      { tOpen with state := 3, arrived := 2, expb := 8, fkind := 1 }) = true ∧
    wNext (.barrierByteCount 0) (s { tOpen with state := 2, arrived := 2, expb := 8 } 1 8) (fun t => (t.bentAt 0).barEntry 2 =
      { tOpen with state := 2, phase := 1 }) = true ∧
    wNext (.barrierExpect 0) (s tOpen 0 (2 ^ 28 - 1)) (fun t => (t.bentAt 0).barEntry 2 = { tOpen with state := 2, expb := 2 ^ 28 - 1 }) = true ∧
    wNext (.barrierArrival 0) (s { tOpen with state := 2, arrived := 2, expb := 8, cntb := 9 } 2 1) (fun t => ((t.bentAt 0).barEntry 2).fkind = 2) = true ∧
    pair.barFind 0 (fun x => x.kind = 2) = some (0, one 16) ∧ pair.barMerged 0 0 (one 16) = [(0, one 16), (1, one 17)] ∧
    wNext (.barrierArrival 0) pair (fun t => (t.bentAt 0).barEntry 2 = { tOpen with arrivals := 3, state := 2, arrived := 2 } && (t.bentAt 0).barIn = []) = true ∧
    wNext (.barrierWake 0) w (fun t => (t.slotOf 0 0).run = .ready && (t.slotOf 0 0).evt) = true := by decide +kernel

/-- A monitor of kernel 1 over the last 8 bytes of the A-store window, checked by entry 2 of its bent. -/
def tMonitor : Monitor := { st := .set, kern := 1, win := 0x2000000000001FF8, len := 8, stride := 8, acc := 5, ref := 1, bound := 4, barrier := barName 0 2 }

/-- A task with that monitor as its monitor 7, and memory whose block at 0x6000 sets it. -/
def tMon (y : Monitor) (a b : Word) : State :=
  let s := wCtx (tBar { tOpen with mon := 128 } a b) fun c => { c with mmap := [(7, monWord 0)] }
  { (s.setMonitor 0 7 y) with mem := Memory.writeNat [] 0x6000 32 (8 * 2 ^ 128 + 8 * 2 ^ 64 + 0x2000000000001FF8) }

theorem test_wit_MonitorsComplete_instructions :
    let new := tMon {} 7 0x6000
    let s := tMon tMonitor 7 3
    let r := tMon tMonitor 7 0x6040
    wIssues (.monset 5 6 0 0) [.g 6, .g 0] [.g 5] new = true ∧ wIssues (.monset 5 6 7 0) [.g 6, .g 7] [.g 5] new = true ∧ (new.monitor 0 7).st = .free ∧
    (match (new.prepare [.g 6, .g 7] [.g 5]).readBlock 0x6000 64 64 true with
     | (r, .ok v) => v / 2 ^ (8 * 0x1A) = 0 && (monitorOf 1 v).inRange r.hasFeature r.ctx
     | _ => false) = true ∧
    wNext (.monset 5 6 7 0) new (fun t => (t.monitor 0 7).win = 0x2000000000001FF8 && landedG t 5 = 0) = true ∧
    wIssues (.monarm 6 7 0) [.g 6, .g 7] [] s = true ∧ s.ctx.monBent 7 = some 0 ∧ (s.monitor 0 7).claimedBy 1 = true ∧ s.route 0 0 = .go ∧
    ((s.bentAt 0).barEntry 2).mon / 2 ^ 7 % 2 = 1 ∧ inScope 0 0 2 = true ∧
    wNext (.monarm 6 7 0) s (fun t => (t.monitor 0 7).st = .armed && (t.monitor 0 7).ranges = [⟨1, 0, 0x1FF8, 8, 0⟩]) = true ∧
    wIssues (.monref 6 7 0) [.g 6, .g 7] [] r = true ∧
    (match (r.prepare [.g 6, .g 7] []).readBlock 0x6040 80 16 true with
     | (_, .ok v) => decide (0 ≤ toSigned 320 (v / 2 ^ 320))
     | _ => false) = true ∧
    wIssues (.monread 5 6 7 0) [.g 6, .g 7] [.g 5] (tMon tMonitor 7 12) = true ∧ wIssues (.monclr 6 0) [.g 6] [] s = true := by decide +kernel

theorem test_wit_MonitorsComplete_events :
    let arm := { tMonitor with st := .armed }
    let s := (tMon arm 0 0).setBarInfo 0 2 { kern := 1, core := 0, handle := 3, check := some { waiting := [(0, 7)] } }
    let v := (tMon arm 0 0).setBarInfo 0 2 { kern := 1, core := 0, handle := 3, check := some { waiting := [], drift := 6, ref := 1, bound := 4 } }
    s.route 0 0 = .go ∧ wNext (.monitorCollect 0 7) s (fun t => ((t.barInfo 0 2).check.map PlumbCheck.drift) = some 5 && (t.monitor 0 7).acc = 0) = true ∧
    (v.barInfo 0 2).check.isSome = true ∧ wNext (.plumbVerdict 0 2) v (fun t => ((t.bentAt 0).barEntry 2).oop && ((t.bentAt 0).barEntry 2).phase = 1) = true ∧
    ((tMon tMonitor 0 0).ctxOf 0 1).monBent 7 = some 0 ∧ (tMonitor.withCsr 4 0x0101).inRange ((tMon tMonitor 0 0).accepted 0) ((tMon tMonitor 0 0).ctxOf 0 1) = true := by
  decide +kernel

/-! ### Witnesses: copies and messages -/

/-- CX registers of a copy of 128 bytes from the start of the A-store to offset 0x40 of the W-store on channel 1. -/
def tCx : AMap Word := [(0, 0x2000000000000000), (1, 0x4000000000000040), (2, 128), (3, 0), (4, 0), (5, 0x0010000000000000), (6, 0), (7, 0), (8, 0)]

/-- That copy. -/
def tXfer (st : XferState) : Transfer := { slot := 0, chan := 1, seq := 5, sup := false, cx := tCx, shape := {}, lo := 0x40, hi := 0xC0, st := st }

/-- A task with that copy on its channel. -/
def tCopy (x : Option Transfer) (done : List Transfer) : State :=
  wG (wCtx tTask fun c => { c with chans := [(0, {}), (1, { seq := 5, cur := x, done := done })] }) [(6, xferId 1 5)]

/-- A shape record of one dimension of 32 bytes, its image at 0x6000, and a launch from the CX registers, which are written to CX set 1. -/
theorem test_wit_CopyInstructionsComplete :
    let s := (tCopy none []).modSlot fun sl => { sl with cx := tCx.map fun p => (16 + p.1, p.2) }
    let bad := s.modSlot fun sl => { sl with cx := AMap.set sl.cx 18 0 }
    let y := { wG tTask [(6, 0x6000), (7, 0x2000000000000000)] with mem := Memory.writeNat (Memory.writeNat [] 0x6000 4 0x00200101) 0x600C 4 32 }
    let held := { tXfer .held with code := 5, fault := 0x99 }
    wIssues (.cput 1 6 8) [.g 6] [] s = true ∧ wIssues (.cget 1 8 5) [] [.g 5] s = true ∧
    wIssues (.shapeMk 7 6 7 0) [.g 6, .g 7] [] y = true ∧
    (match (y.prepare [.g 6, .g 7] []).readBlock 0x6000 64 64 true with
     | (r, .ok v) => r.slot.ctx.isSome && shapeDescriptor r.hasFeature { image := BitVec.ofNat 512 v, base := 0x2000000000000000 } = none &&
         shapeMisaligned { image := BitVec.ofNat 512 v, base := 0x2000000000000000 } = none &&
         shapeDescriptor r.hasFeature { image := 0, base := 0 } = some 0
     | _ => false) = true ∧
    wIssues (.shapeGet 5 7 8 0) [] [.g 5] y = true ∧ wIssues (.claunch 1 5) [] [.g 5] s = true ∧
    (bad.prepare [] [.g 5]).launchError 1 ((bad.prepare [] [.g 5]).draft 1) = some 1 ∧
    (s.prepare [] [.g 5]).launchError 1 ((s.prepare [] [.g 5]).draft 1) = none ∧ (s.prepare [] [.g 5]).releaseReady 0 0 1 = true ∧
    wNext (.claunch 1 5) s (fun t => landedG t 5 = xferId 1 6 && (AMap.getD t.core.copyq 1 []).length = 1) = true ∧
    wIssues (.cstatus 6 5) [.g 6] [.g 5] s = true ∧
    [(none, [tXfer .complete]), (some (tXfer .running), []), (some held, [])].all (fun p =>
      let s := tCopy p.1 p.2
      wIssues (.cwait 6 5) [.g 6] [.g 5] s && wIssues (.cabort 6 5) [.g 6] [.g 5] s &&
        match s.core.findCopy 1 (s.readG 6) with
        | .named _ => true
        | _ => false) = true ∧
    (tCopy none [tXfer .complete]).core.copySettled 1 1 5 = true ∧ (tCopy (some held) []).core.copySettled 1 1 5 = true ∧
    wNext (.cwait 6 5) (tCopy (some held) []) (fun t => t.slot.td = 1) = true ∧
    wNext (.cabort 6 5) (tCopy (some (tXfer .running)) []) (fun t => t.slot.pc = 0x1004 && t.core.channelCopies 1 1 = []) = true := by decide +kernel

/-- A start, a landing of the first 64 bytes and of all 128, a page without a translation, a poisoned source, and the supervisor's writes. -/
theorem test_wit_CopyEventsComplete :
    let q := (tCopy none []).modCore fun c => { c with copyq := [(1, [(1, tXfer .queued)])] }
    let s := tCopy (some (tXfer .running)) []
    let far := { tXfer .running with cx := AMap.set tCx 0 0x0000900000000000 }
    let g := wLinks (tCopy (some far) [])
    let e := s.modCore fun c => { c with poisonA := [0] }
    let f := wCtx s fun c => { c with chans := [(1, { seq := 5, cur := some (tXfer .faulted), flt := true })] }
    q.hasCtx 0 1 = true ∧ (q.coreAt 0).mayBegin [] = true ∧ 0 < (tXfer .queued).elemBytes ∧
    wNext (.copyStart 0 1) q (fun t => ((t.chanOf 0 1 1).cur.map Transfer.st) = some .running && (t.chanOf 0 1 1).wm = 0x40) = true ∧
    (tXfer .running).isNew 0 64 = true ∧ (match s.landCopy 0 1 (tXfer .running) 1 0 64 with
     | some (u, .ok (x, _)) => x.covered = 0 && x.landed = [] && u.hasCtx 0 1 && decide (0 + 64 < x.elemBytes + x.scaleBytes)
     | _ => false) = true ∧
    wNext (.copyLanding 0 1 1 0 128) s (fun t => (t.chanOf 0 1 1).cur = none) = true ∧
    (match g.copyStop 0 1 far 1 with
     | some (.fault va _) => (g.appendRecord 0 1 [1, far.id, va, 0, 1, 0, 0, 0]).isSome && g.recordReady 0 1
     | _ => false) = true ∧
    wNext (.copyTranslationFault 0 1 1) g (fun t => (t.chanOf 0 1 1).flt) = true ∧
    (match e.copyStop 0 1 (tXfer .running) 1 with
     | some (.error _ _) => true
     | _ => false) = true ∧
    1 < (f.ctxOf 0 1).chan ∧ (f.chanOf 0 1 1).flt = true ∧ (0x8000000000000040#64).getLsbD 62 = false ∧ (0x2000000000000040#64).getLsbD 61 = true ∧
    wNext (.cwmResume 0 1 1 0x40) f (fun t => ((t.chanOf 0 1 1).cur.map Transfer.st) = some .running) = true ∧
    wNext (.cwmHold 0 1 1 0x2000000000000040) f (fun t => ((t.chanOf 0 1 1).cur.map Transfer.st) = some .held) = true := by decide +kernel

/-- A send of 8 bytes to the mailbox of rank 0, and the packet of a send with the destination word w. -/
def tSend (w : Word) : BufferedSend := { block := false, dest := w, payload := 0x77, fmt := 0, sendId := 1 }
def tPacket (w : Word) : Packet := { kern := 1, rank := 0, asid := 0, send := tSend w, injected := true, toCore := some 0, bytes := [0x77] }

/-- A post that every message matches, of 64 bytes at the start of the A-store, and a message of 8 bytes. -/
def tPost : Post :=
  { id := 1, core := 0, kern := 1, asid := 0, words := [0, 0, 0x2000000000000000, 64, 0, 0x2000000000000000, 0, 0], shape := {}, bar := 0, cookie := 9 }
def tMsg : TwoSided :=
  { core := 0, kern := 1, pkg := 0, rank := 0, asid := 0, tag := 5, fmt := 0, len := 8, bytes := List.replicate 8 7, rendezvous := false, sendId := 1
    src := 0, act := 0, bar := 0 }

theorem test_wit_MessageInstructionsComplete :
    let s := { wG tTask [(6, 0x0700000000000000), (7, 0x6000)] with mem := Memory.writeNat [] 0x6008 8 16 }
    let p := s.prepare [.g 6, .g 7] []
    let b := wG s [(6, 0x8000000000000000)]
    let q := wCtx (wG s [(6, 7), (7, 0x2000)]) fun c => { c with bindings := [(7, { word := 2 * 2 ^ 60, bound := true })] }
    let h := s.modSlot fun sl => { sl with sends := [tSend 0], handler := some { queue := 7, entry := 0, released := false } }
    let d := { s with mem := Memory.writeNat (Memory.writeNat (Memory.writeNat [] 0x6010 8 0x2000000000000000) 0x6018 8 64) 0x6028 8 (2 ^ 61) }
    let r := wG d [(6, 0x6000), (7, 9)]
    let c (l : List Post) := (wG s [(6, 1)]).modDieAt 0 fun x => { x with posts := l }
    wIssues (.sendi 6 7 0) [.g 6, .g 7] [] s = true ∧ p.destRefused (p.readG 6) false = false ∧ p.destFeature (p.readG 6) = false ∧
    (match p.readBlock 0x6000 8 8 true with
     | (r, .ok _) => decide (r.slot.sends.length < 32)
     | _ => false) = true ∧
    wIssues (.sendb 5 6 7 0) [.g 6, .g 7] [.g 5] b = true ∧
    (match (b.prepare [.g 6, .g 7] [.g 5]).readBlock 0x6000 32 32 true with
     | (r, .ok v) => r.sendbError 0x8000000000000000 v = none && r.sendbError 0 v = some 0x0E && r.sendbError 0x8000000000000000 0 = some 1
     | _ => false) = true ∧
    wIssues (.qwake 6 7 0) [.g 6, .g 7] [] q = true ∧ (q.binding 7).kind = 2 ∧ wIssues (.msgdone 0) [] [] s = true ∧ wIssues (.msgdone 0) [] [] h = true ∧
    (h.prepare [] []).injectRoom 0 0 = true ∧ wNext (.msgdone 0) h (fun t => t.core.inject.length = 1) = true ∧
    wIssues (.rpost 5 6 7 0) [.g 6, .g 7] [.g 5] r = true ∧
    (match (r.prepare [.g 6, .g 7] [.g 5]).readBlock 0x6000 64 64 true with
     | (u, .ok v) => u.rpostError { tPost with words := (List.range 8).map fun i => BitVec.ofNat 64 (descWord v i) } = none &&
         u.core.mayBegin (u.fencedFor 3) && u.releaseReady 0 0 1
     | _ => false) = true ∧
    wNext (.rpost 5 6 7 0) r (fun t => (t.dieAt 0).posts = [tPost] && landedG t 5 = 1) = true ∧
    wIssues (.rcancel 5 6 0) [.g 6] [.g 5] (c []) = true ∧
    wNext (.rcancel 5 6 0) (c [tPost]) (fun t => (t.dieAt 0).posts = [] && landedG t 5 = 0) = true := by decide +kernel

theorem test_wit_MessageEventsComplete :
    let s (n : Nat) := (wCtx tTask fun c => { c with mailbox := List.replicate n 3 }).modCore fun c => { c with inject := [tPacket 0] }
    let t := { (s 0).modCore fun c => { c with inject := [{ tPacket 0 with refused := true, backoff := 256, due := 9 }] } with cycle := 9 }
    let e := tTask.modCore fun c => { c with sendErrors := [(1, 0, 0x15, 0x99)] }
    let free := tTask.modSlotOf 0 1 fun sl => { sl with ctx := some 1, num := 1 }
    let wake (k : Nat) := wCtx free fun c =>
      { c with mailbox := [3], channels := [(0, [4])], bindings := [(7, { word := BitVec.ofNat 64 (k * 2 ^ 60), bound := true, wake := 0x2000 })] }
    let r := (tTask.modCore fun c => { c with inject := [tPacket 0x8700000000000000] }).modDieAt 0 fun x => { x with posts := [tPost] }
    let land (clear : Bool) := tTask.modDieAt 0 fun x => { x with landings := [{ post := tPost, msg := { tMsg with rendezvous := !clear }, clear := clear }] }
    let bad := { tPost with words := [0, 0, 0x8000002008000000, 64, 0, 0x2000000000000000, 0, 0] }
    let nobody := tTask.modCore fun c => { c with inject := [{ tPacket 0x0000010000000000 with injected := false, toCore := none, bytes := [] }] }
    nobody.mayInject 0 { tPacket 0x0000010000000000 with injected := false, toCore := none, bytes := [] } = true ∧ nobody.rankCore 0 1 1 = none ∧
    wNext (.packetDelivery 0) nobody (fun t => t.core.inject = [] && t.core.sendErrors = [(1, 0, 0x15, 0x0000010000000000)]) = true ∧
    (s 0).rankCore 0 1 0 = some 0 ∧ (s 0).hasCtx 0 1 = true ∧ ((s 0).ctxOf 0 1).state = .running ∧
    wNext (.packetDelivery 0) (s 63) (fun t => (t.ctxOf 0 1).mailbox.length = 64) = true ∧
    wNext (.packetDelivery 0) (s 64) (fun t => (t.ctxOf 0 1).mailbox.length = 64 && t.core.inject.map Packet.due = [256]) = true ∧
    (t.coreAt 0).nextPacket (fun p => p.refused && decide (p.due ≤ t.cycle)) = some (0, { tPacket 0 with refused := true, backoff := 256, due := 9 }) ∧
    e.rankCore 0 1 0 = some 0 ∧ e.saveAreaQuiet 0 1 0x600 64 = true ∧ ((wake 2).coreAt 0).freeSlot 1 = some 1 ∧ ((wake 2).ctxOf 0 1).starts = true ∧
    wNext (.handlerStart 0 1 7) (wake 2) (fun t => (t.slotOf 0 1).pc = 0x2000 && (t.slotOf 0 1).readG 6 = 7) = true ∧
    wNext (.wakeTaskStart 0 1 7) (wake 3) (fun t => (t.slotOf 0 1).pc = 0x2000 && (t.slotOf 0 1).readG 4 = 7) = true ∧
    wNext (.receiveArrival 0) r (fun t => t.core.inject = [] && (t.dieAt 0).landings.length = 1) = true ∧
    (land false).route 0 0 ≠ .wait ∧ wNext (.clearToSend 0 0) (land false) (fun t => (t.dieAt 0).landings.map Landing.clear = [true]) = true ∧
    ({ post := tPost, msg := tMsg : Landing }).total = 8 ∧
    wNext (.messageLanding 0 0 8) (land true) (fun t => (t.dieAt 0).landings = []) = true ∧
    (match (land true).landMessage { post := { tPost with words := bad.words }, msg := tMsg }
        ((land true).leastRun { post := bad, msg := tMsg }) with
     | some (_, .error (_, .error _ _)) => true
     | _ => false) = true := by decide +kernel

/-! ### Witnesses: pages and coherence -/

/-- A task whose page table at 0x20000 maps the lowest addresses to themselves. -/
def tTable : State := { wG (wCtx tTask fun c => { c with ptroot := 0x20000 }) [(6, 0x3008), (7, 1)] with mem := Memory.writeNat [] 0x20000 8 0xF800000000000000 }

/-- The answer of SUBS to the page at g6. -/
def wSubs (s : State) (f : SubsAnswer → Bool) : Bool :=
  match (s.prepare [.g 6, .g 7] [.g 5]).checkAccess .load 1 0x3008 with
  | (q, .ok (.mem pa _)) => f (q.subscribe 0 1 (pa / 2 ^ 15) (q.time 0 + 1000 * 1) 1).2
  | _ => false

/-- SUBS of no time, of the least and the most, where it is granted and where the home has 16 subscribers, and UNSUBS of a page that is mapped and one that is not. -/
theorem test_wit_PagesComplete_instructions :
    let full := tTable.modDieAt 0 fun d => { d with subDirs := Vector.replicate 3 [(0, List.range 16)] }
    let p := tTable.prepare [.g 6] []
    wIssues (.subs 5 6 7 0) [.g 6, .g 7] [.g 5] tTable = true ∧ wSubs tTable (fun a => match a with
      | .expiry _ => true
      | _ => false) = true ∧ wSubs full (fun a => a = .refused 3) = true ∧
    wNext (.subs 5 6 7 0) (wG tTable [(7, 0)]) (fun t => landedG t 5 = BitVec.ofNat 64 (2 ^ 63 + 4 * 2 ^ 56)) = true ∧
    wNext (.subs 5 6 7 0) (wG tTable [(7, 2 ^ 20)]) (fun t => landedG t 5 = BitVec.ofNat 64 (2 ^ 63 + 4 * 2 ^ 56)) = true ∧
    wNext (.subs 5 6 7 0) (wG tTable [(7, 2 ^ 20 - 1)]) (fun t => landedG t 5 = 1000 * (2 ^ 20 - 1) && t.subscribed 0 0) = true ∧
    wIssues (.unsubs 6 0) [.g 6] [] tTable = true ∧ p.pageOf 0x3008 = some 0 ∧ p.pageQuiet 0 0 = true ∧ p.pageOf 0x900000000000 = none := by decide +kernel

/-- A push to a subscribed line, one to a line that is not held, an invalidation, a page-table write, a walk's start, its two ends, and a retry. -/
theorem test_wit_PagesComplete_events :
    let s := tTable
    let push := s.modBentAt 0 fun b => { b with subs := [(0, [⟨0, 1, 9, 9⟩])], l2 := [(0x30, { sub := true })], pushes := [⟨0x30, 0x77, 1⟩] }
    let inv := s.modBentAt 0 fun b => { b with ptInv := [0x100], tlb := [{ tLeaf with lines := [0x100] }] }
    let write := s.modDieAt 0 fun d => { d with ptWrites := [⟨0x20000, 8, 5, 255, [], none⟩] }
    let miss (root : Word) (walking : Bool) := (s.modSlot fun sl => { sl with run := .waiting }).modBentAt 0 fun b =>
      { b with walks := [{ asid := 0, root := root, page := 0, users := [⟨0, 0, 0, false⟩], walking := walking }], missRetry := [(0, 0, 0)] }
    push.subscribed 0 0 = true ∧ push.quiet 0 0x30 = true ∧
    wNext (.subscriptionPush 0 0) push (fun t => (AMap.find? (t.bentAt 0).l2 0x30).map (fun l => l.data) = some 0x77) = true ∧
    push.subscribed 0 (0x31 * 256) = false ∧ inv.quiet 0 0x100 = true ∧ inv.accessPending 0 0 (leafSize 1) = false ∧
    wNext (.ptInvalidation 0) inv (fun t => (t.bentAt 0).tlb = []) = true ∧ write.isRehomeRequest 0x20000 8 5 255 = false ∧
    write.rehomeOf (0x20000 / 2 ^ 15) = none ∧ wNext (.ptWritePerform 0 0) write (fun t => Memory.readNat t.mem 0x20000 8 = 5) = true ∧
    (s.walk 0 0 0x20000 0).lines.all (fun x => s.homeRoute 0 (x.1 * 256) ≠ .wait) = true ∧
    wNext (.tableWalkStart 0) (miss 0x20000 false) (fun t => (t.bentAt 0).walks.map WalkEntry.walking = [true]) = true ∧
    s.walk 0 0 0x20000 0 = .leaf 1 0xF800000000000000 [(0x200, 1)] [] ∧ s.leafFault 0 false false .load 1 0xF800000000000000 0 = 0 ∧
    wNext (.tableWalkComplete 0 0 false) (miss 0x20000 true) (fun t => t.slot.run = .ready && t.slot.walkFault = none) = true ∧
    s.walk 0 0 0x40000 0 = .fault 0x11 [(0x400, 1)] ∧
    wNext (.tableWalkComplete 0 0 false) (miss 0x40000 true) (fun t => t.slot.run = .ready && t.slot.walkFault = some (0, 0x11)) = true ∧
    wNext (.missTableRetry 0) (miss 0x20000 true) (fun t => t.slot.run = .ready) = true ∧ s.hasCtx 0 1 = true := by decide +kernel

/-- A rehoming of frame 8 to frame 12 in each phase; the last pass has one marked line. -/
theorem test_wit_RehomingCompletes :
    let r (ph : RehomePhase) (marked : List Nat) : Rehome := { entry := 0x20000, value := 0xF880000000060000, old := 8, new := 12, phase := ph, marked := marked }
    let s (ph : RehomePhase) (marked : List Nat) := tTask.modDieAt 0 fun d => { d with rehomes := [r ph marked] }
    (s .copying []).rehomeRoute (r .copying []) = .go ∧ Memory.wf (s .copying []).mem = true ∧ (r .copying []).old ≠ (r .copying []).new ∧
    (∀ x ∈ [127], x < 128) ∧ wNext (.rehomeRecopyDone 0 0) (s (.recopying 3) [127]) (fun t => (t.dieAt 0).rehomes.map Rehome.phase = [.final [0]]) = true ∧
    (s (.final [0]) []).pageQuiet 0 8 = true ∧ (s (.final [0]) []).route (homeOf (8 * 2 ^ 15)) (dieOfBent 0) = .go ∧
    wNext (.pageRecall 0 0 0) (s (.final [0]) []) (fun t => (t.dieAt 0).rehomes.map Rehome.phase = [.final []]) = true ∧
    (AMap.getD ((s (.final []) []).dieAt 0).ptSharers (0x20000 / 256) ⟨3, []⟩).sharers = [] ∧
    wNext (.rehomeSwitch 0 0) (s (.final []) []) (fun t => Memory.readNat t.mem 0x20000 8 = 0xF800000000060000) = true := by decide +kernel

/-- A task whose core sent a message about sector 0xC0, which its bent's L2 holds with the directory entry d. -/
def tDir (m : UpMsg) (d : DirEntry) : State :=
  (tTask.modCore fun c => { c with toL2 := [(0, m)] }).modBentAt 0 fun b => { b with l2 := [(0x30, { dir := (Vector.replicate 4 ({} : DirEntry)).set 0 d })] }

theorem test_wit_DirectoryRequestsComplete :
    let wait : DirEntry := { st := .shared, sharers := [0], busy := some { requester := 1, msg := .rdx 0xC0, acks := 1 } }
    let fwd : DirEntry := { st := .excl, owner := 0, busy := some { requester := 1, msg := .rd 0xC0, frsp := true } }
    let s := tDir (.rd 0xC0) {}
    s.homeRoute 0 (0xC0 * 64) = .go ∧ ((AMap.find? (s.bentAt 0).l2 0x30).map fun l => (s.bentAt 0).current l) = some true ∧ s.outranked 0 (0, .rd 0xC0) = false ∧
    wNext (.rd 0 []) s (fun t => (t.dirOf 0 0xC0).st = .excl && (t.coreAt 0).toL1.length = 1) = true ∧
    wNext (.rdx 0 []) (tDir (.rdx 0xC0) {}) (fun t => (t.dirOf 0 0xC0).st = .excl && (t.coreAt 0).toL1 = [.dataM 0xC0 0 false]) = true ∧
    wNext (.upg 0) (tDir (.upg 0xC0) { st := .shared, sharers := [0] }) (fun t => (t.dirOf 0 0xC0).st = .excl && (t.coreAt 0).toL1 = [.grant 0xC0]) = true ∧
    wNext (.wb 0) (tDir (.wb 0xC0 0x55 1) { st := .excl, owner := 0 }) (fun t => (t.dirOf 0 0xC0).st = .none && t.l2Sector 0 0xC0 = 0x55) = true ∧
    wNext (.wt 0) (tDir (.wt 0xC0 0 0x55 1) { st := .shared, sharers := [0] }) (fun t => t.l2Sector 0 0xC0 = 0x55) = true ∧
    wNext (.ureg 0) (tDir (.ureg 0xC0) {}) (fun t => (t.dirOf 0 0xC0).uholders = [0]) = true ∧
    wNext (.umrg 0) (tDir (.umrg 0xC0 .add true []) { uholders := [0] }) (fun t => (t.dirOf 0 0xC0).uholders = []) = true ∧
    wNext (.iack 0) (tDir (.iack 0xC0) wait) (fun t => (t.dirOf 0 0xC0).owner = 1 && (t.coreAt 1).toL1.length = 1) = true ∧
    wNext (.frsp 0 true) (tDir (.frsp 0xC0 none .s true) fwd) (fun t => (t.dirOf 0 0xC0).sharers = [0, 1]) = true := by decide +kernel

/-- A task whose core holds sector 0xC0 as y, with a message for it. -/
def tL1 (m : DownMsg) (y : Sector) : State :=
  tTask.modCore fun c => { c with toL1 := [m], l1 := [(0x30, { sec := (Vector.replicate 4 ({} : Sector)).set 0 y })] }

theorem test_wit_CacheMessagesComplete :
    let held : List HeldOp := [.store 0 0x77 1]
    let st (t : State) := ((t.coreAt 0).sector 0xC0).st
    ((tL1 (.grant 0xC0) {}).core.l1.map Prod.fst).Pairwise (· < ·) ∧
    wNext (.dataS 0 []) (tL1 (.dataS 0xC0 5 false) { st := .isD }) (fun t => st t = .s) = true ∧
    wNext (.dataE 0 []) (tL1 (.dataE 0xC0 5 false) { st := .isD }) (fun t => st t = .e) = true ∧
    wNext (.dataM 0 []) (tL1 (.dataM 0xC0 5 false) { st := .imAD, held := held }) (fun t => st t = .m && ((t.coreAt 0).sector 0xC0).data = 0x77) = true ∧
    wNext (.grant 0) (tL1 (.grant 0xC0) { st := .smA, held := held }) (fun t => st t = .m && ((t.coreAt 0).sector 0xC0).data = 0x77) = true ∧
    wNext (.inv 0) (tL1 (.inv 0xC0) { st := .s }) (fun t => st t = .i && (t.coreAt 0).toL2 = [(0, .iack 0xC0)]) = true ∧
    wNext (.urcl 0) (tL1 (.urcl 0xC0) { st := .u }) (fun t => st t = .uiA && (t.coreAt 0).toL2.length = 1) = true ∧
    wNext (.fwdS 0) (tL1 (.fwdS 0xC0 1) { st := .m, data := 9 }) (fun t => st t = .o && (t.coreAt 1).toL1 = [.peer 0xC0 9 0 false]) = true ∧
    wNext (.fwdX 0) (tL1 (.fwdX 0xC0 (some 1)) { st := .m, data := 9 }) (fun t => st t = .i && (t.coreAt 1).toL1 = [.peer 0xC0 9 0 true]) = true ∧
    wNext (.wback 0) (tL1 (.wback 0xC0 false) { st := .miA }) (fun t => st t = .i) = true := by decide +kernel

/-! ### Witnesses: the truss -/

/-- MG of a 1 by 1 by 8 product of FP32 operands at the start of the A-store into the start of the C-store. -/
def tMg (gang : Word) : AMap Word := [(0, 1), (1, 1), (2, 8), (3, 64), (4, 64), (5, 0x6600000000000000), (9, gang)]

/-- A task with that MG, its operand pointers in g6 and g7. -/
def tMgTask (gang : Word) : State := wG (wCtx tTask fun c => { c with mg := tMg gang }) [(6, 0x2600000000000000), (7, 0x2600000000000040)]

/-- A command of that product, and an operand chunk of eight ones. -/
def tCmd (kind : TrussKind) : TrussCmd :=
  { kern := 1, owner := 0, slot := 0, sup := false, seq := 5, kind := kind, mg := tMg 0, a := 0x2600000000000000, b := 0x2600000000000040, uid := 9 }
def tChunk (sideB : Bool) : Chunk :=
  { kern := 1, gid := 0, geom := gangGeometry (tMg 0), unit := 0, sideB := sideB, fmt := 6, elems := [List.replicate 8 0x3F800000], scales := [127] }

/-- A task whose core has commands in its queue. -/
def tTruss (l : List TrussCmd) (granted : Bool) : State := (tMgTask 0).modCore fun c => { c with truss := l, granted := granted }

theorem test_wit_TrussInstructionsComplete :
    let s := tMgTask 0
    let p := s.prepare [.g 6, .g 7] []
    let w := wG s [(6, 0x100)]
    let q := wG (tTruss [tCmd .mma] false) []
    let f := q.modSlot fun sl => { sl with trussLast := 5 }
    p.core.truss.length < 32 ∧ p.chainWaits 0 = false ∧ p.releaseReady 0 0 1 = true ∧ p.slot.ctx.isSome = true ∧ p.hasCtx 0 1 = true ∧
    wIssues (.mset 6 11) [.g 6] [] s = true ∧ p.core.progBusy p.slot = false ∧ wIssues (.mget 12 5) [] [.g 5] s = true ∧
    wIssues (.mma 6 7) [.g 6, .g 7] [] s = true ∧ opRefused p.hasFeature p.ctx false .mma p.ctx.mg (p.readG 6) (p.readG 7) = none ∧
    opRefused p.hasFeature p.ctx false .mma (AMap.set p.ctx.mg 0 129) (p.readG 6) (p.readG 7) = some (0x10, some 129) ∧
    wIssues (.mmaco 6 7) [.g 6, .g 7] [] s = true ∧ opRefused p.hasFeature p.ctx false .mmaco p.ctx.mg (p.readG 6) (p.readG 7) = none ∧
    wIssues .mzero [] [] s = true ∧ regionRefused p.hasFeature p.ctx false p.ctx.mg = none ∧ wIssues (.msave 6) [.g 6] [] w = true ∧
    wIssues (.mload 6) [.g 6] [] w = true ∧ descriptorOk p.hasFeature 0x100 = true ∧ spaceOf 0x100 = 0 ∧
    wNext (.mma 6 7) s (fun t => t.core.truss.map TrussCmd.seq = [5]) = true ∧
    wIssues (.mwait 5) [] [.g 5] s = true ∧ (s.prepare [] [.g 5]).trussPending = [] ∧ (s.prepare [] [.g 5]).chainPending = false ∧
    wIssues (.mwaitT 5) [] [.g 5] f = true ∧ (f.prepare [] [.g 5]).trussPending.length = 1 ∧ wNext (.mwaitT 5) f (fun t => landedG t 5 = 2 ^ 63) = true := by
  decide +kernel

/-- A grant, a unit's commit with one row, and the end of the operation: 1 * 1 eight times is 8.0. -/
theorem test_wit_TrussEventsComplete_units :
    let t := tCmd .mma
    let full := { t with present := true, bufA := [tChunk false], bufB := [tChunk true] }
    let s := tTruss [{ t with present := true }] false
    let c := tTruss [full] true
    let stop := wCtx (tTruss [full] false) fun c => { c with state := .saving }
    (s.coreAt 0).headReady = true ∧ (s.coreAt 0).trussRunning = some { t with present := true } ∧ (s.coreAt 0).trussStops 1 = false ∧ t.pair.isSome = true ∧
    wNext (.trussGrant 0) s (fun u => (u.coreAt 0).granted) = true ∧ c.poisonedUnit 0 full = none ∧ coreWf (c.coreAt 0) = true ∧
    wNext (.unitCommit 0 false) c (fun u => Memory.readNat (u.coreAt 0).cstore 0 4 = 0x41000000 && (u.ctxOf 0 1).doneSeq = 5) = true ∧
    (stop.coreAt 0).trussStops 1 = true ∧ wNext (.unitCommit 0 true) stop (fun u => (u.ctxOf 0 1).stop) = true ∧
    wNext (.trussOperandsPresent 0) (tTruss [t] false) (fun u => (u.coreAt 0).wasReady) = true ∧
    wNext (.trussPortCommandComplete 0) (tTruss [tCmd .mzero] false) (fun u => (u.coreAt 0).truss = []) = true := by decide +kernel

/-- A row of two members: core 0 sends a chunk, core 1 takes it, or its spill ring does; a poisoned operand stops a command, and it restarts. -/
theorem test_wit_TrussEventsComplete_gangs :
    let lead := { tCmd .mmaco with mg := tMg 1 }
    let member := { tCmd .mmaco with mg := tMg 0x11, a := 0 }
    let two (st : CtxState) (arrive : List Chunk) : State := { tTruss [lead] false with
      cores := (tTruss [lead] false).cores ++ [(1, { tCore with ctxs := [(1, { tCtx with state := st })], truss := [member], chunksIn := arrive })] }
    let x := { tChunk false with geom := gangGeometry (tMg 1) }
    let bad := (tTruss [tCmd .mma] false).modCore fun c => { c with poisonA := [0] }
    let held := wCtx (tTruss [{ tCmd .mma with held := true }] false) fun c => { c with ecode := 7, stop := true }
    lead.receivers 0 false = [1] ∧ (two .running []).hasCredit 1 1 0 false = true ∧ lead.sendUnit 8 false = some 0 ∧
    wNext (.operandChunkSend 0 false) (two .running []) (fun u => (u.coreAt 1).chunksIn.length = 1) = true ∧ member.disagrees x = false ∧
    wNext (.operandMessageArrival 1) (two .running [x]) (fun u => (u.coreAt 1).truss.map (fun t => t.bufA) = [[x]]) = true ∧
    wNext (.operandMessageArrival 1) (two .saved [x]) (fun u => (u.ctxOf 1 1).spill = [x]) = true ∧
    bad.trussStop 0 (tCmd .mma) = some (7, some 0x2600000000000000) ∧ bad.hasCtx 0 1 = true ∧
    wNext (.trussRuntimeFault 0 7 0x2600000000000000) bad (fun u => (u.ctxOf 0 1).ecode = 7) = true ∧
    wNext (.ecodeRestart 0 1) held (fun u => (u.ctxOf 0 1).ecode = 0 && u.core.truss.map TrussCmd.held = [false]) = true ∧
    wNext (.ecodeDiscard 0 1) held (fun u => u.core.truss = []) = true := by decide +kernel

/-- A chained copy whose bytes have all landed: its operation enters the queue of its core. -/
theorem test_wit_TrussEventsComplete_chains :
    let ap : Nat := 1 * 2 ^ 19 + 6 * 2 ^ 14
    let cx : AMap Word := AMap.set (AMap.set tCx 7 0) 8 (BitVec.ofNat 64 (2 ^ 63 + (ap * 2 ^ 21) + (ap + 1)))
    let x : Transfer := { tXfer .running with cx := cx, chainSeq := 5, covered := 128 }
    let s := wCtx (tCopy (some x) []) fun c => { c with mg := tMg 0 }
    x.chained = true ∧ s.copyWhole 0 1 x 128 = true ∧ x.target 0 = 0 ∧
    opRefused (s.accepted 0) (s.ctxOf 0 1) false .mma ((s.ctxOf 0 1).mg.filter fun (p : Nat × Word) => decide (p.1 < 12))
      (chainPointer (x.reg 8 / 2 ^ 21)) (chainPointer (x.reg 8)) = none ∧
    wNext (.chainedOperationEntry 0 1 1) s (fun u => u.core.truss.map TrussCmd.seq = [5] && u.core.truss.map TrussCmd.b = [0x2600000000000040]) = true := by
  decide +kernel

/-! ### Witnesses: kernels and contexts -/

/-- A record of one level of a kind with one group: entry 0x2000, two task slots, saved at 0x100000. -/
def tRec (kind : Nat) : BitVec 2048 :=
  BitVec.ofNat 2048 (0x2000 + 1 * 2 ^ (8 * 0x28) + 2 * 2 ^ (8 * 0x2B) + 0x100000 * 2 ^ (8 * 0x48) + kind * 2 ^ (8 * 0x60) + kind * 2 ^ (8 * 0x61) + 2 ^ (8 * 0x64))

/-- Kernel 1 with that record in a state, alone on package 0; core 0 holds its context in a state, its slot 0 free. -/
def tKern (k : Kernel) (st : CtxState) : State :=
  { State.reset with
    pkgs := [(0, { tPkg with kernels := [(1, k)], nextKern := 2 })]
    cores := [(0, { tCore with slots := (Vector.replicate 8 ({} : Slot)).set 0 { ctx := some 1 }, ctxs := [(1, { tCtx with state := st })] })]
    bents := [(0, { tlb := [tLeaf], seqOwner := [(1, (0, 4))] })] }

/-- The first LAUNCH record of queue 7, a commit, and the commands without a kernel of that number. -/
theorem test_wit_KernelsComplete_launch :
    let s := { tKern tKernel .running with pkgs := [(0, { tPkg with hostq := [(7, { ctl := 1, tail := 1 })] })] }
    (List.range 8).reverse.find? (fun q => (AMap.getD (s.pkgAt 0).hostq q {}).holds) = some 7 ∧ s.admission 0 (tRec 0) = 0 ∧
    s.doneReady 0 (tRec 0) 0 0 0 = true ∧ wNext (.launchRecordRead 0 7 (tRec 0)) s (fun t => (t.pkgAt 0).kernels.length = 1 && (t.pkgAt 0).nextOrder = 1) = true ∧
    wNext (.featureCommit 0) s (fun t => (t.pkgAt 0).negDone) = true ∧ s.kernelAt 0 1 = none ∧
    wNext (.resumeWrite 0 1) s (fun t => (t.pkgAt 0).cmdstat = 0x10001) = true := by decide +kernel

/-- A placement on the first bent, one that fits nowhere, a root task, and a loading. -/
theorem test_wit_KernelsComplete_placement :
    let k := { tKernel with record := tRec 0, state := .admitted, cores := [] }
    let all := List.range 16
    let s := { tKern { k with record := tRec 2 } .running with cores := all.map fun c => (c, { slots := Vector.replicate 8 {} }), bents := [] }
    let none_ := tKern { k with record := tRec 4 } .running
    let root := tKern { k with state := .placing, cores := [0] } .ready
    let load := tKern { k with state := .placing, cores := [0] } .loading
    (s.pkgAt 0).nextAdmitted = some 1 ∧ all.Nodup ∧ s.candidateOk 0 (tRec 2) all = true ∧ s.spreadOk 0 (tRec 2) all = true ∧
    wNext (.kernelPlacement 0 1 all) s (fun t => t.hasCtx 15 1 && (t.ctxOf 15 1).state = .loading && (t.ctxOf 15 1).rank = 15) = true ∧
    none_.kernelFits 0 (tRec 4) [] = false ∧ (none_.pkgAt 0).nextAdmitted = some 1 ∧
    (List.range 8).find? (fun n => (root.slotOf 0 n).ctx = some 1 && (root.slotOf 0 n).num = 0) = some 0 ∧ (root.ctxOf 0 1).state = .ready ∧
    recordField (tRec 0) 0 8 = 0x2000 ∧ wNext (.rootTaskStart 0 1) root (fun t => (t.slotOf 0 0).pc = 0x2000 && (t.slotOf 0 0).run = .ready) = true ∧
    (load.coreAt 0).gated = false ∧ (load.coreAt 0).waking = false ∧ (load.bentAt 0).gated = false ∧ (load.ctxOf 0 1).latePreempt = false ∧
    wNext (.contextLoadingDone 0 1) load (fun t => (t.ctxOf 0 1).state = .ready) = true := by decide +kernel

/-- Commands with and without a save area, a resumption on core 0, an abort and an end. -/
theorem test_wit_KernelsComplete_commands :
    let k := { tKernel with record := tRec 0 }
    let keep := tKern { k with record := recordSetByte (tRec 0) 0x4A 0 } .running
    let saved (st : KernelState) := tKern { k with state := st } .saved
    let ends := tKern { k with state := .draining } .draining
    recordField (recordSetByte (tRec 0) 0x4A 0) 0x48 8 = 0 ∧ wNext (.preemptWrite 0 1) keep (fun t => (t.pkgAt 0).cmdstat = 0x20001) = true ∧
    recordField (tRec 0) 0x48 8 ≠ 0 ∧ wNext (.preemptWrite 0 1) (tKern k .running) (fun t => (t.kernelAt 0 1).map Kernel.state = some .preempting) = true ∧
    wNext (.resumeWrite 0 1) (saved .preempted) (fun t => (t.kernelAt 0 1).map Kernel.state = some .resuming) = true ∧
    wNext (.resumeWrite 0 1) (tKern k .running) (fun t => (t.pkgAt 0).cmdstat = 0x30001) = true ∧
    (saved .resuming).candidateOk 0 (tRec 0) [0] (some 1) = true ∧ ((saved .resuming).ctxOf 0 1).away = true ∧
    wNext (.kernelResumePlacement 0 1 [0]) (saved .resuming) (fun t => (t.ctxOf 0 1).state = .restoring) = true ∧
    (tKern k .running).doneReady 0 (tRec 0) 0 0 0 = true ∧ wNext (.abortWrite 0 1 true) (tKern k .running) (fun t => t.kernelAt 0 1 = none) = true ∧
    ends.coreDrained 0 1 = true ∧ ends.barsQuiet 0 1 (fun _ => true) = true ∧ ends.cleanReady 0 = true ∧
    wNext (.completionRecordWrite 0 1) ends (fun t => t.kernelAt 0 1 = none) = true := by decide +kernel

/-- A task that launches the record at 0x6000. -/
def tLaunch (record : BitVec 2048) : State := { wG tTask [(6, 0x6000)] with mem := Memory.writeNat [] 0x6000 256 record.toNat }

/-- An accepted record, a misaligned entry, and a DONE in space 1. -/
theorem test_wit_LaunchCompletes :
    let good (r : BitVec 2048) (f : State → BitVec 2048 → Bool) : Bool :=
      match ((tLaunch r).prepare [.g 6] [.g 5]).readBlock 0x6000 256 256 false with
      | (u, .ok v) => u.releaseReady 0 0 4 && f (u.release 0 4) (BitVec.ofNat 2048 v)
      | _ => false
    wIssues (.launch 5 6 0) [.g 6] [.g 5] (tLaunch (tRec 0)) = true ∧
    good (tRec 0) (fun q r => recordField r 0 8 % 4 = 0 && recordField r 0x58 8 / 2 ^ 61 = 0 && q.doneReady 0 r 0 0 0 && q.admission 0 r = 0) = true ∧
    wNext (.launch 5 6 0) (tLaunch (tRec 0)) (fun t => landedG t 5 = 3) = true ∧
    good (recordSetByte (tRec 0) 0 2) (fun _ r => recordField r 0 8 % 4 ≠ 0) = true ∧
    good (recordSetByte (tRec 0) 0x5F 0x20) (fun _ r => recordField r 0x58 8 / 2 ^ 61 = 1) = true ∧
    wNext (.launch 5 6 0) (tLaunch (recordSetByte (tRec 0) 0x5F 0x20)) (fun t => landedG t 5 = BitVec.ofNat 64 (2 ^ 63 + 1)) = true := by decide +kernel

/-- Arming of the largest budget, an expiry with and without a task of the recorded slot, a forced stop, and a record for a free slot. -/
theorem test_wit_ContextsComplete_budget :
    let b : Budget := { sarm := true, remain := 5, limit := 5, slot := 0, start := 0 }
    let s := { wCtx tTask fun c => { c with budget := b } with cycle := 1400000000 }
    let gone := { wCtx tTask fun c => { c with budget := { b with slot := 7 } } with cycle := 1400000000 }
    let stop := { wCtx (wLinks tTask) fun c => { c with state := .draining, budget := { b with pend := true } } with cycle := 1400000000 }
    let free := tTask.modSlotOf 0 1 fun sl => { sl with ctx := some 1, num := 1 }
    let svc := (wCtx free fun c => { c with svcWaiting := 1 })
    let value : Word := 0x40FFFFFF00FFFFFF
    value.getLsbD 62 = true ∧ tTask.hasCtx 0 1 = true ∧ (tTask.ctxOf 0 1).budget.pend = false ∧
    wNext (.budgetArm 0 0 value) tTask (fun t => (t.ctxOf 0 1).budget.remain = 0xFFFFFF && (t.ctxOf 0 1).budget.sarm) = true ∧
    (s.ctxOf 0 1).budget.expired (s.cycleOf 0) = true ∧ (s.coreAt 0).slotNumbered 1 0 = some 0 ∧ (s.slotOf 0 0).run ≠ .free ∧
    wNext (.budgetWatchdogExpiry 0 1) s (fun t => (t.slotOf 0 0).td = 1) = true ∧ (gone.coreAt 0).slotNumbered 1 7 = none ∧
    (stop.ctxOf 0 1).budget.expired (stop.cycleOf 0) = true ∧ (∀ n, n < 8 → ((stop.coreAt 0).stoppable 1 n = true ↔ n = 0)) ∧
    (stop.forceStop 0 1 0).isSome = true ∧
    svc.saveAreaQuiet 0 1 0 256 = true ∧ (svc.saveAreaRead 0 1 0x48 8).2.isSome = true ∧ (svc.coreAt 0).lowestSlot 1 (fun sl => sl.run = .free) = some 1 ∧
    wNext (.supervisorQueueDelivery 0 1) svc (fun t => (t.slotOf 0 1).pc = 0x8000 && (t.slotOf 0 1).td = 1) = true := by decide +kernel

/-- A context without windows that is to be saved, and one that is being restored with the groups below g done. -/
def tSave : State :=
  (wCtx (wLinks tTask) fun c => { c with awin := {}, wwin := {}, cwin := {}, barriers := 0, state := .saving }).modSlot fun sl => { sl with run := .free }
def tRestore (g : Nat) : State := wCtx tSave fun c => { c with state := .restoring, restctl := BitVec.ofNat 64 (2 ^ g - 1) }

theorem test_wit_ContextsComplete_save : tSave.saveReady 0 1 = true ∧ (tSave.saveContext 0 1).isSome = true := by decide +kernel
theorem test_wit_ContextsComplete_restoreState : ((tRestore 0).restoreGroup 0 1 0).isSome = true := by decide +kernel
theorem test_wit_ContextsComplete_restoreTruss : ((tRestore 2).restoreGroup 0 1 2).isSome = true := by decide +kernel
theorem test_wit_ContextsComplete_restoreEngq : ((tRestore 3).restoreGroup 0 1 3).isSome = true := by decide +kernel
theorem test_wit_ContextsComplete_restoreTasks : ((tRestore 4).restoreGroup 0 1 4).isSome = true := by decide +kernel

/-- A save area that does not translate. -/
theorem test_wit_ContextsComplete_area : (wCtx tSave fun c => { c with saveptr := 0x900000000000 }).areaFailure 0 1 = some (0x05, 0x900000000000) := by decide +kernel

/-! ### Witnesses: links, resets, the platform, requests and steps -/

/-- The device with link 1 (dies 0 and 1 of package 0) in a state. -/
def tLink (l : Link) : State := { State.reset with pkgs := [(0, { tPkg with links := [(1, l)] })] }

theorem test_wit_LinksComplete :
    let up : Link := { st := .up, width := 8 }
    let old (l : Link) : State := { tLink l with cycle := 2 ^ 40 }
    let lanes (n : Nat) : List (Bool × Nat × Nat) := (List.range n).map fun i => (true, 2, i)
    let r : Request := { id := 4, slot := 0, kern := none, sup := true, addr := 0x8000004008000000, op := .load 8, dest := .posted }
    let lost : State := (tLink { st := .failed }).modCoreAt 0 fun c => { c with requests := [r] }
    (tLink {}).hasLink 1 = true ∧ leastWidth 1 ≤ Nat.min 4 (up.mostWidth 1) ∧ Nat.min 3 (up.mostWidth 1) < leastWidth 1 ∧
    wNext (.linkTrainingStart 1) (tLink {}) (fun t => (t.linkAt 1).st = .training) = true ∧
    wNext (.linkTrained 1 4) (tLink { st := .training }) (fun t => (t.linkAt 1).st = .up && (t.linkAt 1).width = 4) = true ∧
    wNext (.linkTrained 1 3) (tLink { st := .training }) (fun t => (t.linkAt 1).st = .failed && (t.dieAt 0).logTail = 1) = true ∧
    wNext (.linkTrained 1 8) (tLink { up with st := .retraining }) (fun t => (t.linkAt 1).st = .up && (t.dieAt 1).logTail = 1) = true ∧
    wNext (.ltmoExpiry 1) (old { st := .training }) (fun t => (t.linkAt 1).st = .failed) = true ∧
    wNext (.laneFailure 1 7 true 2) (tLink up) (fun t => (t.linkAt 1).repaired = 1) = true ∧
    wNext (.laneFailure 1 7 true 2) (tLink { up with lanes := lanes 4 }) (fun t => (t.linkAt 1).st = .retraining && (t.linkAt 1).mostWidth 1 = 7) = true ∧
    wNext (.laneFailure 1 7 true 2) (tLink { up with lanes := lanes 5 }) (fun t => (t.linkAt 1).st = .up && (t.linkAt 1).lanes.length = 6) = true ∧
    ((tLink { up with streak := 15 }).linkAt 1).st = .up ∧
    wNext (.quiesceCommand 1) (tLink up) (fun t => (t.linkAt 1).st = .quiescing) = true ∧
    wNext (.quiesceCommand 1) (tLink { st := .training }) (fun t => (t.linkAt 1).quiesceNext) = true ∧
    wNext (.quiesceDrained 1) (tLink { up with st := .quiescing }) (fun t => (t.linkAt 1).st = .quiesced) = true ∧
    wNext (.quiesceRelease 1) (tLink { up with st := .quiesced }) (fun t => (t.linkAt 1).st = .retraining) = true ∧
    lost.requestCrosses 1 0 r = true ∧ lost.requestLost 1 0 r = true ∧
    lost.unreachable.all (fun e => lost.pageQuiet e.1 e.2) = true ∧ wNext (.linkFailedSettle 1) lost (fun t => (t.linkAt 1).st = .isolated) = true ∧
    wNext (.linkReset 1) (tLink { st := .isolated }) (fun t => (t.linkAt 1).st = .down) = true ∧
    wNext (.ltmoWrite 0 1000000) (tLink {}) (fun t => (t.dieAt 0).ltmo = 1000000) = true := by decide +kernel


theorem test_wit_ResetsComplete :
    let idle : State := { tFw with cores := [(0, {})], cycle := 14000 }
    let wake := tFw.modCoreAt 0 fun c => { c with gated := true, waking := true }
    let bent := { tFw with cores := (List.range 16).map fun k => (k, { gated := true }) }
    let bwake := tFw.modBentAt 0 fun b => { b with gated := true, waking := true }
    let reset := { tFw.modCoreAt 0 (fun c => { c with resetting := true }) with cycle := 2048 }
    let die (ph : DiePhase) : State := { (wLinks tFw).modDieAt 0 (fun d => { d with phase := ph }) with cycle := 1400000 }
    let rest (st : LinkState) : State := (die .quiescing).modPkgAt 0 fun p => { p with links := (List.range 45).map fun i => (i, { st := st }) }
    (idle.coreAt 0).resident [] = [] ∧ wNext (.coreGate 0) idle (fun t => (t.coreAt 0).gated) = true ∧
    wNext (.coreWakeComplete 0) wake (fun t => !(t.coreAt 0).gated) = true ∧ (bent.bentAt 0).held = false ∧ bent.dirtyLines 0 = [] ∧
    wNext (.bentGate 0) bent (fun t => (t.bentAt 0).gated) = true ∧ wNext (.bentWakeComplete 0) bwake (fun t => !(t.bentAt 0).gated) = true ∧
    wNext (.coreResetComplete 0) reset (fun t => !(t.coreAt 0).resetting) = true ∧
    wNext (.dieWarmReset 0) (die .running) (fun t => (t.dieAt 0).phase = .leaving) = true ∧
    wNext (.resetWaitExpiry 0) (die .leaving) (fun t => (t.dieAt 0).phase = .recalling) = true ∧
    wNext (.dieRecallComplete 0) (die .recalling) (fun t => (t.dieAt 0).phase = .quiescing) = true ∧
    wNext (.dieResetComplete 0 []) (rest .quiesced) (fun t => (t.dieAt 0).phase = .retraining) = true ∧
    wNext (.dieReturnToPlacement 0) (die .retraining) (fun t => (t.dieAt 0).phase = .running) = true ∧
    wNext (.coldReset 0) tTask (fun t => (t.coreAt 0).ctxs = []) = true := by decide +kernel

theorem test_wit_PlatformComplete :
    let s := { State.reset with pkgs := [(0, Pkg.reset)] }
    let cool := s.modDieAt 0 fun d => { d with thermal := [(7, { duty := 1 })] }
    (s.pkgAt 0).committed = false ∧ s.platformSealed 0 = false ∧ wNext (.registerWrite 0 0x38 5) s (fun t => bits (t.pkgAt 0).featacc 192 64 = 5) = true ∧
    wNext (.registerWrite 0 0x2D0 0x1234567890123456) s (fun t => (t.pkgAt 0).hostq.map (fun q => q.2.root) = [0x567890123000]) = true ∧
    wNext (.registerWrite 0 0x5010 1000000) s (fun t => (t.pkgAt 0).rstwait = 1000000) = true ∧
    wNext (.registerWrite 0 0x5010 1000001) s (fun t => (t.pkgAt 0).rstwait = 1000) = true ∧
    wNext (.registerWrite 0 0x5010 7) tFw (fun t => (t.pkgAt 0).rstwait = 1000) = true ∧
    (AMap.getD (cool.dieAt 0).thermal 7 {}).duty ≤ 1 ∧ wNext (.regionDegraded 0 7) cool (fun t => (AMap.getD (t.dieAt 0).thermal 7 {}).degraded) = true ∧
    ((s.coreAt 0).health.state = 0 ∧ (s.coreAt 0).health.recent = []) ∧
    wNext (.uncorrectableError 0 1 0x3FFF) s (fun t => (t.coreAt 0).poisonA = [0x3FFF]) = true := by decide +kernel

/-- A task whose core waits for a request to its own A-store, the SRAM of its bent, the host, or memory. -/
def tReq (addr : Word) (op : ReqOp) (dest : ReqDest) (done : Bool) : State :=
  (tTask.modCore fun c => { c with requests := [{ id := 4, slot := 0, kern := some 1, sup := false, addr := addr, pa := addr.toNat, op := op, dest := dest, done := done }] }).modSlot
    fun sl => { sl with run := .awaiting 4 }

theorem test_wit_RequestsComplete :
    let off := tReq 0x8000000028000000 (.load 8) .posted false
    let store := tReq 0x8000000008000000 (.store 8 5 255) .posted false
    let lost := tReq 0x8000008008000000 (.load 8) .posted false
    let lost1 := lost.modPkgAt 0 fun p => { p with links := (List.range 7).map fun i => (i, { st := .isolated }) }
    let sram := tReq 0xA000000000000008 (.store 8 5 255) .posted false
    let host := (tReq 0xC000000000000000 (.store 8 5 255) .posted false).modPkgAt 0 fun p => { p with hwsize := 8, links := [(7, { st := .up })] }
    let hole := tReq 0xC000000000000000 (.load 8) .posted false
    let home := (tReq 0x3008 (.atomic 0 true 5 0) (.g 5 8 false false 0) false).modDieAt 0 fun d => d.setHomeQueue 0 [(0, 4)]
    let park := tTask.modSlot fun sl => { sl with run := .waiting }
    let fault := (tReq 0x8000000008000000 (.load 8) (.g 5 8 false false 0) true).modCore fun c =>
      { c with requests := c.requests.map fun r => { r with error := some (0x15, 3) } }
    off.route 0 0 = .go ∧ off.targetOk 1 (some 1) false = false ∧
    wNext (.remoteAccessArrival 0 4) off (fun t => t.core.requests.map Request.error = [some (0x15, 1)]) = true ∧
    store.targetOk 0 (some 1) false = true ∧ store.traceReady 0 = true ∧ (store.coreAt 0).storePoisoned 1 0 8 = false ∧ (store.ctxOf 0 1).tracectl.getLsbD 0 = false ∧
    wNext (.remoteAccessArrival 0 4) store (fun t => Memory.readNat t.core.astore 0 8 = 5) = true ∧
    lost1.route 0 (dieOf 1024) = .error 3 ∧ wNext (.remoteAccessArrival 0 4) lost1 (fun t => t.core.requests.map Request.error = [some (0x15, 3)]) = true ∧
    wNext (.remoteAccessArrival 0 4) sram (fun t => Memory.readNat (t.bentAt 0).sram 8 8 = 5) = true ∧
    host.barOffset 0 0 8 = none ∧ host.hostRoute 0 false = .go ∧ wNext (.remoteAccessArrival 0 4) host (fun t => (t.pkgAt 0).hostWrites.length = 1) = true ∧
    wNext (.remoteAccessArrival 0 4) hole (fun t => t.core.requests.map Request.error = [some (0x15, 2)]) = true ∧
    home.homeRoute 0 0x3008 = .go ∧ home.poisoned 0x3008 8 = false ∧ home.rehomeOf 0 = none ∧ home.entryRehoming 0x3008 = false ∧
    wNext (.homeAgentRequest 0 0) home (fun t => Memory.readNat t.mem 0x3008 8 = 5 && (t.dieAt 0).homeQueue 0 = []) = true ∧
    wNext (.replyLanding 0 4 0 false) (tReq 0x8000000008000000 (.load 8) .posted true) (fun t => t.core.requests = []) = true ∧
    wNext (.replyLanding 0 4 0 false) (tReq 0x8000000008000000 (.load 8) (.g 5 8 false false 0) true) (fun t => t.slot.pc = 0x1004 && t.slot.run = .ready) = true ∧
    wNext (.replyLanding 0 4 0 false) fault (fun t => t.slot.td = 1) = true ∧
    park.awaitsWalk 0 0 = false ∧ wNext (.slotReady 0 0) park (fun t => t.slot.run = .ready) = true ∧
    (tTask.writeYard 0 0 3).isSome = true ∧ tTask.accepted 0 8 = true ∧ (tTask.writeTracectl 0 1 1).isSome = true := by decide +kernel

/-- The reset device fetches from address 0: a word that decodes, one that does not, a misaligned pc, and a tick. -/
theorem test_wit_StepRunsDecoded :
    let at0 (w : Nat) : State := { tFw with mem := Memory.writeNat [] 0 4 w }
    let kind (s : State) : Nat := match s.takeTurn with
      | (.issue _ _, s1) => match (s1.switchTo 0 0).fetch with
        | (_, .word w) => if (decode w).isSome then 1 else 2
        | (_, .trap _ _ _) => 3
        | _ => 4
      | (.event _, _) => 5
      | (.tick _, _) => 6
      | (.pair _ _ _, _) => 7
    (at0 0x60000000).core.canIssue 0 = true ∧ (at0 0x60000000).core.nextSlot = some 0 ∧ (at0 0x60000000).core.heldReady = none ∧
    kind (at0 0x60000000) = 1 ∧ kind (at0 0) = 2 ∧ kind ((at0 0).modSlot fun sl => { sl with pc := 0x900000000000 }) = 3 ∧
    kind { at0 0 with agenda := [.event (.coldReset 0)] } = 5 ∧ kind { at0 0 with agenda := [.tick 9] } = 6 ∧
    (match ((at0 0).switchTo 0 0).translate .fetch 0 with
     | (u, .ok pa _) => pa = 0 && !u.poisoned 0 4 && (AMap.find? u.core.l1i 0).isNone && (AMap.find? (u.bentAt 0).l2 0).isNone
     | _ => false) = true := by decide +kernel

theorem test_wit_NoStepStops : ∀ i rest, (State.reset.withFetchWord 32 0x60000000).agenda = .event i :: rest → i.isEvent = true := by
  intro i rest h; have e : (State.reset.withFetchWord 32 0x60000000).agenda = [] := by decide +kernel
  rw [e] at h; cases h

theorem test_wit_DecodeAndEncodeAgree : (Instr.halt).isEvent = false ∧ (Instr.halt).wellFormed = true ∧ decode 0x60050000#32 = some .halt := by decide +kernel

theorem test_wit_EscapeMajor : bits (0xFC012800#32) 26 6 = 0x3F#6 ∧ tFw.core.canIssue 0 = true ∧ tFw.hasFeature 0 = true ∧
    decode 0xFC012800#32 = some (.fdrop 5) ∧ decode 0xFFFFFFFF#32 = none ∧ tTask.slot.mode = .task := by decide +kernel

theorem test_wit_LittleEndianMemory : Memory.wf (Memory.writeNat [] 7 8 0x1122334455667788) = true ∧
    Memory.read (Memory.writeNat [] 7 8 0x1122334455667788) 7 = 0x88 := by decide +kernel

theorem test_wit_StepsKeepCanonicalForm : stateWf tTask = true ∧ (match step (State.reset.withFetchWord 32 0x60000000) with
    | .next t => stateWf t
    | _ => false) = true := by decide +kernel

/-! ### Witnesses of further clauses -/

/-- A copy that an acquire has aged, a store behind one that is still held, and a local store named by its space-4 address, whose trace
is off or waits for a line. -/
theorem test_wit_MemoryAccesses_more :
    let aged := (tCached.modCore fun c => { c with l1 := [(0x30, { sec := (Vector.replicate 4 ({} : Sector)).set 0 { st := .e } })] }).modBentAt 0 fun b =>
      { b with l2 := [(0x30, { epoch := 3 })] }
    let q := aged.prepare [.g 6] [.g 5]
    let behind := tCached.modCore fun c => { c with l1 := c.l1 ++ [(0x31, { sec := (Vector.replicate 4 ({} : Sector)).set 0 { st := .imAD, held := [.store 0 1 1] } })] }
    let far := wG tTask [(6, 0x8000000008001FF8), (7, 0x55)]
    let traced := (wCtx far fun c => { c with tracectl := 0x10001 }).modCore fun c => { c with toL2 := [(0, .iack 0x400)] }
    q.aged 0 0x30 = true ∧ (q.core.sector 0xC0).st = .e ∧ wNext (.ldD 5 6 0) aged (fun t => t.slot.run = .waiting) = true ∧
    (tCached.prepare [.g 6, .g 7] []).storesDone 0 0 = true ∧ (behind.prepare [.g 6, .g 7] []).storesDone 0 0 = false ∧
    wNext (.stD 7 6 0) behind (fun t => t.slot.run = .waiting) = true ∧
    wLocal (far.prepare [.g 6, .g 7] []) 0x8000000008001FF8 8 1 0x1FF8 = true ∧ (far.prepare [.g 6, .g 7] []).traceReady 0 = true ∧
    wLocal (traced.prepare [.g 6, .g 7] []) 0x8000000008001FF8 8 1 0x1FF8 = true ∧ (traced.prepare [.g 6, .g 7] []).traceReady 0 = false := by decide +kernel

/-- An element of 8 bits at bit 60, in its two accesses, and one in a poisoned granule. -/
theorem test_wit_BitFieldAccesses_more :
    let s := wG tTask [(6, 0x2000000000000000), (7, 60), (5, 0xFF)]
    let h := s.modSlot fun sl => { sl with parked := true, half := some 0xF }
    let bad := s.modCore fun c => { c with poisonA := [0] }
    (s.prepare [.g 6, .g 7] [.g 5]).copyStall 0x2000000000000007 9 = false ∧ wIssues (.ldbit 5 6 7 7 0) [.g 6, .g 7] [.g 5] h = true ∧
    wNext (.ldbit 5 6 7 7 0) s (fun t => t.slot.half = some 0 && t.slot.pc = 0x1000) = true ∧
    wNext (.ldbit 5 6 7 7 0) h (fun t => landedG t 5 = 0xF && t.slot.pc = 0x1004) = true ∧
    wNext (.stbit 5 6 7 7 0) s (fun t => Memory.readNat t.core.astore 0 9 = 0xF * 2 ^ 60 && t.slot.half = some 0) = true ∧
    wNext (.stbit 5 6 7 7 0) h (fun t => Memory.readNat t.core.astore 0 9 = 0xF * 2 ^ 64 && t.slot.pc = 0x1004) = true ∧
    (bad.prepare [.g 6, .g 7] [.g 5]).core.storePoisoned 1 0 16 = true ∧ wIssues (.stbit 5 6 7 7 0) [.g 6, .g 7, .g 5] [] bad = true ∧
    wNext (.ldbit 5 6 7 7 0) bad (fun t => t.slot.td = 1) = true := by decide +kernel

/-- An atomic and an update of poisoned data of a local store, an update at the home, and an atomic at core scope of a line of the bent. -/
theorem test_wit_Atomics_more :
    let s := wG tTask [(6, 0x2000000000001FF8), (7, 1)]
    let bad := s.modCore fun c => { c with poisonA := [0x3FF] }
    let m := wG tTask [(6, 0x3008), (7, 1)]
    let p := m.prepare [.g 6, .g 7] []
    (bad.prepare [.g 6, .g 7] [.g 5]).core.storePoisoned 1 0x1FF8 8 = true ∧ wNext (.amoAdd 5 6 7 1 2 0) bad (fun t => t.slot.td = 1) = true ∧
    wNext (.updAdd 6 7 1 2) bad (fun t => t.slot.perr.count = 1 && t.slot.pc = 0x1004) = true ∧
    (s.prepare [.g 6, .g 7] [.g 5]).ownWrite 0x2000000000001FF8 1 0x1FF8 8 1 255 1 = some ((s.prepare [.g 6, .g 7] [.g 5]).storeWrite 0 1 0x1FF8 8 1 255) ∧
    (match p.checkAccess .store 8 (p.readG 6) with
     | (q, .ok (.mem pa table)) => !q.homePending q.cur pa 8 && q.lineFree pa && q.core.roomFor 1 && q.storesDone q.cur 0 && !q.atHome 2 pa table
     | _ => false) = true ∧
    wNext (.updAdd 6 7 1 3) m (fun t => (t.dieAt 0).homeQueue 0 = [(0, 0)] && t.slot.pc = 0x1004) = true ∧
    wNext (.amoAdd 5 6 7 1 2 0) m (fun t => t.core.requests.map Request.atL2 = [true] && t.slot.run = .awaiting 0) = true := by decide +kernel

/-- The pieces of a vector store. -/
def wPieces (p : State) (n w : Nat) (a : Word) (ps : List Piece) (f : State → List PieceAt → Bool) : Bool :=
  match p.checkPieces .store n a ps with
  | (q, .ok l) => !l.any (fun x => q.copyStall x.addr x.bytes) && decide (0 < w) && f q l
  | _ => false

/-- Vector stores to memory, whole to another core's A-store, and of bits that share a byte with kept ones before and after their read. -/
theorem test_wit_VectorStores_more :
    let s (a : Word) := wG tTask [(5, a)]
    let p (a : Word) := (sourcesOf (s a) 0 [3] [] [.g 5] []).1
    let words (q : State) (a : Word) := (q.lanesOn 0 32).flatMap fun j => [elementPiece a (j * 4 : Nat) 4 j]
    let bits_ (q : State) (a : Word) := (q.lanesOn 0 32).flatMap (streamPieces a 3)
    let l (n : Nat) (sh : Nat → Nat) (q : State) (ps : List PieceAt) :=
      (q.lanesOn 0 32).flatMap fun j => (splitPieces 0 (sh j) n (ps.filter fun x => x.lane == j)).foldr joinPiece []
    let h := (s 0x2000000000000000).modSlot fun sl => { sl with parked := true, half := some 0 }
    wPieces (p 0x3000) 32 32 0x3000 (words (p 0x3000) 0x3000) (fun q ps =>
      (l 32 (fun _ => 0) q ps).all (fun x => !q.spoiled x) && q.slot.half = none && q.storesDone 0 0) = true ∧
    wPieces (p 0x8000000028000000) 32 32 0x8000000028000000 (words (p 0x8000000028000000) 0x8000000028000000) (fun q ps =>
      (l 32 (fun _ => 0) q ps).all (fun x => !q.spoiled x) && wholeRemote 32 32 ps && q.core.roomFor 1) = true ∧
    wNext (.vst 3 5 0 2 0) (s 0x8000000028000000) (fun t => t.core.requests.length = 1 && t.slot.pc = 0x1004) = true ∧
    wPieces (p 0x2000000000000000) 3 32 0x2000000000000000 (bits_ (p 0x2000000000000000) 0x2000000000000000) (fun q ps =>
      let x := l 3 (fun j => 3 * j % 8) q ps
      x.all (fun x => !q.spoiled x) && !wholeRemote 32 3 ps && x.any (fun x => x.partly && x.own) && q.core.roomFor (x.countP fun x => x.at_.target = .away)) = true ∧
    wVIssues (.vstb 3 5 2 0 2 0) 0 [3] [] [.g 5] [] (s 0x2000000000000000) = true ∧
    wNext (.vstb 3 5 2 0 2 0) (s 0x2000000000000000) (fun t => t.slot.half.isSome && t.slot.pc = 0x1000) = true ∧
    wVIssues (.vstb 3 5 2 0 2 0) 0 [3] [] [.g 5] [] h = true ∧ wNext (.vstb 3 5 2 0 2 0) h (fun t => t.slot.pc = 0x1004) = true := by decide +kernel

/-- Whether the check of a frame at 0x5000 passes, its line takes a store, and what holds then. -/
def wFrameAt (p : State) (use : PageUse) (f : State → Nat → Bool → Bool) : Bool :=
  match p.frameCheck use 0x5000 with
  | (q, .ok pa table) => q.storeReady pa && f q pa table
  | _ => false

/-- What holds of words of that frame. -/
def wWords (q : State) (pa : Nat) (table : Bool) (l : List (Nat × Nat)) (f : State → Nat → Bool) : Bool :=
  match q.frameWords 0x5000 pa table l 0 with
  | (r, .ok v) => f r v
  | _ => false

/-- The words of a frame that SPAWN, RETS and SYNC read, and a transfer of a frame whose victim has no dirty line in the bent. -/
theorem test_wit_ForkAndJoinComplete_more :
    let s := tFrame
    let c := tSteal (.counted 0 1 0x5000)
    wFrameAt (s.prepare ([.g 6, .g 7] ++ savedRegs.map .g) [.g 5, .g 1]) .store (fun q pa table => wWords q pa table [(3, 1)] fun _ _ => true) = true ∧
    wFrameAt (s.prepare [.g 1] ([.g 5, .g 1] ++ savedRegs.map .g)) .load (fun q pa table =>
      decide (q.core.deque.owner = some q.core.curSlot.val) && decide (q.core.deque.top < q.core.deque.bot) &&
        AMap.getD q.core.deque.entries (q.core.deque.bot - 1) 0 = 0x5000 && wWords q pa table [(0, 1)] fun u f =>
          frameWord f 0 = 0x1010 && wWords u pa table [(3, 1), (8, 8)] fun _ g => frameWord g 8 = 7) = true ∧
    wFrameAt (s.prepare ([.g 6] ++ savedRegs.map .g) []) .store (fun q pa table => wWords q pa table [(3, 1)] fun u f =>
      frameWord f 3 % 8 = 0 && wWords u pa table [(2, 1)] fun _ h => frameWord h 2 / 2 ^ 63 = 0) = true ∧
    wXlat c 0 0x5000 (fun u pa => let f := (u.frameImage 0 pa).1; (f.coreAt 0).dirtyL1.all (f.quiet 0)) = true ∧
    wNext (.stealFrameSend 1) c (fun t => match (t.coreAt 1).steal.phase with
      | .landed 1 0x5000 _ _ _ => true
      | _ => false) = true := by decide +kernel

/-- A ring that no copy fills, a wait block with a counter, a queue of 64 batches, and a donation without a queue. -/
theorem test_wit_Queues_more :
    let r := wG (wCtx tTask fun c => { c with bindings := [(0, { word := 0x1043000000000002, bound := true })] }) [(5, 0x1043000000000002)]
    let p := r.prepare [.g 5] []
    let w := tQ 0 (tQueue 0) 0x6200 0x6000
    let u := w.prepare [.g 6, .g 7] [.g 5]
    let q : OpenQueue := { tQueue 0 with enqcnt := 64, cut := 64, batches := List.replicate 63 { first := 0, count := 1, st := .running 0 5 } ++ [{ first := 63, count := 1 }] }
    (p.binding 0).bound = true ∧ p.ringBusy 0 1 (p.binding 0) = false ∧ wNext (.qbind 0 5 0) r (fun t => (t.binding 0).free = 2) = true ∧
    (match u.readBlock 0x6200 64 64 false with
     | (u0, .ok _) => (match u0.readBlock 0x6000 64 64 false with
       | (_, .ok _) => true
       | _ => false)
     | _ => false) = true ∧
    wNext (.taskq 5 6 7 0) w (fun t => landedG t 5 = 0 && t.bent.waits.length = 1) = true ∧
    (tQ 0 q 0 0).nextDispatch 0 q = some { first := 63, count := 1 } ∧
    (tQ 0 (tQueue 0) 0 0).nextDispatch 0 { q with batches := { first := 0, count := 1, st := .running 0 5 } :: q.batches } = none := by decide +kernel

/-- A barrier at the end of the events of its own task, an event in its turn and one out of it. -/
theorem test_wit_BarriersComplete_more :
    let s := tBar tOpen 3 (-1)
    let m : BarMsg := { kind := 2, index := 2, n := 1, source := 0, kern := 1 }
    let late := s.setBarInfo 0 2 { s.barInfo 0 2 with last := some (0, (2, 5)) }
    let mine := s.modBentAt 0 fun x => { x with barIn := [{ m with task := some (0, 0) }] }
    ((s.prepare [.g 6] []).barFlush (barName 0 2)).any (fun q => q.slot.ctx.isSome && (q.barInfo 0 2).freed == false && q.slot.bwait.isNone) = true ∧
    ((mine.prepare [.g 6] []).barFlush (barName 0 2)).any (fun q => ((q.bentAt 0).barEntry 2).arrived = 1) = true ∧
    wNext (.bfree 6 0) s (fun t => t.ctx.bmap = []) = true ∧ wNext (.btest 5 6 0) s (fun t => t.slot.pc = 0x1004) = true ∧
    s.barInTurn 0 2 2 0 = true ∧ late.barInTurn 0 2 2 0 = false ∧ s.barMerged 0 0 m = [(0, m)] ∧ m.next = [] := by decide +kernel

/-- A shape record with a bad descriptor, a misaligned one, and CWAIT of no transfer, an old one and one with an open predecessor. -/
theorem test_wit_Copies_more :
    let y (image : Nat) (base : Word) : State := { wG tTask [(6, 0x6000), (7, base)] with mem := Memory.writeNat [] 0x6000 64 image }
    let one : Nat := 0x00200101 + 32 * 2 ^ 96
    let old := wG (wCtx tTask fun c => { c with chans := [(1, { seq := 30, done := [tXfer .complete] })] }) [(6, xferId 1 5)]
    let open_ := wG (wCtx tTask fun c => { c with chans := [(1, { seq := 6, cur := some (tXfer .running), done := [{ tXfer .aborted with seq := 6 }] })] }) [(6, xferId 1 6)]
    let q := (tCopy (some (tXfer .running)) []).modCore fun c => { c with copyq := [(1, [(1, { tXfer .queued with seq := 6 })])] }
    wNext (.shapeMk 7 6 7 0) (y one 0x2000000000000000) (fun t => t.slot.pc = 0x1004) = true ∧
    wNext (.shapeMk 7 6 7 0) (y 0 0) (fun t => t.slot.td = 1 && t.slot.bank0.tcause ≠ 0) = true ∧
    old.core.findCopy 1 (xferId 1 4) = .old ∧ old.core.copySettled 1 1 4 = true ∧ old.core.findCopy 1 (xferId 1 31) = .none ∧
    (match open_.core.findCopy 1 (xferId 1 6) with
     | .named t => t.st = .aborted && !open_.core.copySettled 1 1 6
     | _ => false) = true ∧
    wNext (.cwait 6 5) (wG open_ [(6, xferId 1 6)]) (fun t => t.slot.run = .waiting) = true ∧
    (tXfer .queued).nextByte 0 < (tXfer .queued).elemBytes + (tXfer .queued).scaleBytes ∧ (tXfer .queued).wmNext = none ∧
    wNext (.cwmHold 0 1 1 0x2000000000000040) q (fun t => (AMap.getD (t.coreAt 0).copyq 1 []).map (fun p => p.2.wmNext) = [some 0x2000000000000040]) = true := by
  decide +kernel

/-- Sends of a handler behind injected packets, a landing that has ended, an injected two-sided message, and a push from a home. -/
theorem test_wit_Messages_more :
    let h := tTask.modSlot fun sl => { sl with sends := [tSend 0], handler := some { queue := 7, entry := 0, released := false } }
    let land := tTask.modDieAt 0 fun x => { x with landings := [{ post := tPost, msg := tMsg, clear := true, done := 8 }] }
    let r := (tTask.modCore fun c => { c with inject := [tPacket 0x8700000000000000] }).modDieAt 0 fun x => { x with posts := [tPost] }
    let push := tTable.modBentAt 0 fun b => { b with pushes := [⟨2 ^ 32, 0x77, 1⟩, ⟨0x30, 0x77, 1⟩] }
    (h.core.inject = [] ∧ (tSend 0).block = false) ∧ wNext (.msgdone 0) h (fun t => t.slot.sends = [] && t.core.inject.length = 1 && t.slot.pc = 0x1004) = true ∧
    ({ post := tPost, msg := tMsg, clear := true, done := 8 : Landing }).total = 8 ∧ wNext (.messageLanding 0 0 0) land (fun t => (t.dieAt 0).landings = []) = true ∧
    r.injectAll 0 = r ∧ (match (r.coreAt 0).nextPacket (fun p => p.kind = 2 && !p.refused) with
     | some (0, p) => (r.enterMessage 0 { p.header 0 with bytes := p.bytes }).isSome && destDie p.send.dest = 0
     | _ => false) = true ∧
    (push.bentAt 0).pushes.findIdx? (fun p => homeOf (p.line * 256) == 0) = some 1 ∧
    wNext (.subscriptionPush 0 0) push (fun t => (t.bentAt 0).pushes.length = 1) = true := by decide +kernel

/-- MWAIT.t with no command left, and an error in a message of a gang member whose unit is clean. -/
theorem test_wit_Truss_more :
    let s := (tMgTask 0).modSlot fun sl => { sl with trussLast := 5, trussLost := true }
    let member := { tCmd .mmaco with mg := tMg 0x11, a := 0 }
    let g := tTruss [member] false
    wIssues (.mwaitT 5) [] [.g 5] s = true ∧ wNext (.mwaitT 5) s (fun t => landedG t 5 = 2 ^ 62 + 5) = true ∧
    g.core.trussRunning = some member ∧ g.trussStop 0 member = none ∧ member.struck = true ∧
    wNext (.trussRuntimeFault 0 7 0) g (fun t => (t.ctxOf 0 1).ecode = 7) = true := by decide +kernel

/-- A cold reset with an accepted image that names no spare and one. -/
theorem test_wit_ResetsComplete_more :
    (tFw.pkgAt 0).flash.refusal (tFw.pkgAt 0).counter = none ∧ (tFw.pkgAt 0).flash.spareMap = [] := by decide +kernel

/-- A lease of memory, an atomic at the bent, one to the host, a bit store in its two accesses, an answer that the host refuses, and a parked
slot without a fill under way. -/
theorem test_wit_RequestsComplete_more :
    let at2 := ((tReq 0x3008 (.atomic 0 true 5 0) (.g 5 8 false false 0) false).modCore fun c => { c with requests := c.requests.map fun r => { r with atL2 := true } }).modBentAt 0
      fun b => { b with l2 := [(0x30, {})] }
    let host := (tReq 0xC000000000000000 (.atomic 0 true 5 0) .posted false).modPkgAt 0 fun p => { p with hwsize := 8, links := [(7, { st := .up })] }
    let two (o : Option Nat) := (tReq 0x8000000008000000 (.bits 8 5 3) .posted false).modCore fun c => { c with requests := c.requests.map fun r => { r with old := o } }
    let ends := (tReq 0xC000000000000000 (.load 8) (.g 5 8 false false 0) true).modPkgAt 0 fun p => { p with hwsize := 8, links := [(7, { st := .up })] }
    at2.quiet 0 0x30 = true ∧ at2.poisonedIn 0 0x3008 8 = false ∧ (AMap.find? (at2.bentAt 0).l2 0x30).any (at2.bentAt 0).current = true ∧
    wNext (.remoteAccessArrival 0 4) at2 (fun t => t.l2Read 0 0x3008 8 = 5 && t.core.requests.map Request.done = [true]) = true ∧
    host.barOffset 0 0 8 = none ∧ wNext (.remoteAccessArrival 0 4) host (fun t => (t.pkgAt 0).hostAtomics.length = 1) = true ∧
    wNext (.remoteAccessArrival 0 4) (two none) (fun t => t.core.requests.map Request.old = [some 0]) = true ∧
    wNext (.remoteAccessArrival 0 4) (two (some 0)) (fun t => t.core.requests.map Request.done = [true]) = true ∧
    wNext (.replyLanding 0 4 7 false) ends (fun t => t.slot.readG 5 = 7) = true ∧ wNext (.replyLanding 0 4 7 true) ends (fun t => t.slot.td = 1) = true ∧
    (tTask.modSlot fun sl => { sl with run := .waiting }).core.fillOpen 0 = false := by decide +kernel

/-- Two slots of one context that both pop q0: paired either way, slot 0 pops and slot 1 waits for the next cycle (13 R244). -/
theorem test_wit_StepRunsDecoded_clash :
    let w := encode (.vadd 3 24 2 0 0 0)
    let s0 : State := { wCtx tTask fun c => { c with bindings := [(0, { word := 0x1046000000000002, bound := true, fill := 1, free := 1 })] } with
      mem := Memory.writeNat [] 0x1000 4 w.toNat }
    let s := s0.modSlotOf 0 1 fun _ => { tSlot with num := 1 }
    let run (first other : Nat) := step { s.modCore (fun c => { c with curSlot := if first = 0 then 0 else 1 }) with agenda := [.pair 0 first other] }
    (s.switchTo 0 0).ringClash 0 1 = true ∧ (s.switchTo 0 0).canPair 1 = true ∧
    [run 0 1, run 1 0].all (fun r => match r with
      | .next t => (t.slotOf 0 0).pc = 0x1004 && (t.slotOf 0 1).pc = 0x1000 && (t.binding 0).fill = 0
      | _ => false) = true ∧
    (match run 1 0 with
     | .next t => decide ((t.slotOf 0 1).nextIssue = s.cycle + 1)
     | _ => false) = true := by decide +kernel

/-- Two slots of the reset core with a vector addition each issue in one cycle. -/
theorem test_wit_StepRunsDecoded_more :
    let w := encode (.vadd 3 1 2 0 0 0)
    let s0 : State := { tFw with mem := Memory.writeNat (Memory.writeNat [] 0 4 w.toNat) 0x100 4 w.toNat, agenda := [.pair 0 0 1] }
    let s := s0.modSlotOf 0 1 fun sl => { sl with run := .ready, mode := .firmware, pc := 0x100, num := 1 }
    (match s.takeTurn with
     | (.pair 0 0 1, s1) => decide ((s1.coreAt 0).nextSlot = some 0) && (s1.switchTo 0 0).issuesTwoPipe && (s1.switchTo 0 0).fetchedAhead.isNone && !(s1.switchTo 0 0).ringClash 0 1 && !(s1.switchTo 0 0).pushFirst 0 1 &&
        (match slotStep 0 0 s1 with
         | .next t => t.canPair 1 && (match (t.besides 1).fetch with
           | (u, .word w) => (decode w).any fun i => wNext i u fun v => v.cycle = t.cycle
           | _ => false)
         | _ => false)
     | _ => false) = true ∧
    (match step s with
     | .next t => (t.slotOf 0 0).pc = 4 && (t.slotOf 0 1).pc = 0x104 && t.cycle = s.cycle
     | _ => false) = true := by decide +kernel

/-! ### Values worked out by hand from the rules -/

/-- What an instruction leaves in g5 once its result has landed, from values of g6 and g7. -/
def wResult (i : Instr) (x y : Word) : Option Word :=
  match exec i (wG tFw [(6, x), (7, y)]) with
  | .next t => some (landedG t 5)
  | _ => none

/-- 04 R84: sums wrap, a shift takes its count modulo 64, a signed high product of two minus ones is 0. -/
theorem test_integer_values : wResult (.add 5 6 7 0) (-1) 1 = some 0 ∧ wResult (.sub 5 6 7 0) 0 1 = some (-1) ∧
    wResult (.mulh 5 6 7 0) (-1) (-1) = some 0 ∧ wResult (.sll 5 6 7 0) 1 65 = some 2 ∧ wResult (.sra 5 6 7 0) (-8) 1 = some (-4) := by decide +kernel

/-- 04 R87: the immediate of ADDI and that of ORI are sign-extended. -/
theorem test_immediate_values : wResult (.addi 5 6 0xFFFF) 3 0 = some 2 ∧ wResult (.ori 5 6 0xFFFF) 0 0 = some 0xFFFFFFFFFFFFFFFF := by decide +kernel

/-- 04 R99: 1 + 2^-24 in binary32 is a tie that goes to even; 1 + 2^-23 is exact. -/
theorem test_fadd_ties_to_even : wResult (.fadd 5 6 7 0 0 0) 0x3F800000 0x33800000 = some 0x3F800000 ∧
    wResult (.fadd 5 6 7 0 0 0) 0x3F800000 0x34000000 = some 0x3F800001 := by decide +kernel

/-- 00 R4: a doubleword stored to the A-store has its least significant byte first. -/
theorem test_store_is_little_endian : wNext (.stD 7 6 0) (wG tTask [(6, 0x2000000000000010), (7, 0x1122334455667788)])
    (fun t => Memory.read t.core.astore 0x10 = 0x88 && Memory.read t.core.astore 0x17 = 0x11) = true := by decide +kernel

/-- 04 R86, R91: a skip passes over n instructions, a link is the next address. -/
theorem test_branch_values : wNext (.skipEqz 6 3) tTask (fun t => t.slot.pc = 0x1010) = true ∧
    wNext (.jal 1 0x10) tTask (fun t => t.slot.pc = 0x1040 && landedG t 1 = 0x1004) = true := by decide +kernel

/-- 19 R351: TRAP 5 of a task saves the next address and goes to TVEC in supervisor mode at depth 1; TRET brings it back. -/
theorem test_trap_and_return : wNext (.trap 5) tTask (fun t => t.slot.mode = .supervisor && t.slot.td = 1 && t.slot.pc = 0x8000 &&
    wNext .tret t (fun u => u.slot.mode = .task && u.slot.td = 0)) = true := by decide +kernel

/-- 05 R114: bytes wrap lane by lane. -/
theorem test_vadd_wraps_per_lane : wNext (.vadd 3 1 2 0 0 0) (wV (wV tTask 1 0x01FF) 2 0x0001)
    (fun t => (landedV t 3).toNat % 2 ^ 16 = 0x0100) = true := by decide +kernel

end Sys2Proof.Tests
end

/-!
SUPPORT. 02 R27 to R32: the encoder and the decoder agree, and every instruction goes through the issue, where the features and the
mode are checked.
-/
namespace Sys2Proof.Laws

open Sys2Proof

/-- 02 R27 to R32: a well-formed instruction is read back from its word, one case for each instruction. -/
theorem decode_encode (i : Instr) : Encoding.Statement i := by
  cases i with
  | add d a b s => exact Encoding.add d a b s
  | sub d a b s => exact Encoding.sub d a b s
  | and d a b s => exact Encoding.and d a b s
  | or d a b s => exact Encoding.or d a b s
  | xor d a b s => exact Encoding.xor d a b s
  | andn d a b s => exact Encoding.andn d a b s
  | sll d a b s => exact Encoding.sll d a b s
  | srl d a b s => exact Encoding.srl d a b s
  | sra d a b s => exact Encoding.sra d a b s
  | min d a b s => exact Encoding.min d a b s
  | max d a b s => exact Encoding.max d a b s
  | minz d a b s => exact Encoding.minz d a b s
  | maxz d a b s => exact Encoding.maxz d a b s
  | slt d a b s => exact Encoding.slt d a b s
  | sltz d a b s => exact Encoding.sltz d a b s
  | seq d a b s => exact Encoding.seq d a b s
  | clz d a s => exact Encoding.clz d a s
  | ctz d a s => exact Encoding.ctz d a s
  | popc d a s => exact Encoding.popc d a s
  | padd d a b s => exact Encoding.padd d a b s
  | psub d a b s => exact Encoding.psub d a b s
  | pdesc d a s => exact Encoding.pdesc d a s
  | pset d a b s => exact Encoding.pset d a b s
  | cselEqz d a b c s => exact Encoding.cselEqz d a b c s
  | cselNez d a b c s => exact Encoding.cselNez d a b c s
  | cselLtz d a b c s => exact Encoding.cselLtz d a b c s
  | cselGez d a b c s => exact Encoding.cselGez d a b c s
  | cselGtz d a b c s => exact Encoding.cselGtz d a b c s
  | cselLez d a b c s => exact Encoding.cselLez d a b c s
  | mul d a b s => exact Encoding.mul d a b s
  | mulh d a b s => exact Encoding.mulh d a b s
  | mulhz d a b s => exact Encoding.mulhz d a b s
  | div d a b s => exact Encoding.div d a b s
  | divz d a b s => exact Encoding.divz d a b s
  | rem d a b s => exact Encoding.rem d a b s
  | remz d a b s => exact Encoding.remz d a b s
  | addi d a i => exact Encoding.addi d a i
  | andi d a i => exact Encoding.andi d a i
  | ori d a i => exact Encoding.ori d a i
  | xori d a i => exact Encoding.xori d a i
  | slti d a i => exact Encoding.slti d a i
  | sltiz d a i => exact Encoding.sltiz d a i
  | slli d a n => exact Encoding.slli d a n
  | srli d a n => exact Encoding.srli d a n
  | srai d a n => exact Encoding.srai d a n
  | paddi d a i => exact Encoding.paddi d a i
  | luk d i => exact Encoding.luk d i
  | addpc d i => exact Encoding.addpc d i
  | ldB t a o => exact Encoding.ldB t a o
  | ldH t a o => exact Encoding.ldH t a o
  | ldW t a o => exact Encoding.ldW t a o
  | ldD t a o => exact Encoding.ldD t a o
  | ldzB t a o => exact Encoding.ldzB t a o
  | ldzH t a o => exact Encoding.ldzH t a o
  | ldzW t a o => exact Encoding.ldzW t a o
  | stB t a o => exact Encoding.stB t a o
  | stH t a o => exact Encoding.stH t a o
  | stW t a o => exact Encoding.stW t a o
  | stD t a o => exact Encoding.stD t a o
  | ldcW t a o => exact Encoding.ldcW t a o
  | ldcD t a o => exact Encoding.ldcD t a o
  | ldbit d a b n s => exact Encoding.ldbit d a b n s
  | ldbitS d a b n s => exact Encoding.ldbitS d a b n s
  | stbit d a b n s => exact Encoding.stbit d a b n s
  | amoAdd d a b z c o => exact Encoding.amoAdd d a b z c o
  | amoAnd d a b z c o => exact Encoding.amoAnd d a b z c o
  | amoOr d a b z c o => exact Encoding.amoOr d a b z c o
  | amoXor d a b z c o => exact Encoding.amoXor d a b z c o
  | amoMin d a b z c o => exact Encoding.amoMin d a b z c o
  | amoMax d a b z c o => exact Encoding.amoMax d a b z c o
  | amoMinz d a b z c o => exact Encoding.amoMinz d a b z c o
  | amoMaxz d a b z c o => exact Encoding.amoMaxz d a b z c o
  | amoSwap d a b z c o => exact Encoding.amoSwap d a b z c o
  | amoCas d a b z c o => exact Encoding.amoCas d a b z c o
  | amoFaddF32 d a b c o => exact Encoding.amoFaddF32 d a b c o
  | amoFaddBf16 d a b c o => exact Encoding.amoFaddBf16 d a b c o
  | updAdd a b z c => exact Encoding.updAdd a b z c
  | updFadd a b z c => exact Encoding.updFadd a b z c
  | updMin a b z c => exact Encoding.updMin a b z c
  | updMax a b z c => exact Encoding.updMax a b z c
  | updOr a b z c => exact Encoding.updOr a b z c
  | updAnd a b z c => exact Encoding.updAnd a b z c
  | beq a b i => exact Encoding.beq a b i
  | bne a b i => exact Encoding.bne a b i
  | blt a b i => exact Encoding.blt a b i
  | bge a b i => exact Encoding.bge a b i
  | bltz a b i => exact Encoding.bltz a b i
  | bgez a b i => exact Encoding.bgez a b i
  | jal d i => exact Encoding.jal d i
  | jalr d a i => exact Encoding.jalr d a i
  | skipEqz a n => exact Encoding.skipEqz a n
  | skipNez a n => exact Encoding.skipNez a n
  | skipLtz a n => exact Encoding.skipLtz a n
  | skipGez a n => exact Encoding.skipGez a n
  | skipGtz a n => exact Encoding.skipGtz a n
  | skipLez a n => exact Encoding.skipLez a n
  | fenceAcq d c => exact Encoding.fenceAcq d c
  | fenceRel d c => exact Encoding.fenceRel d c
  | fenceFull d c => exact Encoding.fenceFull d c
  | qfence q => exact Encoding.qfence q
  | cclean a c => exact Encoding.cclean a c
  | cinv a c => exact Encoding.cinv a c
  | cflush a c => exact Encoding.cflush a c
  | nop => exact Encoding.nop
  | trap i => exact Encoding.trap i
  | tret => exact Encoding.tret
  | wfe => exact Encoding.wfe
  | halt => exact Encoding.halt
  | csrr h d l => exact Encoding.csrr h d l
  | csrw h a d l => exact Encoding.csrw h a d l
  | csrs h a d l => exact Encoding.csrs h a d l
  | csrc h a d l => exact Encoding.csrc h a d l
  | spawn d a b s => exact Encoding.spawn d a b s
  | rets d s => exact Encoding.rets d s
  | sync a s => exact Encoding.sync a s
  | publish a b n s => exact Encoding.publish a b n s
  | tend s => exact Encoding.tend s
  | tself d s => exact Encoding.tself d s
  | launch d a s => exact Encoding.launch d a s
  | qbind q a s => exact Encoding.qbind q a s
  | qpush q a s => exact Encoding.qpush q a s
  | qpop d q s => exact Encoding.qpop d q s
  | enq d a b s => exact Encoding.enq d a b s
  | spawnb d a b s => exact Encoding.spawnb d a b s
  | binflush a s => exact Encoding.binflush a s
  | taskq d a b s => exact Encoding.taskq d a b s
  | sqinc d a b s => exact Encoding.sqinc d a b s
  | sqread d a s => exact Encoding.sqread d a s
  | donate d a b s => exact Encoding.donate d a b s
  | binit d a b s => exact Encoding.binit d a b s
  | barrive a s => exact Encoding.barrive a s
  | bexpect a b s => exact Encoding.bexpect a b s
  | bwait d a s => exact Encoding.bwait d a s
  | btest d a s => exact Encoding.btest d a s
  | bfree a s => exact Encoding.bfree a s
  | sendi a b s => exact Encoding.sendi a b s
  | sendb d a b s => exact Encoding.sendb d a b s
  | rpost d a b s => exact Encoding.rpost d a b s
  | rcancel d a s => exact Encoding.rcancel d a s
  | qwake a b s => exact Encoding.qwake a b s
  | msgdone s => exact Encoding.msgdone s
  | monset d a b s => exact Encoding.monset d a b s
  | monarm a b s => exact Encoding.monarm a b s
  | monref a b s => exact Encoding.monref a b s
  | monread d a b s => exact Encoding.monread d a b s
  | monclr a s => exact Encoding.monclr a s
  | subs d a b s => exact Encoding.subs d a b s
  | unsubs a s => exact Encoding.unsubs a s
  | mset a m => exact Encoding.mset a m
  | mget m d => exact Encoding.mget m d
  | mma a b => exact Encoding.mma a b
  | mmaco a b => exact Encoding.mmaco a b
  | mwait d => exact Encoding.mwait d
  | mwaitT d => exact Encoding.mwaitT d
  | msave a => exact Encoding.msave a
  | mload a => exact Encoding.mload a
  | mzero => exact Encoding.mzero
  | cput q a x => exact Encoding.cput q a x
  | cget q x d => exact Encoding.cget q x d
  | claunch q d => exact Encoding.claunch q d
  | cwait a d => exact Encoding.cwait a d
  | cstatus a d => exact Encoding.cstatus a d
  | cabort a d => exact Encoding.cabort a d
  | shapeMk r a b s => exact Encoding.shapeMk r a b s
  | shapeGet d r n s => exact Encoding.shapeGet d r n s
  | vadd d a b g w s => exact Encoding.vadd d a b g w s
  | vsub d a b g w s => exact Encoding.vsub d a b g w s
  | vmul d a b g w s => exact Encoding.vmul d a b g w s
  | vmulh d a b g w s => exact Encoding.vmulh d a b g w s
  | vmin d a b g w s => exact Encoding.vmin d a b g w s
  | vmax d a b g w s => exact Encoding.vmax d a b g w s
  | vand d a b g w s => exact Encoding.vand d a b g w s
  | vor d a b g w s => exact Encoding.vor d a b g w s
  | vxor d a b g w s => exact Encoding.vxor d a b g w s
  | vsll d a b g w s => exact Encoding.vsll d a b g w s
  | vsrl d a b g w s => exact Encoding.vsrl d a b g w s
  | vsra d a b g w s => exact Encoding.vsra d a b g w s
  | vfadd d a b g w s => exact Encoding.vfadd d a b g w s
  | vfsub d a b g w s => exact Encoding.vfsub d a b g w s
  | vfmul d a b g w s => exact Encoding.vfmul d a b g w s
  | vfmin d a b g w s => exact Encoding.vfmin d a b g w s
  | vfmax d a b g w s => exact Encoding.vfmax d a b g w s
  | vfdiv d a b g w s => exact Encoding.vfdiv d a b g w s
  | vfsqrt d a g w s => exact Encoding.vfsqrt d a g w s
  | vfrcp d a g w s => exact Encoding.vfrcp d a g w s
  | vfrsq d a g w s => exact Encoding.vfrsq d a g w s
  | vfexp2 d a g w s => exact Encoding.vfexp2 d a g w s
  | vflog2 d a g w s => exact Encoding.vflog2 d a g w s
  | vfma d a b g w s => exact Encoding.vfma d a b g w s
  | vfms d a b g w s => exact Encoding.vfms d a b g w s
  | vfnma d a b g w s => exact Encoding.vfnma d a b g w s
  | vcvt d a p g e r s => exact Encoding.vcvt d a p g e r s
  | vqmx d a p e s => exact Encoding.vqmx d a p e s
  | vdqmx d a p e s => exact Encoding.vdqmx d a p e s
  | vxdec d a s => exact Encoding.vxdec d a s
  | vld d a g w s => exact Encoding.vld d a g w s
  | vst d a g w s => exact Encoding.vst d a g w s
  | vlds d a b g w s => exact Encoding.vlds d a b g w s
  | vsts d a b g w s => exact Encoding.vsts d a b g w s
  | vgather d a b g w s => exact Encoding.vgather d a b g w s
  | vscatter d a b g w s => exact Encoding.vscatter d a b g w s
  | vldb d a n g w s => exact Encoding.vldb d a n g w s
  | vstb d a n g w s => exact Encoding.vstb d a n g w s
  | vbcast d a g w s => exact Encoding.vbcast d a g w s
  | vmovg d a b g w s => exact Encoding.vmovg d a b g w s
  | vins d a b g w s => exact Encoding.vins d a b g w s
  | vperm d a b g w s => exact Encoding.vperm d a b g w s
  | vshuf d a b g w s => exact Encoding.vshuf d a b g w s
  | vred d a o g w s => exact Encoding.vred d a o g w s
  | vscan d a o g w s => exact Encoding.vscan d a o g w s
  | vcompress d a g w s => exact Encoding.vcompress d a g w s
  | vrbox d a b g s => exact Encoding.vrbox d a b g s
  | vrtri d a b g s => exact Encoding.vrtri d a b g s
  | vcmpEq d a b g w s => exact Encoding.vcmpEq d a b g w s
  | vcmpNe d a b g w s => exact Encoding.vcmpNe d a b g w s
  | vcmpLt d a b g w s => exact Encoding.vcmpLt d a b g w s
  | vcmpLe d a b g w s => exact Encoding.vcmpLe d a b g w s
  | vcmpLtz d a b g w s => exact Encoding.vcmpLtz d a b g w s
  | vcmpLez d a b g w s => exact Encoding.vcmpLez d a b g w s
  | vcmpFeq d a b g w s => exact Encoding.vcmpFeq d a b g w s
  | vcmpFlt d a b g w s => exact Encoding.vcmpFlt d a b g w s
  | vcmpFle d a b g w s => exact Encoding.vcmpFle d a b g w s
  | vcmpFun d a b g w s => exact Encoding.vcmpFun d a b g w s
  | fadd d a b z r s => exact Encoding.fadd d a b z r s
  | fsub d a b z r s => exact Encoding.fsub d a b z r s
  | fmul d a b z r s => exact Encoding.fmul d a b z r s
  | fma d a b z r s => exact Encoding.fma d a b z r s
  | fdiv d a b z r s => exact Encoding.fdiv d a b z r s
  | fsqrt d a z r s => exact Encoding.fsqrt d a z r s
  | fmin d a b z s => exact Encoding.fmin d a b z s
  | fmax d a b z s => exact Encoding.fmax d a b z s
  | fcmp d a b z c s => exact Encoding.fcmp d a b z c s
  | fcvt d a c r s => exact Encoding.fcvt d a c r s
  | fclass d a z s => exact Encoding.fclass d a z s
  | fdrop a => exact Encoding.fdrop a
  | fseal i => exact Encoding.fseal i
  | _ =>
    -- BREAK, whose constructor bears a keyword's name, and the events, which `cases he` refutes.
    intro he
    cases he
    all_goals exact Encoding.break rfl

/-- No major or minor code selects an event. -/
theorem isEvent_of_decodeMajor {w : BitVec 32} {i : Instr} (h : decodeMajor w = some i) : i.isEvent = false := by
  suffices (decodeMajor w).all fun i => !i.isEvent by simpa [h] using this
  unfold decodeMajor decodeInta decodeMula decodeShi decodeLd decodeSt decodeLdc decodeBitm decodeAtom decodeUpd decodeBrc decodeSkip
    decodeMemsys decodeSys decodeFrame decodeQueue decodeBar decodeMsg decodeMon decodePage decodeEngt decodeEngc decodeShape decodeVint
    decodeVfp decodeVfma decodeVcvt decodeVmem decodeVperm decodeVray decodeVcmp decodeFps decodeEscape
  repeat' split
  all_goals rfl

/-- 02 R30: what decodes is well formed, and the word is its own. -/
theorem decode_eq_some {w : BitVec 32} {i : Instr} (h : decode w = some i) :
    decodeMajor w = some i ∧ i.wellFormed = true ∧ encode i = w := by
  unfold decode at h
  split at h
  · next j hj =>
    split at h
    · next hc =>
      obtain rfl := Option.some.inj h
      simpa [hj] using hc
    · cases h
  · cases h

/-- 02 R32: the firmware escapes. -/
theorem decodeEscape_eq_some {w : BitVec 32} {i : Instr} (h : decodeEscape w = some i) :
    (∃ a, i = .fdrop a) ∨ ∃ n, i = .fseal n := by
  unfold decodeEscape at h
  split at h
  · exact .inl ⟨_, (Option.some.inj h).symm⟩
  · exact .inr ⟨_, (Option.some.inj h).symm⟩
  · cases h

/-- Settles O55: the encoding of each instruction, and what the decoder checks of the one that it selects. -/
theorem decodeAndEncodeAgree : Obligations.DecodeAndEncodeAgree := by
  refine ⟨decode_encode, fun w i h => ?_⟩
  obtain ⟨hm, hw, he⟩ := decode_eq_some h
  exact ⟨isEvent_of_decodeMajor hm, hw, he⟩

end Sys2Proof.Laws

namespace Sys2Proof.Machine

open Sys2Proof Sys2Proof.Safety Sys2Proof.Laws

/-- The meaning of every instruction that has a word is an issue: each arm of exec unfolds to one. -/
theorem exec_eq_issue (i : Instr) (s : State) (h : i.isEvent = false) :
    ∃ reads writes body, exec i s = issue i reads writes s body := by
  cases i <;> cases h <;> exact ⟨_, _, _, rfl⟩

theorem issue_of_not_permitted {i : Instr} {s : State} (h : s.permitted i = false) (reads writes : List Reg) (body : State → State) :
    issue i reads writes s body = .next (s.trap Cause.illegal ((encode i).setWidth 64) 0) := by
  unfold issue
  rw [h]; rfl

/-- 02 R30, R31: an excluded instruction takes ILLEGAL. -/
theorem exec_of_not_permitted {i : Instr} {s : State} (hi : i.isEvent = false) (h : s.permitted i = false) :
    exec i s = .next (s.trap Cause.illegal ((encode i).setWidth 64) 0) := by
  obtain ⟨reads, writes, body, he⟩ := exec_eq_issue i s hi
  rw [he, issue_of_not_permitted h]

theorem exec_illegalWord {w : BitVec 32} {s : State} (hw : decode w = none) (hs : s.core.canIssue s.core.curSlot.val = true) :
    exec (.illegalWord w) s = .next (s.trap Cause.illegal (w.setWidth 64) 0) := by
  change execIllegalWord w s = _
  simp [execIllegalWord, hw, hs]

theorem exec_heldAsyncTrapDelivery {core slot : Nat} {s : State} {h : HeldTrap} {rest : List HeldTrap}
    (hh : (s.slotOf core slot).held = h :: rest) (htd : (s.slotOf core slot).td ≠ 2) (hr : (s.slotOf core slot).run = .ready)
    (ha : (s.coreAt core).awaits slot = false) :
    exec (.heldAsyncTrapDelivery core slot) s =
      .next ((s.modSlotOf core slot fun sl => { sl with held := rest }).takeTrapAt core slot h.cause h.tval h.tinfo (s.slotOf core slot).pc true) := by
  change execHeldAsyncTrapDelivery core slot s = _
  simp [execHeldAsyncTrapDelivery, hh, htd, hr, ha]

/-- 02 R32: a firmware escape is permitted in firmware mode alone. -/
theorem permitted_escape {s : State} {i : Instr} (h : (∃ a, i = .fdrop a) ∨ ∃ n, i = .fseal n) :
    s.permitted i = (s.hasFeature 0 && decide (s.slot.mode = .firmware)) := by
  obtain ⟨a, rfl⟩ | ⟨n, rfl⟩ := h <;> simp [State.permitted, featureOf, stochasticCode, State.privileged]

theorem runWord_of_decode {w : BitVec 32} {i : Instr} (h : decode w = some i) (s : State) : runWord w s = exec i s := by
  unfold runWord; rw [h]

theorem runWord_of_decode_none {w : BitVec 32} (h : decode w = none) (s : State) : runWord w s = exec (.illegalWord w) s := by
  unfold runWord; rw [h]

/-- 02 R32: a word of major 0x3F decodes to a firmware escape. -/
theorem decode_escape {w : BitVec 32} (hw : bits w 26 6 = 0x3F#6) {i : Instr} (h : decode w = some i) :
    (∃ a, i = .fdrop a) ∨ ∃ n, i = .fseal n := by
  obtain ⟨hm, -, -⟩ := decode_eq_some h
  rw [decodeMajor_3F w hw] at hm
  exact decodeEscape_eq_some hm

/-- Settles O21: the issue checks the features and the mode before anything else. -/
theorem excludedAndIllegalWordsTrap : Obligations.ExcludedAndIllegalWordsTrap :=
  ⟨fun _ _ => exec_of_not_permitted, fun _ _ => exec_illegalWord, fun _ _ _ _ _ => exec_heldAsyncTrapDelivery⟩

/-- Settles O57: major 0x3F selects the firmware escapes alone, and these the mode excludes elsewhere. -/
theorem escapeMajor : Obligations.EscapeMajor := by
  intro w s hw hs
  have illegal (h : decode w = none) : runWord w s = .next (s.trap Cause.illegal (w.setWidth 64) 0) := by
    rw [runWord_of_decode_none h, exec_illegalWord h hs]
  refine ⟨fun hm => ?_, fun _ => illegal, fun i => decode_escape hw, fun hm hf i h => ⟨runWord_of_decode h s, ?_⟩⟩
  · cases h : decode w with
    | none => exact illegal h
    | some i =>
      obtain ⟨hmaj, -, he⟩ := decode_eq_some h
      have hp : s.permitted i = false := by simp [permitted_escape (decode_escape hw h), hm]
      rw [runWord_of_decode h, exec_of_not_permitted (isEvent_of_decodeMajor hmaj) hp, he]
  · simp [permitted_escape (decode_escape hw h), hm, hf]

end Sys2Proof.Machine

/-!
SUPPORT. Lanes of a vector register, and the delivery of a vector result (02 R36, R40).
-/
namespace Sys2Proof.Machine

open Sys2Proof Sys2Proof.Safety

/-! ### Lanes -/

theorem lane_eq_extractLsb' (v : Vec) (w k : Nat) : lane v w k = (v.extractLsb' (w * k) w).toNat := by
  rw [BitVec.extractLsb'_toNat, Nat.shiftRight_eq_div_pow]; rfl

/-- Element k of packed numbers. -/
theorem packLanes_div_mod (w : Nat) (l : List Nat) (k : Nat) (hk : k < l.length) :
    packLanes w l / 2 ^ (w * k) % 2 ^ w = l[k] % 2 ^ w := by
  induction l generalizing k with
  | nil => simp at hk
  | cons x l ih =>
    cases k with
    | zero => simp [packLanes]
    | succ k =>
      have hx : (x % 2 ^ w + 2 ^ w * packLanes w l) / 2 ^ w = packLanes w l := by
        rw [Nat.add_mul_div_left _ _ (Nat.two_pow_pos w), Nat.div_eq_of_lt (Nat.mod_lt _ (Nat.two_pow_pos w)), Nat.zero_add]
      rw [packLanes, Nat.mul_succ, Nat.pow_add, Nat.mul_comm (2 ^ (w * k)), ← Nat.div_div_eq_div_mul, hx, ih k (by simpa using hk)]
      rfl

theorem mul_add_le_of_lt_div {n w k : Nat} (hk : k < n / w) : w * k + w ≤ n := by
  rw [← Nat.mul_succ]
  exact Nat.le_trans (Nat.mul_le_mul_left w hk) (Nat.mul_div_le n w)

theorem extractLsb'_ofNat {n lo len : Nat} (h : lo + len ≤ n) (x : Nat) :
    (BitVec.ofNat n x).extractLsb' lo len = BitVec.ofNat len (x / 2 ^ lo) := by
  have hd : 2 ^ lo * 2 ^ len ∣ 2 ^ n := Nat.pow_add 2 lo len ▸ Nat.pow_dvd_pow 2 h
  apply BitVec.eq_of_toNat_eq
  rw [BitVec.extractLsb'_toNat, Nat.shiftRight_eq_div_pow, BitVec.toNat_ofNat, BitVec.toNat_ofNat, ← Nat.mod_mul_right_div_self,
    Nat.mod_mod_of_dvd _ hd, Nat.mod_mul_right_div_self]

theorem extractLsb'_vecOf (w : Nat) (f : Nat → Nat) (k : Nat) (hk : k < 512 / w) :
    (vecOf w f).extractLsb' (w * k) w = BitVec.ofNat w (f k) := by
  rw [vecOf, extractLsb'_ofNat (mul_add_le_of_lt_div hk)]
  apply BitVec.eq_of_toNat_eq
  rw [BitVec.toNat_ofNat, packLanes_div_mod _ _ _ (by simpa using hk)]
  simp

theorem extractLsb'_laneBits (w : Nat) (on : Nat → Bool) (k : Nat) (hk : k < 512 / w) :
    (laneBits w on).extractLsb' (w * k) w = if on k then BitVec.allOnes w else 0#w := by
  rw [laneBits, extractLsb'_vecOf _ _ _ hk]
  split
  · exact BitVec.eq_of_toNat_eq (by simp)
  · rfl

/-- As `BitVec.extractLsb'_not_of_lt`, for a field that may end at the highest bit. -/
theorem extractLsb'_not_of_le {n : Nat} (x : BitVec n) {start len : Nat} (h : start + len ≤ n) :
    (~~~x).extractLsb' start len = ~~~x.extractLsb' start len := by
  ext i hi
  simp [show start + i < n by omega]

/-- 02 R40: under the mask of enabled lanes these take the result and the others stay. -/
theorem lane_merge (u : Vec) (w : Nat) (f : Nat → Nat) (on : Nat → Bool) (k : Nat) (hk : k < 512 / w) :
    lane (u &&& ~~~laneBits w on ||| vecOf w f &&& laneBits w on) w k = if on k then f k % 2 ^ w else lane u w k := by
  have hle := mul_add_le_of_lt_div hk
  rw [lane_eq_extractLsb', lane_eq_extractLsb', BitVec.extractLsb'_or, BitVec.extractLsb'_and, BitVec.extractLsb'_and,
    extractLsb'_not_of_le _ hle, extractLsb'_vecOf _ _ _ hk, extractLsb'_laneBits _ _ _ hk]
  cases on k <;> simp

/-! ### Delivering a vector result -/

theorem State.slot_putV (s : State) (r : BitVec 5) (x mask : Vec) (lat : Nat) (fixed : Bool) :
    (s.putV r x mask lat fixed).slot = s.slot.deliver s.cycle lat fixed (.v r) x mask false := State.slot_modSlot ..

theorem State.core_putV (s : State) (r : BitVec 5) (x mask : Vec) (lat : Nat) (fixed : Bool) :
    (s.putV r x mask lat fixed).core = { s.core with slots := s.core.slots.set s.core.curSlot (s.putV r x mask lat fixed).slot } := by
  rw [State.slot_putV]; exact State.core_modSlot ..

theorem State.coreAt_putV (s : State) (r : BitVec 5) (x mask : Vec) (lat : Nat) (fixed : Bool) (k : Nat) (h : k ≠ s.cur) :
    (s.putV r x mask lat fixed).coreAt k = s.coreAt k := State.coreAt_modSlot_of_ne _ _ _ h

theorem State.landedG_putV (s : State) (r : BitVec 5) (x mask : Vec) (lat : Nat) (fixed : Bool) (q : BitVec 5) :
    landedG (s.putV r x mask lat fixed) q = landedG s q := by
  unfold landedG
  rw [State.slot_putV, Slot.landAll_deliver_readG]; simp

theorem State.landedTaint_putV (s : State) (r : BitVec 5) (x mask : Vec) (lat : Nat) (fixed : Bool) (q : BitVec 5) :
    landedTaint (s.putV r x mask lat fixed) q = landedTaint s q := by
  unfold landedTaint
  rw [State.slot_putV, Slot.landAll_deliver_readTaint]; simp

theorem State.landedV_putV (s : State) (r : BitVec 5) (x mask : Vec) (lat : Nat) (fixed : Bool) (q : BitVec 5) :
    landedV (s.putV r x mask lat fixed) q =
      if r = q ∧ q.toNat < 24 then landedV s q &&& ~~~mask ||| x &&& mask else landedV s q := by
  unfold landedV
  rw [State.slot_putV, Slot.landAll_deliver_readV]
  simp only [Reg.v.injEq]

theorem State.pc_putV (s : State) (r : BitVec 5) (x mask : Vec) (lat : Nat) (fixed : Bool) :
    (s.putV r x mask lat fixed).slot.pc = s.slot.pc := by
  rw [State.slot_putV, Slot.deliver_frame]

/-- Delivering a vector result and retiring write that register and nothing else (02 R35 to R40). -/
theorem State.onlyWrites_putV_retireAt (p : State) (d : BitVec 5) (x mask : Vec) (lat : Nat) (fixed : Bool) (next : Word) (st ex : Nat) :
    OnlyWrites [.v d] p ((p.putV d x mask lat fixed).retireAt next st ex) where
  device := rfl
  cores k h := (State.coreAt_retireAt (p.putV d x mask lat fixed) _ _ _ _ h).trans (State.coreAt_putV _ _ _ _ _ _ _ h)
  core := by rw [State.core_retireAt, State.core_putV]
  slots n h := by
    have hn : (p.core.curSlot : Nat) ≠ n := fun e => h (Fin.ext e.symm)
    have hs := State.slots_retireAt (p.putV d x mask lat fixed) next st ex
    simp only [State.core_putV, Vector.set_set] at hs
    simp only [Fin.getElem_fin] at hs ⊢
    rw [hs, Vector.getElem_set_ne _ _ hn]
  slot := by
    rw [State.slot_retireAt, State.slot_putV]
    split
    · rw [Slot.landAll_frame, Slot.deliver_frame]
    · rw [Slot.deliver_frame]
  general r _ := by
    obtain ⟨hg, ht, -⟩ := State.landAll_retireAt (p.putV d x mask lat fixed) next st ex r
    exact ⟨hg.trans (State.landedG_putV ..), ht.trans (State.landedTaint_putV ..)⟩
  vector r h := by
    obtain ⟨-, -, hv⟩ := State.landAll_retireAt (p.putV d x mask lat fixed) next st ex r
    have hr : d ≠ r := fun e => h (by simp [e])
    rw [hv, State.landedV_putV, if_neg (fun e => hr e.1)]

/-- Settles O28: the delivery writes its register alone, and there the lanes that the mask selects. -/
theorem vectorDeliveryFrame : Obligations.VectorDeliveryFrame := by
  intro p d w f on lat stall fixed hd _
  refine ⟨State.onlyWrites_putV_retireAt .., ?_, fun k hk => ?_⟩
  · rw [State.retire, State.slot_retireAt, State.pc_putV]
  · obtain ⟨-, -, hv⟩ := State.landAll_retireAt (p.putV d (vecOf w f) (laneBits w on) lat fixed)
      ((p.putV d (vecOf w f) (laneBits w on) lat fixed).slot.pc + 4) stall 0 d
    rw [State.retire, hv, State.landedV_putV, if_pos ⟨rfl, hd⟩, lane_merge _ _ _ _ _ hk]

end Sys2Proof.Machine

/-!
SUPPORT. The fetch of a word from memory, and what a step does with each kind of turn.
-/
namespace Sys2Proof.Machine

open Sys2Proof Sys2Proof.Safety Sys2Proof.Laws

/-! ### The bytes of a number in memory -/

theorem Memory.readNat_lt (m : Memory) (a n : Nat) : Memory.readNat m a n < 256 ^ n := by
  induction n generalizing a with
  | zero => exact Nat.one_pos
  | succ n ih =>
    have hb := (Memory.read m a).isLt
    have hr := ih (a + 1)
    rw [Memory.readNat, Nat.pow_succ]
    omega

theorem Memory.readNat_add (m : Memory) (a j k : Nat) :
    Memory.readNat m a (j + k) = Memory.readNat m a j + 256 ^ j * Memory.readNat m (a + j) k := by
  induction j generalizing a with
  | zero => simp [Memory.readNat]
  | succ j ih =>
    rw [Nat.succ_add, Memory.readNat, Memory.readNat, ih, show a + (j + 1) = a + 1 + j by omega, Nat.pow_succ,
      Nat.mul_add, ← Nat.add_assoc, Nat.mul_comm (256 ^ j) 256, Nat.mul_assoc]

theorem Memory.readNat_div (m : Memory) (a j k : Nat) : Memory.readNat m a (j + k) / 256 ^ j = Memory.readNat m (a + j) k := by
  rw [Memory.readNat_add, Nat.add_mul_div_left _ _ (Nat.pow_pos (by decide)), Nat.div_eq_of_lt (Memory.readNat_lt ..), Nat.zero_add]

theorem Memory.readNat_mod (m : Memory) (a j k : Nat) : Memory.readNat m a (j + k) % 256 ^ j = Memory.readNat m a j := by
  rw [Memory.readNat_add, Nat.add_mul_mod_self_left, Nat.mod_eq_of_lt (Memory.readNat_lt ..)]

/-- A word inside a line of 256 bytes is the four bytes at its address. -/
theorem Memory.word_of_line (m : Memory) {pa : Nat} (h : pa % 4 = 0) :
    (BitVec.ofNat 2048 (Memory.readNat m (pa / 256 * 256) 256)).extractLsb' (8 * (pa % 256)) 32 = BitVec.ofNat 32 (Memory.readNat m pa 4) := by
  obtain ⟨r, hr⟩ : ∃ r, 256 = pa % 256 + (4 + r) := ⟨256 - pa % 256 - 4, by omega⟩
  have hline : Memory.readNat m (pa / 256 * 256) 256 / 256 ^ (pa % 256) = Memory.readNat m pa (4 + r) := by
    have := Memory.readNat_div m (pa / 256 * 256) (pa % 256) (4 + r)
    rwa [← hr, Nat.div_add_mod' pa 256] at this
  rw [extractLsb'_ofNat (by omega), Nat.pow_mul, show 2 ^ 8 = 256 from rfl, hline]
  apply BitVec.eq_of_toNat_eq
  rw [BitVec.toNat_ofNat, BitVec.toNat_ofNat, ← Memory.readNat_mod m pa 4 r]
  exact (Nat.mod_mod _ _).symm

/-! ### The fetch of a word that no cache holds -/

@[simp] theorem State.slot_bump (s : State) : s.bump.slot = s.slot := rfl

theorem State.slot_fillFetched (s : State) (line : Nat) (l : BitVec 2048) : (s.fillFetched line l).slot = s.slot := by
  unfold State.fillFetched
  dsimp only
  split
  · exact State.slot_modCore_keep _ _ fun _ => ⟨rfl, rfl⟩
  · rw [State.slot_bump]
    exact State.slot_modCore_keep _ _ fun _ => ⟨rfl, rfl⟩

theorem State.fetchBlocked_of_go {s : State} {pa : Nat} (hr : s.homeRoute (bentOf s.cur) pa = .go) : s.fetchBlocked pa = none := by
  unfold State.fetchBlocked
  rw [hr]
  exact ite_self none

theorem State.fetchAt_of_uncached {s : State} {pa : Nat} (h1 : AMap.find? s.core.l1i (pa / 256) = none)
    (h2 : AMap.find? (s.bentAt (bentOf s.cur)).l2 (pa / 256) = none) :
    ∃ v, s.fetchAt pa = (v, BitVec.ofNat 2048 (Memory.readNat s.mem (pa / 256 * 256) 256)) ∧ v.slot = s.slot := by
  unfold State.fetchAt State.fetchLine
  rw [h1, h2]
  exact ⟨_, rfl, State.slot_fillFetched ..⟩

/-- 02 R27, R49: a word that is neither fetched ahead nor held by a cache comes from memory at its address. -/
theorem State.fetch_of_uncached {s u : State} {pa : Nat} {table : Bool} (ha : s.fetchedAhead = none)
    (ht : s.translate .fetch s.slot.pc.toNat = (u, .ok pa table)) (hp : u.poisoned pa 4 = false) (h4 : pa % 4 = 0)
    (hpc : u.slot.pc.toNat % 256 = pa % 256) (hr : u.homeRoute (bentOf u.cur) pa = .go) (h1 : AMap.find? u.core.l1i (pa / 256) = none)
    (h2 : AMap.find? (u.bentAt (bentOf u.cur)).l2 (pa / 256) = none) :
    ∃ v, s.fetch = (v, .word (BitVec.ofNat 32 (Memory.readNat u.mem pa 4))) := by
  obtain ⟨v, hv, hs⟩ := State.fetchAt_of_uncached h1 h2
  unfold State.fetch State.fetchLineAt State.takeWord
  simp only [ha, ht, State.fetchBlocked_of_go hr, hp, hv, hs, hpc, Memory.word_of_line u.mem h4]
  exact ⟨_, rfl⟩

/-! ### Steps -/

theorem step_of_takeTurn {s s1 : State} {t : Turn} (h : s.takeTurn = (t, s1)) : step s = runTurn t s1 := by
  unfold step; rw [h]

theorem slotStep_of_nextSlot {core slot : Nat} {s : State} (h : (s.coreAt core).nextSlot = some slot) :
    slotStep core slot s = issueStep (s.switchTo core slot) := if_pos h

theorem issueStep_of_word {s u : State} {w : BitVec 32} (h : s.fetch = (u, .word w)) : issueStep s = runWord w u := by
  unfold issueStep; rw [h]

theorem issueStep_of_trap {s u : State} {cause : BitVec 8} {tval tinfo : Word} (h : s.fetch = (u, .trap cause tval tinfo)) :
    issueStep s = .next (u.trap cause tval tinfo) := by
  unfold issueStep; rw [h]

theorem issueStep_of_wait {s u : State} (h : s.fetch = (u, .wait)) : issueStep s = .next u.waitFetch := by
  unfold issueStep; rw [h]

theorem runTurn_pair {core slot other : Nat} {s : State} (h : (s.coreAt core).nextSlot = some slot)
    (h2 : (s.switchTo core slot).issuesTwoPipe = true) : runTurn (.pair core slot other) s = bothStep core slot other s := by
  simp [runTurn, h, h2]

/-- 05 R109: the second issue of a cycle runs the word of the other slot, and the slot that issued first stays the one that runs. -/
theorem pairStep_of_word {t u v : State} {other : Nat} {w : BitVec 32} {i : Instr} (hp : t.canPair other = true)
    (hf : (t.besides other).fetch = (u, .word w)) (hd : decode w = some i) (he : exec i u = .next v) (hc : v.cycle = t.cycle) :
    pairStep other t =
      .next (v.modCore fun x => { x with curSlot := t.core.curSlot, yielded := t.core.yielded, switchAt := t.core.switchAt }) := by
  unfold pairStep
  rw [if_pos hp, issueStep_of_word hf, runWord_of_decode hd, he]
  exact if_pos hc

theorem bothStep_in_order {core slot other : Nat} {s t : State} (hr : (s.switchTo core slot).ringClash slot other = false)
    (hp : (s.switchTo core slot).pushFirst slot other = false) (h : slotStep core slot s = .next t) :
    bothStep core slot other s = pairStep other t := by
  simp [bothStep, hr, hp, h]

theorem bothStep_clash {core slot other : Nat} {s : State} (hr : (s.switchTo core slot).ringClash slot other = true)
    (hc : (s.switchTo core slot).canPair other = true) (hlt : slot < other) : bothStep core slot other s = slotStep core slot s := by
  simp [bothStep, hr, hc, hlt]

theorem takeTurn_of_idle_agenda {s : State} {slot : Nat} (ha : s.agenda = []) (hh : s.core.heldReady = none)
    (hn : s.core.nextSlot = some slot) : s.takeTurn = (.issue s.cur slot, s) := by
  simp [State.takeTurn, State.autoTurn, ha, hh, hn]

/-- Settles O53: one clause for each kind of turn. -/
theorem stepRunsDecoded : Obligations.StepRunsDecoded := by
  intro s s1 core slot other
  refine ⟨fun ht hn => ?_, fun ht hn h2 hr hp t u w i v h1 hc hf hd he hy => ?_, fun ht hn h2 hr hlt hc => ?_, fun i ht hi => ?_,
    fun n ht => step_of_takeTurn ht, takeTurn_of_idle_agenda⟩
  · have hstep : step s = issueStep (s1.switchTo core slot) := (step_of_takeTurn ht).trans (slotStep_of_nextSlot hn)
    refine ⟨fun u w hf => ?_, fun u cause tval tinfo hf => ?_, fun u hf => ?_, fun u pa table => State.fetch_of_uncached⟩
    · rw [hstep, issueStep_of_word hf]
      exact ⟨fun i hd => runWord_of_decode hd u, fun hd => runWord_of_decode_none hd u⟩
    · rw [hstep, issueStep_of_trap hf]
    · rw [hstep, issueStep_of_wait hf]
  · rw [step_of_takeTurn ht, runTurn_pair hn h2, bothStep_in_order hr hp h1, pairStep_of_word hc hf hd he hy]
  · rw [step_of_takeTurn ht, runTurn_pair hn h2, bothStep_clash hr hc hlt]
  · rw [step_of_takeTurn ht]
    exact if_pos hi

end Sys2Proof.Machine

/-!
SUPPORT. Accesses of loads and stores beyond the core: the request that they send, and what sending it leaves alone (06 R138 to R142).
-/
namespace Sys2Proof.Machine

open Sys2Proof Sys2Proof.Safety

/-! ### What a step of one core leaves alone -/

/-- Memory, the bents, the dies, the packages and every core but the current one are as they were. -/
structure SameBeyondCore (s u : State) : Prop where
  cur : u.cur = s.cur
  mem : u.mem = s.mem
  bents : u.bents = s.bents
  dies : u.dies = s.dies
  pkgs : u.pkgs = s.pkgs
  cores : ∀ k, k ≠ s.cur → u.coreAt k = s.coreAt k

theorem SameBeyondCore.trans {s u v : State} (h : SameBeyondCore s u) (k : SameBeyondCore u v) : SameBeyondCore s v where
  cur := k.cur.trans h.cur
  mem := k.mem.trans h.mem
  bents := k.bents.trans h.bents
  dies := k.dies.trans h.dies
  pkgs := k.pkgs.trans h.pkgs
  cores n hn := (k.cores n (h.cur ▸ hn)).trans (h.cores n hn)

theorem State.sameBeyondCore_modCore (s : State) (f : Core → Core) : SameBeyondCore s (s.modCore f) :=
  ⟨rfl, rfl, rfl, rfl, rfl, State.coreAt_modCore_of_ne s f⟩

theorem State.sameBeyondCore_modSlot (s : State) (f : Slot → Slot) : SameBeyondCore s (s.modSlot f) := s.sameBeyondCore_modCore _

theorem State.sameBeyondCore_retireAt (s : State) (next : Word) (stall extra : Nat) : SameBeyondCore s (s.retireAt next stall extra) :=
  (s.sameBeyondCore_modSlot _).trans (State.sameBeyondCore_modCore _ _)

theorem State.sameBeyondCore_retire (s : State) : SameBeyondCore s s.retire := s.sameBeyondCore_retireAt ..

theorem State.sameBeyondCore_prepare (s : State) (reads writes : List Reg) : SameBeyondCore s (s.prepare reads writes) := by
  obtain ⟨device, cores, -, -, -, -, -⟩ := s.prepared_prepare reads writes
  exact ⟨by rw [device], by rw [device], by rw [device], by rw [device], by rw [device], cores⟩

/-! ### Settling the context of the current slot -/

theorem Core.settleCtx_frame (c : Core) (kern : Nat) : c.settleCtx kern = { c with ctxs := (c.settleCtx kern).ctxs } := by
  unfold Core.settleCtx
  split <;> rfl

theorem Core.countParked_frame (c : Core) (now : Nat) :
    c.countParked now = { c with perf := (c.countParked now).perf, parkedFrom := (c.countParked now).parkedFrom } := by
  unfold Core.countParked
  split <;> split <;> rfl

/-- What settling a context does to the current core: it keeps slots and requests. -/
theorem State.settle_eq_modCore (s : State) (slot : Nat) :
    ∃ f : Core → Core, s.settle s.cur slot = s.modCore f ∧
      ∀ c, (f c).slots = c.slots ∧ (f c).curSlot = c.curSlot ∧ (f c).requests = c.requests := by
  unfold State.settle
  split
  · next k _ =>
    refine ⟨fun c => (c.settleCtx k).countParked s.cycle, rfl, fun c => ?_⟩
    dsimp only
    rw [Core.countParked_frame, Core.settleCtx_frame]
    exact ⟨rfl, rfl, rfl⟩
  · refine ⟨fun c => c.countParked s.cycle, rfl, fun c => ?_⟩
    dsimp only
    rw [Core.countParked_frame]
    exact ⟨rfl, rfl, rfl⟩

theorem State.slot_settle (s : State) (slot : Nat) : (s.settle s.cur slot).slot = s.slot := by
  obtain ⟨f, hf, hk⟩ := s.settle_eq_modCore slot
  rw [hf]
  exact State.slot_modCore_keep s f fun c => ⟨(hk c).1, (hk c).2.1⟩

theorem State.requests_settle (s : State) (slot : Nat) : (s.settle s.cur slot).core.requests = s.core.requests := by
  obtain ⟨f, hf, hk⟩ := s.settle_eq_modCore slot
  rw [hf, State.core_modCore]
  exact (hk s.core).2.2

theorem State.sameBeyondCore_settle (s : State) (slot : Nat) : SameBeyondCore s (s.settle s.cur slot) := by
  obtain ⟨f, hf, -⟩ := s.settle_eq_modCore slot
  rw [hf]
  exact s.sameBeyondCore_modCore f

/-! ### The request -/

/-- The request that the current slot sends next (06 R141). -/
def State.nextRequest (s : State) (addr : Word) (op : ReqOp) (dest : ReqDest) : Request :=
  { id := s.core.nextReq, slot := s.core.curSlot.val, kern := s.slot.ctx, sup := s.slot.mode ≠ .task, addr := addr, op := op, dest := dest }

theorem State.requests_addRequest (s : State) (addr : Word) (op : ReqOp) (dest : ReqDest) :
    (s.addRequest addr 0 op dest).core.requests = s.core.requests ++ [s.nextRequest addr op dest] := by
  unfold State.addRequest
  rw [State.core_modCore]
  rfl

theorem State.slot_addRequest (s : State) (addr : Word) (op : ReqOp) (dest : ReqDest) : (s.addRequest addr 0 op dest).slot = s.slot :=
  State.slot_modCore_keep _ _ fun _ => ⟨rfl, rfl⟩

theorem State.sameBeyondCore_addRequest (s : State) (addr : Word) (op : ReqOp) (dest : ReqDest) :
    SameBeyondCore s (s.addRequest addr 0 op dest) := s.sameBeyondCore_modCore _

theorem State.slot_awaitReply (s : State) (id : Nat) :
    (s.awaitReply id).slot = { s.slot with run := .awaiting id, nextIssue := s.cycle + 1, parked := false } := by
  refine (State.slot_settle _ _).trans ?_
  rw [State.slot_modCore_keep]
  · rw [State.slot_modSlot]
  · exact fun _ => ⟨rfl, rfl⟩

theorem State.requests_awaitReply (s : State) (id : Nat) : (s.awaitReply id).core.requests = s.core.requests := by
  refine (State.requests_settle _ _).trans ?_
  rw [State.core_modCore, State.core_modSlot]

theorem State.sameBeyondCore_awaitReply (s : State) (id : Nat) : SameBeyondCore s (s.awaitReply id) :=
  ((s.sameBeyondCore_modSlot _).trans (State.sameBeyondCore_modCore _ _)).trans (State.sameBeyondCore_settle _ _)

theorem State.requests_retire (s : State) : s.retire.core.requests = s.core.requests := by
  rw [State.retire, State.core_retireAt]

/-! ### The access -/

theorem State.checkAccess_of_spaceCheck {s : State} {addr : Word} {n : Nat} {target : Target} (hd : descriptorOk s.hasFeature addr = true)
    (ha : addr.toNat % n = 0) (h0 : spaceOf addr ≠ 0) (hc : s.spaceCheck addr = .ok target) (use : PageUse) :
    s.checkAccess use n addr = (s, .ok target) := by
  simp [State.checkAccess, hd, ha, h0, hc]

/-- 06 R141: a load beyond the core sends its request and parks. -/
theorem loadOp_of_away {i : Instr} {t a : BitVec 5} {o : BitVec 13} {n : Nat} {s p : State} {addr : Word} (hi : Issues i [.g a] [.g t] s)
    (hp : s.prepare [.g a] [.g t] = p) (hm : addOffset (p.readG a) (o.toInt * n) = some addr) (hs : p.copyStall addr n = false)
    (hc : p.checkAccess .load n addr = (p, .ok .away)) (hr : p.core.roomFor 1 = true) (signed : Bool) :
    loadOp i t a o n signed false s =
      .next ((p.addRequest addr 0 (.load n) (.g t n signed (p.taintOf a) 0)).awaitReply p.core.nextReq) := by
  unfold loadOp
  rw [issue_of_issues hi, hp]
  simp [mAddress, hm, State.loadAccess, hs, hc, State.loadTarget, State.sendAndPark, hr]

/-- 06 R141: a store beyond the core sends a posted request and goes on. -/
theorem storeOp_of_away {i : Instr} {t a : BitVec 5} {o : BitVec 13} {n : Nat} {s p : State} {addr : Word} (hi : Issues i [.g a, .g t] [] s)
    (hp : s.prepare [.g a, .g t] [] = p) (hm : addOffset (p.readG a) (o.toInt * n) = some addr) (hs : p.copyStall addr n = false)
    (hc : p.checkAccess .store n addr = (p, .ok .away)) (hr : p.core.roomFor 1 = true) :
    storeOp i t a o n s = .next (p.addRequest addr 0 (.store n (p.readG t).toNat (fullMask n)) .posted).retire := by
  unfold storeOp
  rw [issue_of_issues hi, hp]
  simp [mAddress, hm, hs, hc, State.storeTarget, hr]

/-- The plain loads and the stores, each with its size, whether it loads, and whether it extends the sign (04 R95). -/
def accessForms (t a : BitVec 5) (o : BitVec 13) : List (Instr × Nat × Bool × Bool) := [
  (.ldB t a o, 1, true, true), (.ldH t a o, 2, true, true), (.ldW t a o, 4, true, true), (.ldD t a o, 8, true, true),
  (.ldzB t a o, 1, true, false), (.ldzH t a o, 2, true, false), (.ldzW t a o, 4, true, false),
  (.stB t a o, 1, false, false), (.stH t a o, 2, false, false), (.stW t a o, 4, false, false), (.stD t a o, 8, false, false)]

theorem exec_of_mem_accessForms {t a : BitVec 5} {o : BitVec 13} {i : Instr} {n : Nat} {load signed : Bool}
    (h : (i, n, load, signed) ∈ accessForms t a o) (s : State) :
    exec i s = if load then loadOp i t a o n signed false s else storeOp i t a o n s := by
  simp only [accessForms, List.mem_cons, List.not_mem_nil, or_false, Prod.mk.injEq] at h
  rcases h with h | h | h | h | h | h | h | h | h | h | h <;> obtain ⟨rfl, rfl, rfl, rfl⟩ := h <;> rfl

/-- Settles O12: a load parks on the request that it adds, a store retires after adding it. -/
theorem remoteAccessesSendRequests : Obligations.RemoteAccessesSendRequests := by
  intro t a o s i n load signed hmem reads writes hi p addr hm hs hd ha h0 hc hr
  have hexec := exec_of_mem_accessForms hmem s
  have hcheck := State.checkAccess_of_spaceCheck hd ha h0 hc
  have hprep : SameBeyondCore s p := s.sameBeyondCore_prepare reads writes
  have hpc : p.slot.pc = s.slot.pc := s.pc_prepare reads writes
  cases load with
  | true =>
    have hu := hprep.trans ((p.sameBeyondCore_addRequest addr (.load n) (.g t n signed (p.taintOf a) 0)).trans
      (State.sameBeyondCore_awaitReply _ p.core.nextReq))
    refine ⟨_, p.nextRequest addr (.load n) (.g t n signed (p.taintOf a) 0),
      hexec.trans (loadOp_of_away hi rfl hm hs (hcheck .load) hr signed), ?_, rfl, rfl, rfl, rfl, rfl, rfl, rfl, rfl, ?_, ?_,
      hu.mem, hu.bents, hu.dies, hu.pkgs, hu.cores⟩
    · exact (State.requests_awaitReply ..).trans (State.requests_addRequest ..)
    · rw [State.slot_awaitReply]; rfl
    · rw [State.slot_awaitReply, State.slot_addRequest]; exact hpc
  | false =>
    have hu := hprep.trans ((p.sameBeyondCore_addRequest addr (.store n (p.readG t).toNat (fullMask n)) .posted).trans
      (State.sameBeyondCore_retire _))
    refine ⟨_, p.nextRequest addr (.store n (p.readG t).toNat (fullMask n)) .posted,
      hexec.trans (storeOp_of_away hi rfl hm hs (hcheck .store) hr), ?_, rfl, rfl, rfl, rfl, rfl, rfl, rfl, rfl, ?_, ?_,
      hu.mem, hu.bents, hu.dies, hu.pkgs, hu.cores⟩
    · exact (State.requests_retire _).trans (State.requests_addRequest ..)
    · rw [State.retire, State.slot_retireAt]; rfl
    · rw [State.retire, State.slot_retireAt, State.slot_addRequest]; exact congrArg (· + 4) hpc

end Sys2Proof.Machine

/-!
SUPPORT. Loads and stores of space 0 that hit the L1D (08 tables 8.1 and 8.3; 07 R153, R159).
-/
namespace Sys2Proof.Machine

open Sys2Proof Sys2Proof.Safety

/-! ### The forms -/

/-- The plain loads, each with its size and whether it extends the sign (04 R95). -/
def loadForms (t a : BitVec 5) (o : BitVec 13) : List (Instr × Nat × Bool) := [
  (.ldB t a o, 1, true), (.ldH t a o, 2, true), (.ldW t a o, 4, true), (.ldD t a o, 8, true),
  (.ldzB t a o, 1, false), (.ldzH t a o, 2, false), (.ldzW t a o, 4, false)]

/-- The stores, each with its size (04 R95). -/
def storeForms (t a : BitVec 5) (o : BitVec 13) : List (Instr × Nat) :=
  [(.stB t a o, 1), (.stH t a o, 2), (.stW t a o, 4), (.stD t a o, 8)]

theorem accessForms_eq_append (t a : BitVec 5) (o : BitVec 13) :
    accessForms t a o = (loadForms t a o).map (fun x => (x.1, x.2.1, true, x.2.2)) ++ (storeForms t a o).map fun x => (x.1, x.2, false, false) := rfl

theorem exec_of_mem_loadForms {t a : BitVec 5} {o : BitVec 13} {i : Instr} {n : Nat} {signed : Bool} (h : (i, n, signed) ∈ loadForms t a o)
    (s : State) : exec i s = loadOp i t a o n signed false s :=
  exec_of_mem_accessForms (load := true)
    (accessForms_eq_append t a o ▸ List.mem_append_left _ (List.mem_map_of_mem (f := fun x => (x.1, x.2.1, true, x.2.2)) h)) s

theorem exec_of_mem_storeForms {t a : BitVec 5} {o : BitVec 13} {i : Instr} {n : Nat} (h : (i, n) ∈ storeForms t a o)
    (s : State) : exec i s = storeOp i t a o n s :=
  exec_of_mem_accessForms (load := false) (signed := false)
    (accessForms_eq_append t a o ▸ List.mem_append_right _ (List.mem_map_of_mem (f := fun x => (x.1, x.2, false, false)) h)) s

/-! ### Loads -/

/-- A load whose access answers a value delivers it and goes on. -/
theorem loadOp_of_ok {i : Instr} {t a : BitVec 5} {o : BitVec 13} {n v : Nat} {signed : Bool} {s u : State} {addr : Word}
    (hi : Issues i [.g a] [.g t] s) (hm : addOffset ((s.prepare [.g a] [.g t]).readG a) (o.toInt * n) = some addr)
    (hl : (s.prepare [.g a] [.g t]).loadAccess addr n = (u, .ok v)) :
    loadOp i t a o n signed false s =
      .next (u.putG t (extendBytes n signed v) 4 false ((s.prepare [.g a] [.g t]).taintOf a)).retire := by
  unfold loadOp
  rw [issue_of_issues hi]
  simp [mAddress, hm, hl]

/-- A load whose access waits parks. -/
theorem loadOp_of_wait {i : Instr} {t a : BitVec 5} {o : BitVec 13} {n : Nat} {signed : Bool} {s u : State} {addr : Word}
    (hi : Issues i [.g a] [.g t] s) (hm : addOffset ((s.prepare [.g a] [.g t]).readG a) (o.toInt * n) = some addr)
    (hl : (s.prepare [.g a] [.g t]).loadAccess addr n = (u, .wait)) : loadOp i t a o n signed false s = .next u.wait := by
  unfold loadOp
  rw [issue_of_issues hi]
  simp [mAddress, hm, hl]

theorem State.loadAccess_of_checkAccess {p q : State} {addr : Word} {n : Nat} {target : Target} (hs : p.copyStall addr n = false)
    (hc : p.checkAccess .load n addr = (q, .ok target)) : p.loadAccess addr n = q.loadTarget addr target n := by
  simp [State.loadAccess, hs, hc]

/-- The bytes of a sector need no cut at their width. -/
theorem extendBytes_vecBytes (n : Nat) (signed : Bool) (v : Vec) (off : Nat) :
    extendBytes n signed (vecBytes v off n) =
      if signed then BitVec.ofInt 64 (toSigned (8 * n) (vecBytes v off n)) else BitVec.ofNat 64 (vecBytes v off n) := by
  have hcut : vecBytes v off n % 2 ^ (8 * n) = vecBytes v off n := Nat.mod_mod _ _
  rw [extendBytes, hcut]

/-- The number of a line from that of its sector. -/
theorem div_64_div_4 (pa : Nat) : pa / 64 / 4 = pa / 256 := Nat.div_div_eq_div_mul pa 64 4

/-- 08 table 8.3: a hit answers the bytes of the sector and makes its line the most recently used. -/
theorem State.l1Load_of_hit {q : State} {pa : Nat} (n : Nat) (hf : AMap.find? q.slot.fill (pa / 64) = none)
    (hx : (q.core.sector (pa / 64)).st ∈ [.s, .e, .o, .m])
    (ha : (q.core.sector (pa / 64)).st = .s ∨ q.aged (bentOf q.cur) (pa / 256) = false) :
    q.l1Load pa n = (q.modCore fun c => c.touch (pa / 256), some (vecBytes (q.core.sector (pa / 64)).data (pa % 64) n)) := by
  simp only [List.mem_cons, List.not_mem_nil, or_false] at hx
  have haged := ha.resolve_left
  simp only [State.l1Load, hf, div_64_div_4]
  rcases hx with h | h | h | h
  · simp only [h]
  all_goals simp only [h, haged (by simp [h]), Bool.false_eq_true, if_false]

/-- 07 R159: of a line that an acquire has aged, an E, O or M sector is sent back, and the load misses. -/
theorem State.l1Load_of_aged {q : State} {pa : Nat} (n : Nat) (hf : AMap.find? q.slot.fill (pa / 64) = none)
    (hx : (q.core.sector (pa / 64)).st ∈ [.s, .e, .o, .m]) (hs : (q.core.sector (pa / 64)).st ≠ .s)
    (ha : q.aged (bentOf q.cur) (pa / 256) = true) :
    q.l1Load pa n = (q.modCore fun c => c.sendBack q.cycle (pa / 64) [], none) := by
  simp only [List.mem_cons, List.not_mem_nil, or_false] at hx
  simp only [State.l1Load, hf, div_64_div_4, ha]
  rcases hx with h | h | h | h
  · exact absurd h hs
  all_goals simp only [h, if_true]

/-- A load of memory at an address where nothing waits answers as its L1D does, where no granule is poisoned. -/
theorem State.loadTarget_mem_of_l1Load {q u : State} {addr : Word} {pa n : Nat} {table : Bool} {v : Option Nat}
    (hp : q.homePending q.cur pa n = false) (he : AMap.find? q.slot.fillErr (pa / 64) = none) (hl : q.l1Load pa n = (u, v))
    (hv : v.isSome → u.poisoned pa n = false) :
    q.loadTarget addr (.mem pa table) n = (u, (v.map .ok).getD .wait) := by
  cases v with
  | none => simp [State.loadTarget, hp, he, hl]
  | some v => simp [State.loadTarget, hp, he, hl, hv]

/-- Settles O7: the access is a hit of the L1D, or sends the aged sector back and waits. -/
theorem loadsFromCachedMemory : Obligations.LoadsFromCachedMemory := by
  intro t a o s i n signed hmem hi p addr q pa table hm hs hc hp he hf hpoison hx
  have hexec := exec_of_mem_loadForms hmem s
  have haccess := State.loadAccess_of_checkAccess hs hc
  refine ⟨fun ha => ?_, fun hne ha => ?_⟩
  · have hload := haccess.trans (State.loadTarget_mem_of_l1Load hp he (State.l1Load_of_hit n hf hx ha) fun _ => hpoison)
    rw [hexec, loadOp_of_ok hi hm hload, extendBytes_vecBytes]
  · have hload := haccess.trans (State.loadTarget_mem_of_l1Load hp he (State.l1Load_of_aged n hf hx hne ha) nofun)
    rw [hexec, loadOp_of_wait hi hm hload]

/-! ### Stores -/

/-- A store whose target is written goes on, and one whose target is not parks. -/
theorem storeOp_of_checkAccess {i : Instr} {t a : BitVec 5} {o : BitVec 13} {n : Nat} {s q : State} {addr : Word} {target : Target}
    (hi : Issues i [.g a, .g t] [] s) (hm : addOffset ((s.prepare [.g a, .g t] []).readG a) (o.toInt * n) = some addr)
    (hs : (s.prepare [.g a, .g t] []).copyStall addr n = false)
    (hc : (s.prepare [.g a, .g t] []).checkAccess .store n addr = (q, .ok target)) :
    storeOp i t a o n s =
      .next (((q.storeTarget addr target n ((s.prepare [.g a, .g t] []).readG t).toNat (fullMask n)).map fun u => u.retire).getD q.wait) := by
  unfold storeOp
  rw [issue_of_issues hi]
  cases h : q.storeTarget addr target n ((s.prepare [.g a, .g t] []).readG t).toNat (fullMask n) <;> simp [mAddress, hm, hs, hc, h]

/-- A sector in M or E after a store: in M, with the bytes merged and marked dirty. -/
def Sector.stored (x : Sector) (data : Vec) (mask : BitVec 64) : Sector :=
  { x with st := .m, data := mergeVec x.data data mask, dirty := if x.st = .m then x.dirty ||| mask else mask }

/-- 08 table 8.3: a store to a sector in M or E is done at once. -/
theorem Core.storeSector_of_m_or_e {c : Core} {sector : Nat} (h : (c.sector sector).st = .m ∨ (c.sector sector).st = .e) (t slot : Nat)
    (data : Vec) (mask : BitVec 64) :
    c.storeSector t sector slot data mask = some ((c.setSector sector ((c.sector sector).stored data mask)).touch (sector / 4)) := by
  unfold Core.storeSector Sector.stored
  rcases h with h | h <;> simp [h]

theorem fullMask_mod (n : Nat) : fullMask n % 2 ^ n = 2 ^ n - 1 := Nat.mod_eq_of_lt (Nat.sub_lt (Nat.two_pow_pos n) Nat.one_pos)

/-- A store of n whole bytes to a sector in M or E of a page that is not written through. -/
theorem State.storeMem_of_m_or_e {q : State} {addr : Word} {pa n : Nat} {table : Bool} (v : Nat) (hp : q.homePending q.cur pa n = false)
    (hw : q.writesThrough pa table = false) (h : (q.core.sector (pa / 64)).st = .m ∨ (q.core.sector (pa / 64)).st = .e) :
    q.storeMem addr pa table n v (fullMask n) = some (q.modCore fun c =>
      (c.setSector (pa / 64) ((q.core.sector (pa / 64)).stored (BitVec.ofNat 512 (v % 2 ^ (8 * n) * 2 ^ (8 * (pa % 64))))
        (BitVec.ofNat 64 ((2 ^ n - 1) * 2 ^ (pa % 64))))).touch (pa / 256)) := by
  simp only [State.storeMem, hp, hw, Core.storeSector_of_m_or_e h, fullMask_mod, div_64_div_4]
  rfl

/-- Settles O9: the store waits for the earlier ones of its task, then the L1D merges its bytes. -/
theorem storesToCachedMemory : Obligations.StoresToCachedMemory := by
  intro t a o s i n hmem hi p addr q pa table hm hs hc hp hw x
  have hexec := (exec_of_mem_storeForms hmem s).trans (storeOp_of_checkAccess hi hm hs hc)
  refine ⟨fun hd => ?_, fun hx hd => ?_⟩
  · rw [hexec]; simp [State.storeTarget, hd]
  · rw [hexec]; simp [State.storeTarget, hd, State.storeMem_of_m_or_e _ hp hw hx, Sector.stored, x, p]

end Sys2Proof.Machine

/-!
SUPPORT. Cache operations (07 R165): what retiring leaves alone, and that maintaining a line keeps the current core.
-/
namespace Sys2Proof.Machine

open Sys2Proof Sys2Proof.Safety

/-! ### Retiring without a result -/

theorem State.putG_zero (s : State) (x : Word) (lat : Nat) (fixed taint : Bool) : s.putG 0 x lat fixed taint = s := rfl

/-- Retiring writes no register and leaves everything else as it was (02 R39). -/
theorem State.onlyWrites_retireAt (p : State) (next : Word) (st ex : Nat) : OnlyWrites [] p (p.retireAt next st ex) := by
  have h := State.onlyWrites_putG_retireAt p 0 0 0 false false next st ex
  rw [State.putG_zero] at h
  refine ⟨h.device, h.cores, h.core, h.slots, h.slot, fun r _ => ?_, fun r _ => ?_⟩
  · obtain ⟨hg, ht, -⟩ := State.landAll_retireAt p next st ex r
    exact ⟨hg, ht⟩
  · obtain ⟨-, -, hv⟩ := State.landAll_retireAt p next st ex r
    exact hv

theorem State.pc_retire (s : State) : s.retire.slot.pc = s.slot.pc + 4 := by rw [State.retire, State.slot_retireAt]

/-! ### The current core of a state whose caches are maintained -/

theorem State.cur_foldl {α : Type} {f : State → α → State} (hf : ∀ s x, (f s x).cur = s.cur) (l : List α) (s : State) :
    (l.foldl f s).cur = s.cur := by
  induction l generalizing s with
  | nil => rfl
  | cons x l ih => exact (ih (f s x)).trans (hf s x)

theorem State.cur_pushWrite (s : State) (pa n v mask : Nat) : (s.pushWrite pa n v mask).cur = s.cur := by
  refine State.cur_foldl (fun _ _ => ?_) _ s
  rfl

theorem State.cur_homePerform (s : State) (pa n v mask : Nat) : (s.homePerform pa n v mask).cur = s.cur := by
  have hmark : ∀ u : State, (u.markRehome pa).cur = u.cur := fun _ => rfl
  unfold State.homePerform
  simp only [apply_ite State.cur, hmark, State.cur_pushWrite]
  simp only [State.tap, ite_self]

theorem State.cur_homeWrite (s : State) (pa n v mask : Nat) (source : Option (Nat × Nat)) : (s.homeWrite pa n v mask source).cur = s.cur := by
  unfold State.homeWrite
  split
  · rfl
  · split
    · refine (State.cur_foldl (fun _ _ => ?_) _ _).trans ?_
      · rfl
      · rfl
    · split
      · split
        · rfl
        · exact s.cur_homePerform pa n v mask
      · exact s.cur_homePerform pa n v mask

theorem State.cur_l2Put (s : State) (bent line o n v mask : Nat) : (s.l2Put bent line o n v mask).cur = s.cur := by
  unfold State.l2Put
  split
  · rfl
  · exact s.cur_homeWrite _ n v mask none

theorem State.cur_cleanFrom (s : State) (bent core line : Nat) : (s.cleanFrom bent core line).cur = s.cur := by
  refine State.cur_foldl (fun u i => ?_) _ s
  dsimp only
  split
  · exact u.cur_l2Put ..
  · exact u.cur_l2Put ..
  · exact u.cur_l2Put ..
  · rfl

/-- Cleaning a line out of the L1Ds of several cores names the same bent at each. -/
theorem State.foldl_cleanFrom {s : State} {bent : Nat} (h : bentOf s.cur = bent) (line : Nat) (l : List Nat) :
    l.foldl (fun s k => s.cleanFrom (bentOf s.cur) k line) s = l.foldl (fun s k => s.cleanFrom bent k line) s := by
  induction l generalizing s with
  | nil => simp only [List.foldl_nil]
  | cons k l ih =>
    rw [List.foldl_cons, List.foldl_cons, h]
    exact ih (by rw [State.cur_cleanFrom, h])

theorem State.cleanCopies_eq (s : State) (line scope : Nat) :
    s.cleanCopies line scope = if scope < 3 then s.cleanFrom (bentOf s.cur) s.cur line
      else ((coresOfBent (bentOf s.cur)).foldl (fun s k => s.cleanFrom (bentOf s.cur) k line) s).writeBack (bentOf s.cur) line := by
  rw [State.foldl_cleanFrom rfl]; rfl

/-! ### Cache operations -/

/-- The cache operations, each with how it accesses the page and what it does to a line (07 R165). -/
def cacheForms (a : BitVec 5) (c : BitVec 3) : List (Instr × PageUse × (State → Nat → State)) := [
  (.cclean a c, .load, fun q line => if c.toNat < 3 then q.cleanFrom (bentOf q.cur) q.cur line
    else ((coresOfBent (bentOf q.cur)).foldl (fun q k => q.cleanFrom (bentOf q.cur) k line) q).writeBack (bentOf q.cur) line),
  (.cinv a c, .store, fun q line => q.invalidateLine line c.toNat), (.cflush a c, .store, fun q line => q.invalidateLine line c.toNat)]

theorem exec_of_mem_cacheForms {a : BitVec 5} {c : BitVec 3} {i : Instr} {use : PageUse} {act : State → Nat → State}
    (h : (i, use, act) ∈ cacheForms a c) (s : State) : exec i s = cacheOp i a c use act s := by
  simp only [cacheForms, List.mem_cons, List.not_mem_nil, or_false, Prod.mk.injEq] at h
  rcases h with h | h | h <;> obtain ⟨rfl, rfl, rfl⟩ := h
  · simp only [← State.cleanCopies_eq]; rfl
  · rfl
  · rfl

/-- 07 R165: on an address of spaces 1 to 6 a cache operation only goes on. -/
theorem cacheOp_of_space {i : Instr} {a : BitVec 5} {c : BitVec 3} {s : State} (hi : Issues i [.g a] [] s)
    (h : 1 ≤ spaceOf ((s.prepare [.g a] []).readG a) ∧ spaceOf ((s.prepare [.g a] []).readG a) ≤ 6) (use : PageUse)
    (act : State → Nat → State) : cacheOp i a c use act s = .next (s.prepare [.g a] []).retire := by
  unfold cacheOp
  rw [issue_of_issues hi]
  exact congrArg _ (if_pos h)

/-- 07 R165: a settled line of memory is maintained in the step of the instruction. -/
theorem cacheOp_of_settled {i : Instr} {a : BitVec 5} {c : BitVec 3} {use : PageUse} {s q : State} {pa : Nat} {table : Bool}
    (hi : Issues i [.g a] [] s) (h0 : spaceOf ((s.prepare [.g a] []).readG a) = 0)
    (hc : (s.prepare [.g a] []).checkAccess use 1 ((s.prepare [.g a] []).readG a) = (q, .ok (.mem pa table))) (hl : q.lineFree pa = true)
    (hr : 3 ≤ c.toNat → q.homeRoute (bentOf q.cur) pa ≠ .wait) (act : State → Nat → State) :
    cacheOp i a c use act s = .next (act q (pa / 256)).retire := by
  unfold cacheOp
  rw [issue_of_issues hi]
  simpa [h0, hc, hl] using fun h3 hw => absurd hw (hr h3)

/-- Settles O16: the two ends of a cache operation that does not wait. -/
theorem cacheOperationsComplete : Obligations.CacheOperationsComplete := by
  intro a c s i use act hmem hi p
  have hexec := exec_of_mem_cacheForms hmem s
  refine ⟨fun h => ⟨p.retire, hexec.trans (cacheOp_of_space hi h use act), p.onlyWrites_retireAt .., ?_⟩, fun q pa table h0 hc hl hr => ?_⟩
  · rw [State.pc_retire, State.pc_prepare]
  · exact hexec.trans (cacheOp_of_settled hi h0 hc hl hr act)

end Sys2Proof.Machine

/-!
SUPPORT. Fences, their status word and QFENCE (07 R160 to R162, table 7.3, R167).  The clauses of O15 on fences and on the status word hold
(fence_completes, fenceStatus_fields); its clause on QFENCE holds of the registers once the results in flight have landed (qfence_completes), and
not of the registers as they stand.
-/
namespace Sys2Proof.Machine

open Sys2Proof Sys2Proof.Safety

/-! ### Fences -/

/-- The fences, each with its kind: 0 acquire, 1 release, 2 full (07 R160). -/
def fenceForms (d : BitVec 5) (c : BitVec 3) : List (Instr × Nat) := [(.fenceAcq d c, 0), (.fenceRel d c, 1), (.fenceFull d c, 2)]

theorem exec_of_mem_fenceForms {d : BitVec 5} {c : BitVec 3} {i : Instr} {kind : Nat} (h : (i, kind) ∈ fenceForms d c) (s : State) :
    exec i s = fenceOp i kind d c s := by
  simp only [fenceForms, List.mem_cons, List.not_mem_nil, or_false, Prod.mk.injEq] at h
  rcases h with h | h | h <;> obtain ⟨rfl, rfl⟩ := h <;> rfl

/-- A fence whose release can complete and loses no line ends after it (07 R160, R161). -/
theorem fenceOp_of_releaseReady {i : Instr} {kind : Nat} {d : BitVec 5} {c : BitVec 3} {s p : State} (hi : Issues i [] [.g d] s)
    (hp : s.prepare [] [.g d] = p) (hr : kind ≠ 0 → p.releaseReady p.cur p.core.curSlot.val c.toNat = true)
    (hl : kind = 0 ∨ c.toNat < 3 ∨ p.lostLines p.cur = []) :
    fenceOp i kind d c s = .next ((if kind = 0 then p else p.release p.cur c.toNat).fenceEnd kind c.toNat d []) := by
  unfold fenceOp
  rw [issue_of_issues hi, hp]
  by_cases hk : kind = 0
  · simp only [hk, if_true]
  · have hlost : (if 3 ≤ c.toNat then p.lostLines p.cur else []) = [] := by
      rcases hl with h | h | h
      · exact absurd h hk
      · rw [if_neg (by omega)]
      · rw [h, ite_self]
    simp only [hk, if_false, hlost, State.released, hr hk, if_true]

/-- 07 R161: what a fence that lost no line reports of the posted-error record. -/
def PostedError.fenceStatus (e : PostedError) (scope : Nat) : Word := Machine.fenceStatus scope e e.lost (if e.lost ≠ 0 then e.link else 0)

/-- What a fence that lost no line leaves after its maintenance: the status word delivered, what it reports cleared, and after FENCE.full.core no
word fetched ahead (07 R160, R161; 02 R49). -/
def State.fenceReport (r : State) (kind scope : Nat) (d : BitVec 5) : State :=
  ((r.modSlot fun sl => { sl with perr := sl.perr.reported scope, ahead := if kind = 2 && scope = 0 then none else sl.ahead }).putG d
    (r.slot.perr.fenceStatus scope) 2 false).retire

theorem State.fencetrap_modSlot (s : State) (f : Slot → Slot) : (s.modSlot f).core.fencetrap = s.core.fencetrap := by
  rw [State.core_modSlot]

theorem State.fencetrap_putG (s : State) (r : BitVec 5) (x : Word) (lat : Nat) (fixed taint : Bool) :
    (s.putG r x lat fixed taint).core.fencetrap = s.core.fencetrap := by rw [State.core_putG]

theorem State.fencetrap_retire (s : State) : s.retire.core.fencetrap = s.core.fencetrap := by
  rw [State.retire, State.core_retireAt]

theorem State.fencetrap_fenceReport (r : State) (kind scope : Nat) (d : BitVec 5) :
    (r.fenceReport kind scope d).core.fencetrap = r.core.fencetrap := by
  rw [State.fenceReport, State.fencetrap_retire, State.fencetrap_putG, State.fencetrap_modSlot]

/-- 07 R160 to R162: the end of a fence that lost no line, where no trap is asked for. -/
theorem State.fenceEnd_of_no_trap {s r : State} {kind scope : Nat} (hr : (if kind = 1 then s else s.acquire s.cur scope) = r) (d : BitVec 5)
    (hf : r.core.fencetrap = false) : s.fenceEnd kind scope d [] = r.fenceReport kind scope d := by
  have htrap : (r.fenceReport kind scope d).core.fencetrap = false := (r.fencetrap_fenceReport kind scope d).trans hf
  unfold State.fenceEnd
  simp only [hr]
  refine if_neg fun h => ?_
  rw [Bool.and_eq_true] at h
  exact Bool.false_ne_true (htrap.symm.trans h.1)

/-- 07 R160 to R162, 02 R49: a fence whose release can complete and loses no line, where no trap is asked for. -/
theorem fence_completes {d : BitVec 5} {c : BitVec 3} {s : State} {i : Instr} {kind : Nat} (h : (i, kind) ∈ fenceForms d c)
    (hi : Issues i [] [.g d] s) :
    let p := s.prepare [] [.g d]
    (kind ≠ 0 → p.releaseReady p.cur p.core.curSlot.val c.toNat = true) → (kind = 0 ∨ c.toNat < 3 ∨ p.lostLines p.cur = []) →
      let q := if kind = 0 then p else p.release p.cur c.toNat
      let r := if kind = 1 then q else q.acquire q.cur c.toNat
      r.core.fencetrap = false → exec i s = .next (r.fenceReport kind c.toNat d) := by
  intro p hready hlost q r hf
  rw [exec_of_mem_fenceForms h, fenceOp_of_releaseReady hi rfl hready hlost]
  exact congrArg _ (State.fenceEnd_of_no_trap rfl d hf)

/-! ### The status word (07 table 7.3) -/

/-- The fields of a word that holds flags at bits 0, 1 and 63, two bytes at bits 16 and 24 and a half word at bit 32. -/
theorem packedStatus_fields {p l k y m t : Nat} (hp : p < 2) (hl : l < 2) (hk : k < 2 ^ 8) (hy : y < 2 ^ 8) (hm : m < 2 ^ 16) (ht : t < 2) :
    let w := BitVec.ofNat 64 (p + 2 * l + k * 2 ^ 16 + y * 2 ^ 24 + m * 2 ^ 32 + t * 2 ^ 63)
    w.getLsbD 0 = decide (p = 1) ∧ w.getLsbD 1 = decide (l = 1) ∧ bits w 16 8 = BitVec.ofNat 8 k ∧ bits w 24 8 = BitVec.ofNat 8 y ∧
      bits w 32 16 = BitVec.ofNat 16 m ∧ w.getLsbD 63 = decide (t = 1) := by
  intro w
  have hbit : ∀ b < 64, w.getLsbD b = decide ((p + 2 * l + k * 2 ^ 16 + y * 2 ^ 24 + m * 2 ^ 32 + t * 2 ^ 63) / 2 ^ b % 2 = 1) := fun b hb => by
    rw [BitVec.getLsbD_ofNat, decide_eq_true hb, Bool.true_and, Nat.testBit_eq_decide_div_mod_eq]
  have hfield : ∀ lo len, lo + len ≤ 64 →
      bits w lo len = BitVec.ofNat len ((p + 2 * l + k * 2 ^ 16 + y * 2 ^ 24 + m * 2 ^ 32 + t * 2 ^ 63) / 2 ^ lo) :=
    fun lo len h => extractLsb'_ofNat h _
  refine ⟨?_, ?_, ?_, ?_, ?_, ?_⟩
  · rw [hbit 0 (by decide), decide_eq_decide]; omega
  · rw [hbit 1 (by decide), decide_eq_decide]; omega
  · rw [hfield 16 8 (by decide), ← BitVec.toNat_inj, BitVec.toNat_ofNat, BitVec.toNat_ofNat]; omega
  · rw [hfield 24 8 (by decide), ← BitVec.toNat_inj, BitVec.toNat_ofNat, BitVec.toNat_ofNat]; omega
  · rw [hfield 32 16 (by decide), ← BitVec.toNat_inj, BitVec.toNat_ofNat, BitVec.toNat_ofNat]; omega
  · rw [hbit 63 (by decide), decide_eq_decide]; omega

/-- A number that counts only under a condition, as a flag times the number. -/
theorem ite_zero_eq_mul (p : Prop) [Decidable p] (k : Nat) : (if p then k else 0) = (if p then 1 else 0) * k := by
  split
  · exact (Nat.one_mul k).symm
  · exact (Nat.zero_mul k).symm

/-- 07 table 7.3: the status word of a fence at package or wider scope is the sum of its fields. -/
theorem fenceStatus_eq_sum {scope : Nat} (hs : 4 ≤ scope) (e : PostedError) (n : Nat) (link : BitVec 8) :
    fenceStatus scope e n link = BitVec.ofNat 64 ((if e.count ≠ 0 then 1 else 0) + 2 * (if n ≠ 0 then 1 else 0) + link.toNat * 2 ^ 16 +
      (if e.count ≠ 0 then e.cause else 0).toNat * 2 ^ 24 + Nat.min n 0xFFFF * 2 ^ 32 + (if e.count ≠ 0 ∨ n ≠ 0 then 1 else 0) * 2 ^ 63) := by
  have hcause : (if e.count ≠ 0 then e.cause else 0).toNat = if e.count ≠ 0 then e.cause.toNat else 0 := by split <;> rfl
  have hlfail : 2 * (if n ≠ 0 then 1 else 0) = if n ≠ 0 then 2 else 0 := by split <;> rfl
  unfold fenceStatus
  rw [if_neg (by omega), hcause, hlfail, ← ite_zero_eq_mul _ (2 ^ 63)]
  simp only [decide_eq_true hs, Bool.true_and, Bool.or_eq_true, bne_iff_ne]

/-- 07 table 7.3: the fields of the status word of a fence at package or wider scope. -/
theorem fenceStatus_fields {scope : Nat} (hs : 4 ≤ scope) (e : PostedError) (n : Nat) (link : BitVec 8) :
    let w := fenceStatus scope e n link
    w.getLsbD 0 = decide (e.count ≠ 0) ∧ w.getLsbD 1 = decide (n ≠ 0) ∧ bits w 16 8 = link ∧
      bits w 24 8 = (if e.count ≠ 0 then e.cause else 0) ∧ bits w 32 16 = BitVec.ofNat 16 (min n 0xFFFF) ∧
      w.getLsbD 63 = decide (e.count ≠ 0 ∨ n ≠ 0) := by
  have hm : Nat.min n 0xFFFF < 2 ^ 16 := Nat.lt_of_le_of_lt (Nat.min_le_right n 0xFFFF) (by decide)
  have hcause : (if e.count ≠ 0 then e.cause else 0).toNat < 2 ^ 8 := BitVec.isLt _
  have hflag : ∀ p : Prop, [Decidable p] → (if p then 1 else 0) < 2 := fun p _ => by split <;> decide
  have hone : ∀ p : Prop, [Decidable p] → ((if p then 1 else 0) = 1 ↔ p) := fun p _ => by split <;> simp only [*, Nat.zero_ne_one]
  have hbyte : ∀ x : BitVec 8, BitVec.ofNat 8 x.toNat = x := fun x => by rw [BitVec.ofNat_toNat, BitVec.setWidth_eq]
  intro w
  obtain ⟨h0, h1, h16, h24, h32, h63⟩ :=
    packedStatus_fields (hflag (e.count ≠ 0)) (hflag (n ≠ 0)) link.isLt hcause hm (hflag (e.count ≠ 0 ∨ n ≠ 0))
  rw [← fenceStatus_eq_sum hs] at h0 h1 h16 h24 h32 h63
  exact ⟨h0.trans (decide_eq_decide.mpr (hone _)), h1.trans (decide_eq_decide.mpr (hone _)), h16.trans (hbyte _), h24.trans (hbyte _), h32,
    h63.trans (decide_eq_decide.mpr (hone _))⟩

/-! ### Queue fences -/

/-- Updating each listed key once changes their entries alone. -/
theorem AMap.getD_foldl_set {α : Type} (g : α → α) (d : α) {l : List Nat} (hl : l.Nodup) (m : AMap α) (b : Nat) :
    AMap.getD (l.foldl (fun m k => AMap.set m k (g (AMap.getD m k d))) m) b d = if b ∈ l then g (AMap.getD m b d) else AMap.getD m b d := by
  induction l generalizing m with
  | nil => rfl
  | cons k l ih =>
    obtain ⟨hk, hl⟩ := List.nodup_cons.mp hl
    rw [List.foldl_cons, ih hl, AMap.getD_set]
    by_cases hb : b = k
    · subst hb; simp [hk]
    · simp [hb]

/-- The queues that the bits of a QFENCE name (07 R167). -/
def namedQueues (q : BitVec 4) : List Nat := (List.range 4).filter fun b => q.getLsbD b

/-- The commands of the current slot in the named queues that are not complete. -/
def State.ownCommands (s : State) (q : BitVec 4) : List Nat :=
  (namedQueues q).flatMap fun b => ((s.core.commands b).filter fun p => p.2 == s.core.curSlot.val).map Prod.fst

theorem nodup_namedQueues (q : BitVec 4) : (namedQueues q).Nodup := List.nodup_range.filter _

/-- What a QFENCE leaves for the later commands of each queue to follow. -/
def State.fencedBy (s : State) (q : BitVec 4) (fenced : AMap (List Nat)) : AMap (List Nat) :=
  (namedQueues q).foldl (fun f b => AMap.set f b ((AMap.getD f b []).filter s.core.openCommands.contains ++ s.ownCommands q)) fenced

theorem State.getD_fencedBy (s : State) (q : BitVec 4) (fenced : AMap (List Nat)) {b : Nat} (hb : b < 4) :
    AMap.getD (s.fencedBy q fenced) b [] =
      if q.getLsbD b then (AMap.getD fenced b []).filter s.core.openCommands.contains ++ s.ownCommands q else AMap.getD fenced b [] := by
  have hmem : b ∈ namedQueues q ↔ q.getLsbD b = true := by simp [namedQueues, hb]
  rw [State.fencedBy, AMap.getD_foldl_set (fun l => l.filter s.core.openCommands.contains ++ s.ownCommands q) [] (nodup_namedQueues q)]
  simp only [hmem]

theorem exec_qfence {q : BitVec 4} {s : State} (hi : Issues (.qfence q) [] [] s) :
    exec (.qfence q) s = .next (State.retire ((s.prepare [] []).modSlot fun sl =>
      { sl with fenced := (s.prepare [] []).fencedBy q sl.fenced })) :=
  issue_of_issues hi _

theorem State.fenced_prepare (s : State) (reads writes : List Reg) : (s.prepare reads writes).slot.fenced = s.slot.fenced := by
  have h := congrArg Slot.fenced (s.prepared_prepare reads writes).slot
  refine Eq.trans h ?_
  split
  · rfl
  · rw [Slot.landUpTo_frame]; rfl

theorem State.fenced_retire (s : State) : s.retire.slot.fenced = s.slot.fenced := by
  rw [State.retire, State.slot_retireAt]
  split
  · rw [Slot.landAll_frame]
  · rfl

/-- The registers of a slot that retires after having parked: every result in flight has landed (02 R39). -/
theorem State.readG_retire_of_parked {s : State} (h : s.slot.parked = true) (r : BitVec 5) : s.retire.readG r = landedG s r := by
  unfold State.readG landedG
  rw [State.retire, State.slot_retireAt, if_pos h]
  rfl

theorem State.landedG_modSlot_of_fenced (s : State) (f : AMap (List Nat) → AMap (List Nat)) (r : BitVec 5) :
    landedG (s.modSlot fun sl => { sl with fenced := f sl.fenced }) r = landedG s r := by
  unfold landedG
  rw [State.slot_modSlot]
  exact Slot.readG_foldl_congr _ _ _ _ rfl

/-- 07 R167, of every slot that issues: QFENCE orders the named queues, goes on at PC + 4, and each register holds what it held once the results in
flight have landed. -/
theorem qfence_completes {q : BitVec 4} {s : State} (hi : Issues (.qfence q) [] [] s) :
    let p := s.prepare [] []
    ∃ t, exec (.qfence q) s = .next t ∧ t.slot.pc = s.slot.pc + 4 ∧ t.slot.run = .ready ∧ t.mem = s.mem ∧ t.bents = s.bents ∧
      (∀ r, landedG t r = landedG p r) ∧
      ∀ b, b < 4 → AMap.getD t.slot.fenced b [] =
        if q.getLsbD b then (AMap.getD s.slot.fenced b []).filter p.core.openCommands.contains ++ p.ownCommands q
        else AMap.getD s.slot.fenced b [] := by
  intro p
  have hp : SameBeyondCore s p := s.sameBeyondCore_prepare [] []
  refine ⟨_, exec_qfence hi, ?_, ?_, hp.mem, hp.bents, fun r => ?_, fun b hb => ?_⟩
  · rw [State.pc_retire, State.slot_modSlot]; exact congrArg (· + 4) (s.pc_prepare [] [])
  · rw [State.retire, State.slot_retireAt]
  · exact (State.landAll_retireAt _ _ _ _ r).1.trans (State.landedG_modSlot_of_fenced _ _ r)
  · rw [State.fenced_retire, State.slot_modSlot, State.getD_fencedBy _ _ _ hb, State.fenced_prepare]

/-- A slot that is parked at its instruction, as one whose issue met a task record in use is (19 R348), while a load of g5 is in flight. -/
def parkedInFlight : State :=
  State.reset.modSlot fun sl => { sl with parked := true, pend := [⟨.g 5, 1, allBits, false, 0, false⟩] }

theorem issues_qfence_parkedInFlight : Issues (.qfence 1) [] [] parkedInFlight :=
  ⟨by decide +kernel, fun _ h => absurd h (by decide +kernel), by decide +kernel, fun _ _ => by decide +kernel⟩

/-- Refutes O15 by its clause on QFENCE: of a slot that has parked, the retirement lands the results in flight (02 R39), so a register need not read
as it did when QFENCE issued: g5 reads 0 there and 1 afterwards. -/
theorem not_fencesAndQueueFences : ¬ Obligations.FencesAndQueueFences := by
  unfold Obligations.FencesAndQueueFences
  rintro ⟨-, -, hqfence⟩
  have hi := issues_qfence_parkedInFlight
  obtain ⟨t, ht, -, -, -, -, hread, -⟩ := hqfence 1 parkedInFlight hi
  obtain rfl := Host.Outcome.next.inj ((exec_qfence hi).symm.trans ht)
  have hparked : (parkedInFlight.prepare [] []).slot.parked = true := (State.parked_prepare ..).trans (by decide +kernel)
  have hlanded : landedG (parkedInFlight.prepare [] []) 5 = 1 := by decide +kernel
  have hstood : (parkedInFlight.prepare [] []).readG 5 = 0 := by decide +kernel
  have h5 := hread 5
  rw [State.readG_retire_of_parked (by rw [State.slot_modSlot]; exact hparked), State.landedG_modSlot_of_fenced, hlanded, hstood] at h5
  exact absurd h5 (by decide)

end Sys2Proof.Machine
